-- ==== Sys2Proof/Word.lean ====
section
/-! DEFINITION. The byte type of the part's frames and the bounded arithmetic of 00 R1.
Quantities the manual counts are Nat (or Int where it signs them); only frame bytes and frame words are bit vectors. -/

namespace Sys2Proof

/-- One byte of an SPI frame, a station-link frame or a payload (R204). -/
abbrev Byte := BitVec 8

/-- R1: a result that would pass a bound is held at the nearer bound. -/
def hold (lo hi x : Int) : Int := max lo (min hi x)

/-- `hold` on naturals. -/
def holdNat (lo hi x : Nat) : Nat := max lo (min hi x)

/-- R1: division rounds toward zero. -/
def divZ (x y : Int) : Int := Int.tdiv x y

/-- The magnitude of a signed quantity. -/
def mag (x : Int) : Nat := x.natAbs

/-- The magnitude of the difference of two unsigned quantities. -/
def gap (x y : Nat) : Nat := (x - y) + (y - x)

/-- `p` percent of a configured quantity, in that quantity's unit (R1). -/
def percent (p q : Nat) : Nat := q * p / 100

end Sys2Proof
end

