-- ==== Sys2Proof/Syntax.lean ====
section
/-! DEFINITION. The commands of the RD-4420: one constructor of `Instr` per row of spec/opcode_table.json, with
the types of their operands. A request carries its fields as its SPI payload gives them (raw codes, so that a value
the entry refuses can be sent); an event carries what the sending block hands over or what its port reads. -/

namespace Sys2Proof

/-- The four stations (00, Stations and banks). -/
inductive Station where
  | s0 | s1 | s2 | s3
  deriving DecidableEq, Repr, Inhabited

/-- One value for each station. -/
structure PerStation (α : Type) where
  s0 : α
  s1 : α
  s2 : α
  s3 : α
  deriving DecidableEq, Repr

namespace PerStation

def fill {α : Type} (x : α) : PerStation α := ⟨x, x, x, x⟩

def get {α : Type} (p : PerStation α) : Station → α
  | .s0 => p.s0
  | .s1 => p.s1
  | .s2 => p.s2
  | .s3 => p.s3

def set {α : Type} (p : PerStation α) (n : Station) (x : α) : PerStation α :=
  match n with
  | .s0 => { p with s0 := x }
  | .s1 => { p with s1 := x }
  | .s2 => { p with s2 := x }
  | .s3 => { p with s3 := x }

/-- The per-station values computed by `f`. -/
def of {α : Type} (f : Station → α) : PerStation α := ⟨f .s0, f .s1, f .s2, f .s3⟩

def toList {α : Type} (p : PerStation α) : List α := [p.s0, p.s1, p.s2, p.s3]

end PerStation

/-- S0 to S3 in order. -/
def Station.all : List Station := [.s0, .s1, .s2, .s3]

/-- The number n of Sn. -/
def Station.num : Station → Nat
  | .s0 => 0 | .s1 => 1 | .s2 => 2 | .s3 => 3

/-- The station on the same side of the truck (00, Partner). -/
def Station.partner : Station → Station
  | .s0 => .s2 | .s1 => .s3 | .s2 => .s0 | .s3 => .s1

/-- The two grid banks. -/
inductive Bank where
  | a | b
  deriving DecidableEq, Repr, Inhabited

/-- One value for each bank. -/
structure PerBank (α : Type) where
  a : α
  b : α
  deriving DecidableEq, Repr

namespace PerBank

def fill {α : Type} (x : α) : PerBank α := ⟨x, x⟩

def get {α : Type} (p : PerBank α) : Bank → α
  | .a => p.a
  | .b => p.b

def set {α : Type} (p : PerBank α) (k : Bank) (x : α) : PerBank α :=
  match k with
  | .a => { p with a := x }
  | .b => { p with b := x }

def of {α : Type} (f : Bank → α) : PerBank α := ⟨f .a, f .b⟩

end PerBank

/-- The other bank. -/
def Bank.other : Bank → Bank
  | .a => .b | .b => .a

/-- A direction of travel (R36). -/
inductive Travel where
  | forward | reverse
  deriving DecidableEq, Repr, Inhabited

/-- The opposite direction of travel. -/
def Travel.opposite : Travel → Travel
  | .forward => .reverse | .reverse => .forward

/-- The station states in the order of R52. -/
inductive StationState where
  | absent | standby | live | tripped | parking | parked | restoring
  deriving DecidableEq, Repr, Inhabited

/-- The six station protection classes, in the order of R204. -/
inductive StationClass where
  | oc | mt | it | sl | lk | iv
  deriving DecidableEq, Repr, Inhabited

/-- The station flags: a set over the six station classes (R52). -/
structure StationFlags where
  oc : Bool
  mt : Bool
  it : Bool
  sl : Bool
  lk : Bool
  iv : Bool
  deriving DecidableEq, Repr

/-- The eight truck protection classes, in the order of R204. -/
inductive TruckClass where
  | gt | gf | dv | os | pl | st | sp | pr
  deriving DecidableEq, Repr, Inhabited

/-- The truck classes whose conditions other blocks hand PU (R180): every truck class but OS, which PU judges itself. -/
inductive HandedClass where
  | gt | gf | dv | pl | st | sp | pr
  deriving DecidableEq, Repr, Inhabited

/-- Why a route is FAULTED (R98, R104). -/
inductive RouteFault where
  | lostPosition | jumpLoop
  deriving DecidableEq, Repr, Inhabited

/-- What a begins event hands PU: the class, and for a route fault its cause (R107). -/
structure ConditionBegin where
  cls   : HandedClass
  cause : Option RouteFault
  deriving DecidableEq, Repr

/-- The kinds of an expiry (R5). -/
inductive ExpiryKind where
  | time | distance
  deriving DecidableEq, Repr, Inhabited

/-- An expiry as claimed: its kind and full value (R5). -/
structure Expiry where
  kind : ExpiryKind
  full : Nat
  deriving DecidableEq, Repr

/-- The owner keys of R6. -/
inductive Key where
  | governorTarget | governorForecast | steeringEnvelope | payloadSpeed | payloadPropel
  | oc (n : Station) | mt (n : Station) | it (n : Station) | sl (n : Station)
  | grid | dv | safe
  deriving DecidableEq, Repr

/-- The hold kinds, in the order of R204. -/
inductive HoldKind where
  | load | dump | wait
  deriving DecidableEq, Repr, Inhabited

/-- The causes a hold-left event names (R106). -/
inductive HoldCause where
  | resume | abort | routeStart | routeStop | fault
  deriving DecidableEq, Repr, Inhabited

/-- The body-down switch (R163). -/
inductive Body where
  | down | up
  deriving DecidableEq, Repr, Inhabited

/-- One optional change of AMEND_CEILING (R19, R204): left, replaced, or removed. -/
inductive Choice (α : Type) where
  | leave
  | replace (v : α)
  | remove
  deriving DecidableEq, Repr

/-- The payload of PLACE_CEILING (R18): codes as sent; an optional field is `none` when its mark is 0. -/
structure PlaceReq where
  kind      : Nat
  target    : Nat
  reason    : Nat
  notify    : Nat
  scope     : Option Nat
  direction : Option Nat
  ramp      : Option Nat
  /-- expiry kind code and full value -/
  expiry    : Option (Nat × Nat)
  deriving DecidableEq, Repr

/-- The payload of AMEND_CEILING (R19). `notify` is `none` to leave the flag, `some true` to set it, `some false` to clear it. -/
structure AmendReq where
  slot      : Nat
  gen       : Nat
  target    : Option Nat
  ramp      : Choice Nat
  expiry    : Choice (Nat × Nat)
  notify    : Option Bool
  kind      : Option Nat
  scope     : Option Nat
  direction : Option Nat
  deriving DecidableEq, Repr

/-- The payload of CONFIGURE_GRID (R76). -/
structure GridReq where
  ratedA : Nat
  ratedB : Nat
  capA   : Nat
  capB   : Nat
  coolA  : Nat
  coolB  : Nat
  altitude : Nat
  dcMax  : Nat
  deriving DecidableEq, Repr

/-- The payload of WRITE_PARKED_CONTEXT (R71): class sets are 16-bit sets by R204. -/
structure WriteReq where
  station : Nat
  mask    : Option Nat
  trim    : Option Int
  slip    : Option Nat
  clear   : Option Nat
  deriving DecidableEq, Repr

/-- One row of an envelope table (R152). -/
structure EnvRow where
  speed : Nat
  angle : Nat
  deriving DecidableEq, Repr

/-- The eight rows of an envelope table (R152). -/
structure EnvTable where
  r0 : EnvRow
  r1 : EnvRow
  r2 : EnvRow
  r3 : EnvRow
  r4 : EnvRow
  r5 : EnvRow
  r6 : EnvRow
  r7 : EnvRow
  deriving DecidableEq, Repr

def EnvTable.rows (t : EnvTable) : List EnvRow := [t.r0, t.r1, t.r2, t.r3, t.r4, t.r5, t.r6, t.r7]

/-- What the allocation pass reads at its ports (R34): pedals, the three selector contacts, and the DC-link input as
the dispatch of this pass's power figure will read it (log 6). -/
structure PassPorts where
  accel   : Nat
  retard  : Nat
  selForward : Bool
  selNeutral : Bool
  selReverse : Bool
  dcLink  : Nat
  deriving DecidableEq, Repr

/-- What TA hands SM for one station (R45). `clamped` is the clamped target, handed for a RESTORING station. -/
structure GrantHand where
  grant   : Int
  enable  : Bool
  clamped : Option Int
  deriving DecidableEq, Repr

/-- A bank's inputs at the grid timer (R83, R84): blower speed in %, current in ‰. -/
structure GridPorts where
  blowerSpeed : Nat
  current     : Nat
  deriving DecidableEq, Repr

/-- What SM hands PU with a report (R59). -/
structure Judged where
  motor    : Int
  inverter : Int
  peakOc   : Bool
  invFault : Bool
  deriving DecidableEq, Repr

/-- The fields of a REPORT frame that SM keeps as the last report (R59). -/
structure Report where
  torque   : Int
  wheel    : Int
  motor    : Int
  inverter : Int
  regen    : Nat
  ready    : Bool
  peakOc   : Bool
  invFault : Bool
  deriving DecidableEq, Repr

/-- An angle input with its health input (R145): `fault` is true when the health input shows a fault. -/
structure AnglePort where
  angle : Int
  fault : Bool
  deriving DecidableEq, Repr

/-- What the steering update reads at its ports (R145). -/
structure SteerPorts where
  sensorA  : AnglePort
  sensorB  : AnglePort
  wheel    : AnglePort
  pressure : Nat
  deriving DecidableEq, Repr

/-- One strut load input with its health mark (R163): `healthy` is false when the input shows a fault. -/
structure Strut where
  load    : Nat
  healthy : Bool
  deriving DecidableEq, Repr

/-- What the payload sample reads at its ports (R163); the four struts are numbered as the stations are. -/
structure PayloadPorts where
  struts : PerStation Strut
  body   : Body
  deriving DecidableEq, Repr

/-- The commands of the part: one constructor per row of spec/opcode_table.json, in the table's order. -/
inductive Instr where
  -- the supervisory link
  /-- R201 -/
  | identify
  /-- R200 -/
  | readNotices
  /-- R196 -/
  | cancel
  /-- R202 -/
  | softReset
  /-- R203 -/
  | hardReset
  /-- R193: a transaction, every byte clocked from the type byte on; `cut` when an incomplete byte was clocked -/
  | malformedFrame (bytes : List Byte) (cut : Bool)
  /-- R195: the same, taken while the link is busy -/
  | frameDiscardedBusy (bytes : List Byte) (cut : Bool)
  /-- R194: a read transaction; `clocked` is the number of bytes clocked after the type byte A5 -/
  | replyRead (clocked : Nat)
  -- the ceiling table's requests
  /-- R18 -/
  | placeCeiling (r : PlaceReq)
  /-- R19 -/
  | amendCeiling (r : AmendReq)
  /-- R20 -/
  | retireCeiling (slot gen : Nat)
  /-- R21 -/
  | queryCeiling (slot gen : Nat)
  /-- R22 -/
  | listCeilings (filter start : Nat)
  /-- R23 -/
  | readEffective
  -- the torque allocator's requests
  /-- R30 -/
  | configureDrive (weights : PerStation Nat) (slew : Nat)
  /-- R31 -/
  | arm
  /-- R33 -/
  | disarm
  /-- R49 -/
  | readAllocation
  -- the station manager's requests
  /-- R63 -/
  | parkStation (station : Nat)
  /-- R68 -/
  | restoreStation (station : Nat)
  /-- R69 -/
  | rearmStation (station : Nat)
  /-- R70 -/
  | readStationContext (station : Nat)
  /-- R71 -/
  | writeParkedContext (r : WriteReq)
  -- the grid dispatcher's requests
  /-- R76 -/
  | configureGrid (r : GridReq)
  /-- R90: the order's code -/
  | setBankOrder (order : Nat)
  /-- R91 -/
  | readGrid
  -- the route sequencer's requests
  /-- R95: four descriptor words for positions 0 to 3 -/
  | profileWrite (group : Nat) (d0 d1 d2 d3 : BitVec 40)
  /-- R96 -/
  | profileRead (group : Nat)
  /-- R112: a group byte of 255 stands for LAST_START (R204) -/
  | routeStart (group first offset : Nat)
  /-- R113 -/
  | routeStop
  /-- R109 -/
  | insertDetour (group : Nat)
  /-- R111 -/
  | abortDetour
  /-- R114 -/
  | resume
  /-- R115 -/
  | readRoute
  -- the descent governor's requests
  /-- R122: the mode's code -/
  | governorMode (mode : Nat)
  /-- R131: the APPLY byte -/
  | forecast (apply : Nat)
  /-- R135 -/
  | forecastContinue
  /-- R138 -/
  | readGovernor
  -- the steering controller's requests
  /-- R143 -/
  | configureSteering (ratio gain ramp assistMax reserve : Nat)
  /-- R153 -/
  | steerEnvelope (table : EnvTable)
  /-- R156: the enable's code and the gain -/
  | setAssist (enable gain : Nat)
  /-- R157 -/
  | readSteering
  -- the payload monitor's requests
  /-- R162 -/
  | configurePayload (emptyMass rated sprung over10 : Nat)
  /-- R169 -/
  | readPayload
  -- the protection unit's requests
  /-- R175 -/
  | configureProtection (motorWarn inverterWarn : Nat)
  /-- R186: the target byte, 0 to 3 for a station -/
  | clearFaultsStation (target : Nat)
  /-- R187 -/
  | clearFaultsTruck
  /-- R188: the target byte and the 16-bit mask set -/
  | setMaskStation (target mask : Nat)
  /-- R189: the 16-bit mask set -/
  | setMaskTruck (mask : Nat)
  /-- R190 -/
  | protectionInit
  /-- R191 -/
  | readProtection
  -- the allocation pass and the events it hands on
  /-- R34 -/
  | allocationPass (ports : PassPorts)
  /-- R57: what TA hands SM, with the present travel of the pass -/
  | grantHandover (hands : PerStation GrantHand) (travel : Travel)
  /-- R80: the retard power figure and the DC-link voltage read at the dispatch -/
  | powerArrival (power dcLink : Nat)
  /-- R178: the slip marks (slipping, clear, or none) and the speed reference of the pass -/
  | passArrival (marks : PerStation (Option Bool)) (speed : Nat)
  /-- R100: at RS -/
  | forwardMetreEvent
  /-- R101: at RS -/
  | reverseMetreEvent
  /-- R10: at CT -/
  | distanceExpiryCount (dir : Travel)
  /-- R166: at PM -/
  | windowMetre (dir : Travel)
  -- the ceiling table's events
  /-- R9 -/
  | tableTimer
  /-- R12: the expiry counter of the record in this slot has reached 0 -/
  | recordExpiry (slot : Nat)
  /-- R14 -/
  | setClaim (key : Key) (value : Int) (ramp : Option Nat) (expiry : Option Expiry)
  /-- R15 -/
  | retireClaim (key : Key) (ramp : Option Nat)
  -- the grid dispatcher's events
  /-- R82 -/
  | gridTimer (ports : PerBank GridPorts)
  /-- R79: the bank's current input reaches 20 ‰ -/
  | bankCurrentSeen (bank : Bank)
  /-- R79 -/
  | checkTimerExpiry (bank : Bank)
  -- the station manager's events
  /-- R55 -/
  | armingEvent
  /-- R59: the bytes of a REPORT frame arriving on this station's link -/
  | reportFrame (link : Station) (bytes : List Byte)
  /-- R60 -/
  | reportDeadlineExpiry (station : Station)
  /-- R65 -/
  | parkTimerExpiry (station : Station)
  -- protection events
  /-- R176: a report handed to PU with the state SM held when it took the report -/
  | reportJudgement (station : Station) (carried : StationState) (report : Judged)
  /-- R177 -/
  | linkLostEvent (station : Station) (carried : StationState)
  /-- R56 -/
  | raiseClaim (station : Station) (cls : StationClass) (trips : Bool)
  /-- R56: the flags named -/
  | clearClaim (station : Station) (flags : StationFlags)
  /-- R180: a route fault (PR) names its cause (R104, R107); no other class has one -/
  | truckConditionBegins (cls : ConditionBegin)
  /-- R180 -/
  | truckConditionEnds (cls : HandedClass)
  /-- R181 -/
  | protectionTimer
  -- the governor's events
  /-- R123 -/
  | governorUpdate
  /-- R121 -/
  | holdReachedAtDg (kind : HoldKind)
  /-- R121 -/
  | holdLeftAtDg (kind : HoldKind) (cause : HoldCause)
  /-- R136 -/
  | routeEditEvent
  /-- R136 -/
  | latchEvent
  -- the steering controller's event
  /-- R145 -/
  | steeringUpdate (ports : SteerPorts)
  -- the payload monitor's events
  /-- R163 -/
  | payloadSample (ports : PayloadPorts)
  /-- R164 -/
  | holdReachedAtPm (kind : HoldKind)
  /-- R164 -/
  | holdLeftAtPm (kind : HoldKind) (cause : HoldCause)
  /-- R168: the PL mask PU hands, true for masked -/
  | plMaskEvent (masked : Bool)
  deriving DecidableEq, Repr

end Sys2Proof
end

