-- ==== Sys2Proof/Config.lean ====
section
/-! DEFINITION. What the manual leaves open: free values, constants with no body. Each is applied to State's counter
`free`, which advances at every use, so that nothing can be proved of the value (logs 13 to 16). -/

namespace Sys2Proof

/-- The travel direction carried by a GRANT frame sent outside the allocation pass (R56, R62 state none; log 14). -/
opaque Config.freeTravel : Nat → Travel

/-- The notify flag written by a PLACE_CEILING whose notify byte is neither 0 nor 1 (R204 states none; log 13). -/
opaque Config.freeNotify : Nat → Bool

/-- A byte shifted out after the last CRC byte of a reply (R194 states none; log 15). The arguments are the counter and
the byte's position past the end. -/
opaque Config.freeByte : Nat → Nat → Byte

end Sys2Proof
end

