-- ==== Sys2Proof/WellFormed.lean ====
section
/-! DEFINITION. Well-formed commands: a request's fields fit the payload bytes that carry them (R204), an event's
operands lie in the range of the port or the block they come from. exec is total on ill-formed commands too; a
statement that needs the range says so. -/

namespace Sys2Proof

/-- Fits one byte. -/
def isU8 (n : Nat) : Bool := n < 256

/-- Fits two bytes. -/
def isU16 (n : Nat) : Bool := n < 65536

/-- Fits three bytes. -/
def isU24 (n : Nat) : Bool := n < 16777216

/-- Fits one byte as two's complement. -/
def isS8 (x : Int) : Bool := -128 ≤ x && x ≤ 127

/-- An optional value that passes `p` when present. -/
def optional {α : Type} (p : α → Bool) : Option α → Bool
  | none => true
  | some v => p v

/-- A replacement value that passes `p` when given. -/
def choice {α : Type} (p : α → Bool) : Choice α → Bool
  | .leave => true
  | .replace v => p v
  | .remove => true

def PlaceReq.wf (r : PlaceReq) : Bool :=
  isU8 r.kind && isU16 r.target && isU8 r.reason && isU8 r.notify && optional isU8 r.scope && optional isU8 r.direction
    && optional isU16 r.ramp && optional (fun e => isU8 e.1 && isU16 e.2) r.expiry

def AmendReq.wf (r : AmendReq) : Bool :=
  isU8 r.slot && isU8 r.gen && optional isU16 r.target && choice isU16 r.ramp
    && choice (fun e => isU8 e.1 && isU16 e.2) r.expiry && optional isU8 r.kind && optional isU8 r.scope
    && optional isU8 r.direction

def GridReq.wf (r : GridReq) : Bool :=
  isU16 r.ratedA && isU16 r.ratedB && isU24 r.capA && isU24 r.capB && isU16 r.coolA && isU16 r.coolB && isU8 r.altitude
    && isU16 r.dcMax

def WriteReq.wf (r : WriteReq) : Bool :=
  isU8 r.station && optional isU16 r.mask && optional isS8 r.trim && optional isU8 r.slip && optional isU16 r.clear

def EnvTable.wf (t : EnvTable) : Bool := t.rows.all fun r => isU16 r.speed && isU16 r.angle

/-- The pedals give 0 to 1000 ‰ (R34); the DC link reads 0 to 4000 V (R74). -/
def PassPorts.wf (p : PassPorts) : Bool := p.accel ≤ 1000 && p.retard ≤ 1000 && p.dcLink ≤ 4000

/-- A grant handed is −1000 to +1000 ‰ (00, Units and ranges). -/
def GrantHand.wf (g : GrantHand) : Bool := mag g.grant ≤ 1000 && optional (fun t => mag t ≤ 1000) g.clamped

/-- Whether a key names a SPEED record (R6). -/
def Key.isSpeed : Key → Bool
  | .governorTarget | .governorForecast | .steeringEnvelope | .payloadSpeed => true
  | _ => false

/-- The greatest target of a key's kind (R5). -/
def Key.maximum (k : Key) : Nat := if k.isSpeed then 700 else 1000

/-- The well-formed commands. -/
def Instr.wf : Instr → Bool
  | .identify | .readNotices | .cancel | .softReset | .hardReset => true
  | .malformedFrame _ _ | .frameDiscardedBusy _ _ | .replyRead _ => true
  | .placeCeiling r => r.wf
  | .amendCeiling r => r.wf
  | .retireCeiling slot gen | .queryCeiling slot gen => isU8 slot && isU8 gen
  | .listCeilings filter start => isU8 filter && isU8 start
  | .readEffective => true
  | .configureDrive w slew => w.toList.all isU16 && isU8 slew
  | .arm | .disarm | .readAllocation => true
  | .parkStation n | .restoreStation n | .rearmStation n | .readStationContext n => isU8 n
  | .writeParkedContext r => r.wf
  | .configureGrid r => r.wf
  | .setBankOrder n => isU8 n
  | .readGrid => true
  | .profileWrite g _ _ _ _ | .profileRead g => isU8 g
  | .routeStart g f o => isU8 g && isU8 f && isU16 o
  | .routeStop => true
  | .insertDetour g => isU8 g
  | .abortDetour | .resume | .readRoute => true
  | .governorMode m => isU8 m
  | .forecast a => isU8 a
  | .forecastContinue | .readGovernor => true
  | .configureSteering ratio gain ramp assistMax reserve =>
      isU8 ratio && isU8 gain && isU16 ramp && isU8 assistMax && isU8 reserve
  | .steerEnvelope t => t.wf
  | .setAssist enable gain => isU8 enable && isU8 gain
  | .readSteering => true
  | .configurePayload e r s v => isU16 e && isU16 r && isU16 s && isU16 v
  | .readPayload => true
  | .configureProtection m i => isU8 m && isU8 i
  | .clearFaultsStation t => isU8 t
  | .clearFaultsTruck => true
  | .setMaskStation t m => isU8 t && isU16 m
  | .setMaskTruck m => isU16 m
  | .protectionInit | .readProtection => true
  | .allocationPass p => p.wf
  | .grantHandover h _ => h.toList.all GrantHand.wf
  | .powerArrival p v => p ≤ 12000 && v ≤ 4000
  | .passArrival _ v => v ≤ 700
  | .forwardMetreEvent | .reverseMetreEvent => true
  | .distanceExpiryCount _ | .windowMetre _ | .tableTimer => true
  | .recordExpiry slot => slot < 48
  | .setClaim k _ ramp expiry =>
      optional (fun r => 1 ≤ r && r ≤ k.maximum) ramp && optional (fun e => 1 ≤ e.full && e.full ≤ 65535) expiry
  | .retireClaim k ramp => optional (fun r => 1 ≤ r && r ≤ k.maximum) ramp
  | .gridTimer p => p.a.blowerSpeed ≤ 100 && p.b.blowerSpeed ≤ 100
  | .bankCurrentSeen _ | .checkTimerExpiry _ | .armingEvent => true
  | .reportFrame _ bytes => bytes.length == 14
  | .reportDeadlineExpiry _ | .parkTimerExpiry _ => true
  | .reportJudgement _ carried _ | .linkLostEvent _ carried => carried != .absent && carried != .parked
  | .truckConditionBegins b => b.cause.isSome == (b.cls == .pr)
  | .raiseClaim _ _ _ | .clearClaim _ _ | .truckConditionEnds _ | .protectionTimer => true
  | .governorUpdate | .holdReachedAtDg _ | .holdLeftAtDg _ _ | .routeEditEvent | .latchEvent => true
  | .steeringUpdate _ => true
  | .payloadSample p => p.struts.toList.all fun x => x.load ≤ 300
  | .holdReachedAtPm _ | .holdLeftAtPm _ _ | .plMaskEvent _ => true

end Sys2Proof
end

