-- ==== Sys2Proof/Decode.lean ====
section
/-! DEFINITION. From bytes to commands: the CRC and the request frames of R193 and R204, and the REPORT frames of the
station links. No row of spec/opcode_table.json gives bits, so `decodeTableWord` answers none. -/

namespace Sys2Proof

/-! ### CRC-16 (R204): polynomial 1021 hex, preset FFFF hex, most significant bit first, no final inversion -/

/-- One bit of the CRC. -/
def crcBit (c : BitVec 16) : BitVec 16 := if c.msb then (c <<< 1) ^^^ 0x1021#16 else c <<< 1

/-- One byte of the CRC. -/
def crcByte (c : BitVec 16) (b : Byte) : BitVec 16 :=
  crcBit (crcBit (crcBit (crcBit (crcBit (crcBit (crcBit (crcBit (c ^^^ (b.setWidth 16 <<< 8)))))))))

/-- The CRC of a frame's bytes. -/
def crc16 (bytes : List Byte) : BitVec 16 := bytes.foldl crcByte 0xFFFF#16

/-- The two CRC bytes, high byte first. -/
def crcBytes (bytes : List Byte) : List Byte :=
  let c := crc16 bytes
  [(c >>> 8).setWidth 8, c.setWidth 8]

/-- The frame's body followed by its CRC. -/
def sealFrame (body : List Byte) : List Byte := body ++ crcBytes body

/-- Whether the last two bytes are the CRC of those before them. -/
def crcGood (frame : List Byte) : Bool :=
  let body := frame.take (frame.length - 2)
  frame.drop (frame.length - 2) == crcBytes body

/-! ### Reading fields: multi-byte fields are sent most significant byte first (R204) -/

/-- The byte at an offset, as a number. -/
def fieldU8 (p : List Byte) (k : Nat) : Nat := (p.getD k 0).toNat

/-- The unsigned two-byte field at an offset. -/
def fieldU16 (p : List Byte) (k : Nat) : Nat := fieldU8 p k * 256 + fieldU8 p (k + 1)

/-- The unsigned three-byte field at an offset. -/
def fieldU24 (p : List Byte) (k : Nat) : Nat := fieldU16 p k * 256 + fieldU8 p (k + 2)

/-- The signed one-byte field at an offset. -/
def fieldS8 (p : List Byte) (k : Nat) : Int :=
  if fieldU8 p k < 128 then (fieldU8 p k : Int) else (fieldU8 p k : Int) - 256

/-- The signed two-byte field at an offset. -/
def fieldS16 (p : List Byte) (k : Nat) : Int :=
  if fieldU16 p k < 32768 then (fieldU16 p k : Int) else (fieldU16 p k : Int) - 65536

/-- The five-byte descriptor word at an offset. -/
def fieldWord40 (p : List Byte) (k : Nat) : BitVec 40 :=
  BitVec.ofNat 40 ((fieldU24 p k) * 65536 + fieldU16 p (k + 3))

/-- A field preceded by a mark byte: any mark other than 1 is taken as 0 (R204). -/
def marked {α : Type} (p : List Byte) (k : Nat) (v : α) : Option α := if fieldU8 p k = 1 then some v else none

/-- A field preceded by a choice byte: 1 replaces, 2 removes, any other is taken as 0 (R204). -/
def chosen {α : Type} (p : List Byte) (k : Nat) (v : α) : Choice α :=
  if fieldU8 p k = 1 then .replace v else if fieldU8 p k = 2 then .remove else .leave

/-! ### Writing fields (R204) -/

/-- A signed or unsigned number as two bytes, most significant first, two's complement. -/
def twoBytes (x : Int) : List Byte :=
  let w := BitVec.ofInt 16 x
  [(w >>> 8).setWidth 8, w.setWidth 8]

def u8 (n : Nat) : List Byte := [BitVec.ofNat 8 n]
def u16 (n : Nat) : List Byte := [BitVec.ofNat 8 (n / 256), BitVec.ofNat 8 n]
def u24 (n : Nat) : List Byte := [BitVec.ofNat 8 (n / 65536), BitVec.ofNat 8 (n / 256), BitVec.ofNat 8 n]
def u32 (n : Nat) : List Byte :=
  [BitVec.ofNat 8 (n / 16777216), BitVec.ofNat 8 (n / 65536), BitVec.ofNat 8 (n / 256), BitVec.ofNat 8 n]
def s8 (x : Int) : List Byte := [BitVec.ofInt 8 x]
def s16 (x : Int) : List Byte := twoBytes x
def u40 (w : BitVec 40) : List Byte := u8 (w.toNat / 4294967296) ++ u32 w.toNat
/-- A flag: 1 set, 0 clear. -/
def flagByte (b : Bool) : List Byte := u8 (if b then 1 else 0)

/-- A value that may be absent: a mark byte, then its bytes, sent as 0 when it is absent (R204). -/
def orAbsent {α : Type} (enc : α → List Byte) (zero : α) : Option α → List Byte
  | some v => u8 1 ++ enc v
  | none => u8 0 ++ enc zero

/-! ### Requests -/

/-- The bytes a request code's fields need; `none` for a code that is not in the request summary (10.5). -/
def payloadBytes : Nat → Option Nat
  | 0x01 => some 0 | 0x02 => some 0 | 0x03 => some 0 | 0x04 => some 0
  | 0x10 => some 16 | 0x11 => some 20 | 0x12 => some 2 | 0x13 => some 2 | 0x14 => some 2 | 0x15 => some 0
  | 0x20 => some 9 | 0x21 => some 0 | 0x22 => some 0 | 0x23 => some 0
  | 0x30 => some 1 | 0x31 => some 1 | 0x32 => some 1 | 0x33 => some 1 | 0x34 => some 11
  | 0x40 => some 17 | 0x41 => some 1 | 0x42 => some 0
  | 0x50 => some 21 | 0x51 => some 1 | 0x52 => some 4 | 0x53 => some 0 | 0x54 => some 1 | 0x55 => some 0
  | 0x56 => some 0 | 0x57 => some 0
  | 0x60 => some 1 | 0x61 => some 1 | 0x62 => some 0 | 0x63 => some 0
  | 0x70 => some 6 | 0x71 => some 32 | 0x72 => some 2 | 0x73 => some 0
  | 0x80 => some 8 | 0x81 => some 0
  | 0x90 => some 2 | 0x91 => some 1 | 0x92 => some 3 | 0x93 => some 0 | 0x94 => some 0
  | _ => none

/-- The row of an envelope table sent at an offset. -/
def envRowAt (p : List Byte) (k : Nat) : EnvRow := ⟨fieldU16 p k, fieldU16 p (k + 2)⟩

/-- The request a code and its payload spell (10.5, R204; the order of fields is log 12). -/
def decodeRequest (code : Nat) (p : List Byte) : Option Instr :=
  match code with
  | 0x01 => some .identify
  | 0x02 => some .readNotices
  | 0x03 => some .cancel
  | 0x04 => some .softReset
  | 0x10 => some (.placeCeiling
      { kind := fieldU8 p 0, target := fieldU16 p 1, reason := fieldU8 p 3, notify := fieldU8 p 4
        scope := marked p 5 (fieldU8 p 6), direction := marked p 7 (fieldU8 p 8), ramp := marked p 9 (fieldU16 p 10)
        expiry := marked p 12 (fieldU8 p 13, fieldU16 p 14) })
  | 0x11 => some (.amendCeiling
      { slot := fieldU8 p 0, gen := fieldU8 p 1, target := marked p 2 (fieldU16 p 3), ramp := chosen p 5 (fieldU16 p 6)
        expiry := chosen p 8 (fieldU8 p 9, fieldU16 p 10)
        notify := if fieldU8 p 12 = 1 then some true else if fieldU8 p 12 = 2 then some false else none
        kind := marked p 14 (fieldU8 p 15), scope := marked p 16 (fieldU8 p 17), direction := marked p 18 (fieldU8 p 19) })
  | 0x12 => some (.retireCeiling (fieldU8 p 0) (fieldU8 p 1))
  | 0x13 => some (.queryCeiling (fieldU8 p 0) (fieldU8 p 1))
  | 0x14 => some (.listCeilings (fieldU8 p 0) (fieldU8 p 1))
  | 0x15 => some .readEffective
  | 0x20 => some (.configureDrive ⟨fieldU16 p 0, fieldU16 p 2, fieldU16 p 4, fieldU16 p 6⟩ (fieldU8 p 8))
  | 0x21 => some .arm
  | 0x22 => some .disarm
  | 0x23 => some .readAllocation
  | 0x30 => some (.parkStation (fieldU8 p 0))
  | 0x31 => some (.restoreStation (fieldU8 p 0))
  | 0x32 => some (.rearmStation (fieldU8 p 0))
  | 0x33 => some (.readStationContext (fieldU8 p 0))
  | 0x34 => some (.writeParkedContext
      { station := fieldU8 p 0, mask := marked p 1 (fieldU16 p 2), trim := marked p 4 (fieldS8 p 5)
        slip := marked p 6 (fieldU8 p 7), clear := marked p 8 (fieldU16 p 9) })
  | 0x40 => some (.configureGrid
      { ratedA := fieldU16 p 0, ratedB := fieldU16 p 2, capA := fieldU24 p 4, capB := fieldU24 p 7, coolA := fieldU16 p 10
        coolB := fieldU16 p 12, altitude := fieldU8 p 14, dcMax := fieldU16 p 15 })
  | 0x41 => some (.setBankOrder (fieldU8 p 0))
  | 0x42 => some .readGrid
  | 0x50 => some (.profileWrite (fieldU8 p 0) (fieldWord40 p 1) (fieldWord40 p 6) (fieldWord40 p 11) (fieldWord40 p 16))
  | 0x51 => some (.profileRead (fieldU8 p 0))
  | 0x52 => some (.routeStart (fieldU8 p 0) (fieldU8 p 1) (fieldU16 p 2))
  | 0x53 => some .routeStop
  | 0x54 => some (.insertDetour (fieldU8 p 0))
  | 0x55 => some .abortDetour
  | 0x56 => some .resume
  | 0x57 => some .readRoute
  | 0x60 => some (.governorMode (fieldU8 p 0))
  | 0x61 => some (.forecast (fieldU8 p 0))
  | 0x62 => some .forecastContinue
  | 0x63 => some .readGovernor
  | 0x70 => some (.configureSteering (fieldU8 p 0) (fieldU8 p 1) (fieldU16 p 2) (fieldU8 p 4) (fieldU8 p 5))
  | 0x71 => some (.steerEnvelope
      ⟨envRowAt p 0, envRowAt p 4, envRowAt p 8, envRowAt p 12, envRowAt p 16, envRowAt p 20, envRowAt p 24, envRowAt p 28⟩)
  | 0x72 => some (.setAssist (fieldU8 p 0) (fieldU8 p 1))
  | 0x73 => some .readSteering
  | 0x80 => some (.configurePayload (fieldU16 p 0) (fieldU16 p 2) (fieldU16 p 4) (fieldU16 p 6))
  | 0x81 => some .readPayload
  | 0x90 => some (.configureProtection (fieldU8 p 0) (fieldU8 p 1))
  | 0x91 => some (if fieldU8 p 0 = 4 then .clearFaultsTruck else .clearFaultsStation (fieldU8 p 0))
  | 0x92 => some (if fieldU8 p 0 = 4 then .setMaskTruck (fieldU16 p 1) else .setMaskStation (fieldU8 p 0) (fieldU16 p 1))
  | 0x93 => some .protectionInit
  | 0x94 => some .readProtection
  | _ => none

/-! ### From requests to frames (R204; the order of fields is log 12) -/

/-- A choice of AMEND_CEILING: its byte, then the value. -/
def choiceBytes {α : Type} (enc : α → List Byte) (zero : α) : Choice α → List Byte
  | .leave => u8 0 ++ enc zero
  | .replace v => u8 1 ++ enc v
  | .remove => u8 2 ++ enc zero

/-- An expiry's kind code and full value. -/
def expiryField (e : Nat × Nat) : List Byte := u8 e.1 ++ u16 e.2

/-- The notify field of AMEND_CEILING: its choice byte and one value byte, sent as 0 and disregarded whatever the choice
(log 12). -/
def notifyField : Option Bool → List Byte
  | none => u8 0 ++ u8 0
  | some true => u8 1 ++ u8 0
  | some false => u8 2 ++ u8 0

def PlaceReq.bytes (r : PlaceReq) : List Byte :=
  u8 r.kind ++ u16 r.target ++ u8 r.reason ++ u8 r.notify ++ orAbsent u8 0 r.scope ++ orAbsent u8 0 r.direction
    ++ orAbsent u16 0 r.ramp ++ orAbsent expiryField (0, 0) r.expiry

def AmendReq.bytes (r : AmendReq) : List Byte :=
  u8 r.slot ++ u8 r.gen ++ orAbsent u16 0 r.target ++ choiceBytes u16 0 r.ramp ++ choiceBytes expiryField (0, 0) r.expiry
    ++ notifyField r.notify ++ orAbsent u8 0 r.kind ++ orAbsent u8 0 r.scope ++ orAbsent u8 0 r.direction

/-- R76's values, value by value, A before B (log 12). -/
def GridReq.bytes (r : GridReq) : List Byte :=
  u16 r.ratedA ++ u16 r.ratedB ++ u24 r.capA ++ u24 r.capB ++ u16 r.coolA ++ u16 r.coolB ++ u8 r.altitude ++ u16 r.dcMax

def WriteReq.bytes (r : WriteReq) : List Byte :=
  u8 r.station ++ orAbsent u16 0 r.mask ++ orAbsent s8 0 r.trim ++ orAbsent u8 0 r.slip ++ orAbsent u16 0 r.clear

def EnvTable.bytes (t : EnvTable) : List Byte := t.rows.flatMap fun r => u16 r.speed ++ u16 r.angle

/-- A request's code and payload; `none` for a command that is not a request. -/
def encodeRequest : Instr → Option (Nat × List Byte)
  | .identify => some (0x01, [])
  | .readNotices => some (0x02, [])
  | .cancel => some (0x03, [])
  | .softReset => some (0x04, [])
  | .placeCeiling r => some (0x10, r.bytes)
  | .amendCeiling r => some (0x11, r.bytes)
  | .retireCeiling slot gen => some (0x12, u8 slot ++ u8 gen)
  | .queryCeiling slot gen => some (0x13, u8 slot ++ u8 gen)
  | .listCeilings filter start => some (0x14, u8 filter ++ u8 start)
  | .readEffective => some (0x15, [])
  | .configureDrive w slew => some (0x20, u16 w.s0 ++ u16 w.s1 ++ u16 w.s2 ++ u16 w.s3 ++ u8 slew)
  | .arm => some (0x21, [])
  | .disarm => some (0x22, [])
  | .readAllocation => some (0x23, [])
  | .parkStation n => some (0x30, u8 n)
  | .restoreStation n => some (0x31, u8 n)
  | .rearmStation n => some (0x32, u8 n)
  | .readStationContext n => some (0x33, u8 n)
  | .writeParkedContext r => some (0x34, r.bytes)
  | .configureGrid r => some (0x40, r.bytes)
  | .setBankOrder n => some (0x41, u8 n)
  | .readGrid => some (0x42, [])
  | .profileWrite g d0 d1 d2 d3 => some (0x50, u8 g ++ u40 d0 ++ u40 d1 ++ u40 d2 ++ u40 d3)
  | .profileRead g => some (0x51, u8 g)
  | .routeStart g first offset => some (0x52, u8 g ++ u8 first ++ u16 offset)
  | .routeStop => some (0x53, [])
  | .insertDetour g => some (0x54, u8 g)
  | .abortDetour => some (0x55, [])
  | .resume => some (0x56, [])
  | .readRoute => some (0x57, [])
  | .governorMode m => some (0x60, u8 m)
  | .forecast a => some (0x61, u8 a)
  | .forecastContinue => some (0x62, [])
  | .readGovernor => some (0x63, [])
  | .configureSteering ratio gain ramp most reserve => some (0x70, u8 ratio ++ u8 gain ++ u16 ramp ++ u8 most ++ u8 reserve)
  | .steerEnvelope t => some (0x71, t.bytes)
  | .setAssist enable gain => some (0x72, u8 enable ++ u8 gain)
  | .readSteering => some (0x73, [])
  | .configurePayload e r sprung v => some (0x80, u16 e ++ u16 r ++ u16 sprung ++ u16 v)
  | .readPayload => some (0x81, [])
  | .configureProtection m i => some (0x90, u8 m ++ u8 i)
  | .clearFaultsStation n => some (0x91, u8 n)
  | .clearFaultsTruck => some (0x91, u8 4)
  | .setMaskStation n m => some (0x92, u8 n ++ u16 m)
  | .setMaskTruck m => some (0x92, u8 4 ++ u16 m)
  | .protectionInit => some (0x93, [])
  | .readProtection => some (0x94, [])
  | _ => none

/-- The row that a target byte of 4 stands for (R186 to R189, R204): CLEAR_FAULTS and SET_MASK for the truck. -/
def Instr.targeted : Instr → Instr
  | .clearFaultsStation 4 => .clearFaultsTruck
  | .setMaskStation 4 m => .setMaskTruck m
  | i => i

/-- Why a frame is malformed: the details of MALFORMED (R193, R197). -/
inductive FrameFault where
  | length | crc | code
  deriving DecidableEq, Repr

/-- R193: what a request frame (the bytes after the type byte) is judged to be. -/
inductive FrameVerdict where
  | malformed (why : FrameFault)
  | request (i : Instr)
  deriving DecidableEq, Repr

/-- R193: the checks of a request frame, in their order. `cut` says that an incomplete byte was clocked. -/
def judgeFrame (frame : List Byte) (cut : Bool) : FrameVerdict :=
  let code := fieldU8 frame 0
  let words := fieldU8 frame 1
  if frame.length < 2 || frame.length != 4 + 2 * words || cut || decide (60 < words) then .malformed .length
  else if !crcGood frame then .malformed .crc
  else
    match payloadBytes code with
    | none => .malformed .code
    | some n =>
      if 2 * words < n || n + 1 < 2 * words then .malformed .length
      else
        match decodeRequest code ((frame.drop 2).take (2 * words)) with
        | some i => .request i
        | none => .malformed .code

/-- A request frame with the given code and payload, padded to whole words (R204). -/
def requestFrame (code : Byte) (payload : List Byte) : List Byte :=
  let p := if payload.length % 2 = 1 then payload ++ [0] else payload
  sealFrame (code :: BitVec.ofNat 8 (p.length / 2) :: p)

/-! ### REPORT frames (R58, R204) -/

/-- A REPORT frame's fields. -/
structure ReportFrame where
  id     : Nat
  echo   : Nat
  report : Report
  deriving DecidableEq, Repr

/-- R58: fields outside their range are held at the nearer bound. -/
def Report.held (r : Report) : Report :=
  { r with torque := hold (-1000) 1000 r.torque, wheel := hold (-700) 700 r.wheel, regen := min r.regen 3000 }

/-- R58, R204: the frame's fields, when its CRC is correct. -/
def parseReport (bytes : List Byte) : Option ReportFrame :=
  if bytes.length == 14 && crcGood bytes then
    let b0 := bytes.getD 0 0
    let marks := bytes.getD 11 0
    some
      { id := (b0 &&& 3).toNat
        echo := (b0 >>> 4).toNat
        report := Report.held
          { torque := fieldS16 bytes 1, wheel := fieldS16 bytes 3, motor := fieldS16 bytes 5, inverter := fieldS16 bytes 7
            regen := fieldU16 bytes 9, ready := marks.getLsbD 0, peakOc := marks.getLsbD 1, invFault := marks.getLsbD 2 } }
  else none

/-- The REPORT frame an inverter sends (R204). -/
def encodeReport (f : ReportFrame) : List Byte :=
  let marks : Nat := (if f.report.ready then 1 else 0) + (if f.report.peakOc then 2 else 0) + (if f.report.invFault then 4 else 0)
  sealFrame ([BitVec.ofNat 8 (f.id % 4 + 16 * (f.echo % 16))] ++ twoBytes f.report.torque ++ twoBytes f.report.wheel
    ++ twoBytes f.report.motor ++ twoBytes f.report.inverter ++ twoBytes f.report.regen ++ [BitVec.ofNat 8 marks])

/-! ### The opcode table's words -/

/-- No row of spec/opcode_table.json gives bits: no word spells a command. -/
def decodeTableWord (_nbits _w : Nat) : Option Instr := none

end Sys2Proof
end

