-- ==== Sys2Proof/Machine/State.lean ====
section
/-! DEFINITION. The state of the RD-4420 as plain data, block by block (00, Block overview), with the fields of the
manual's own state tables: R3 R5 (CT), R28 R29 R49 R50 (TA), R52 (SM), R74 R75 (GD), R94 R98 (RS), R118 R130 (DG),
R141 R142 (SC), R160 R161 (PM), R172 R174 (PU), 10 intro (SL); and the machine right after a hard reset. What the manual
computes from other state is computed here too, never stored: RDY, ATTN, FAULT, STEER_DIRECT, the published surface. -/

namespace Sys2Proof.Machine

/-! ### CT: the ceiling table (01) -/

/-- A record's owner (R5, R6): the supervisor, or the internal owner of a key. -/
inductive Holder where
  | supervisor
  | internal (key : Key)
  deriving DecidableEq, Repr

/-- A TORQUE record's direction (R5). -/
inductive Direction where
  | propel | retard | both
  deriving DecidableEq, Repr

/-- What a record limits (R5): station torque over a scope and direction, or truck speed. -/
inductive Limit where
  | torque (scope : PerStation Bool) (dir : Direction)
  | speed
  deriving DecidableEq, Repr

/-- A record's expiry with its counter (R5, R10). -/
structure Countdown where
  kind    : ExpiryKind
  full    : Nat
  counter : Nat
  deriving DecidableEq, Repr

/-- A ceiling record (R5). -/
structure CeilingRecord where
  holder  : Holder
  limit   : Limit
  target  : Nat
  current : Nat
  ramp    : Option Nat
  expiry  : Option Countdown
  reason  : Nat
  notify  : Bool
  deriving DecidableEq, Repr

/-- A slot's state (R3). -/
inductive SlotEntry where
  | free
  | live (r : CeilingRecord)
  | fading (r : CeilingRecord)
  deriving DecidableEq, Repr

/-- A slot of the ceiling table (R3). -/
structure Slot where
  gen   : Nat
  entry : SlotEntry
  deriving DecidableEq, Repr

/-- The name of a record (R4). -/
structure Handle where
  slot : Nat
  gen  : Nat
  deriving DecidableEq, Repr

/-! ### TA: the torque allocator (02) -/

/-- R28 -/
inductive TaState where
  | disarmed | arming | neutral | coast | propel | retard | reversalWait
  deriving DecidableEq, Repr

/-- The direction selector as TA takes it (R34). -/
inductive Selector where
  | forward | neutral | reverse
  deriving DecidableEq, Repr

/-- The demand direction of a pass (R40). -/
inductive Demand where
  | none | propel | retard
  deriving DecidableEq, Repr

/-- What READ_ALLOCATION gives of the last completed pass beside the figures that only a pass writes (R49): the TA state
and the DRIVE group as that pass left them. -/
structure LastPass where
  state      : TaState
  weights    : PerStation Nat
  slew       : Nat
  configured : Bool
  deriving DecidableEq, Repr

structure Ta where
  state      : TaState
  /-- the speed reference (R35) -/
  speed      : Nat
  wheelSign  : Travel
  /-- the distance accumulator (R37) -/
  accum      : Nat
  /-- the safe-stop reference (R38) -/
  safeRef    : Option Nat
  fallCount  : Nat
  /-- the last readings (R34, R49) -/
  selector   : Selector
  accel      : Nat
  retardPedal : Nat
  /-- the present travel of the last pass (R36) -/
  travel     : Travel
  demand     : Demand
  /-- Dr and its components (R39) -/
  dr         : Nat
  drPedal    : Nat
  drGovernor : Nat
  drOverspeed : Nat
  drSafe     : Nat
  /-- the scaled Dp (R39) -/
  dp         : Nat
  target     : PerStation Int
  handed     : PerStation Int
  enabled    : PerStation Bool
  slipMark   : PerStation (Option Bool)
  shortfall  : Nat
  blend      : Nat
  power      : Nat
  /-- the DRIVE group (R29) -/
  weights    : PerStation Nat
  slew       : Nat
  configured : Bool
  /-- what the last completed pass left (R49) -/
  lastPass   : LastPass
  deriving DecidableEq, Repr

/-! ### SM: the station manager (03) -/

inductive Custody where
  | part | supervisor
  deriving DecidableEq, Repr

inductive LinkStatus where
  | alive | lost
  deriving DecidableEq, Repr

/-- A mask set over OC, MT, IT and SL: true for masked (R52). -/
structure StationMask where
  oc : Bool
  mt : Bool
  it : Bool
  sl : Bool
  deriving DecidableEq, Repr

/-- The protection settings of a station (R52). -/
structure Settings where
  mask  : StationMask
  flags : StationFlags
  trim  : Int
  slip  : Nat
  deriving DecidableEq, Repr

/-- The states a park can begin in (R52, park origin). -/
inductive ParkOrigin where
  | standby | live | restoring | tripped
  deriving DecidableEq, Repr

/-- A GRANT frame (R57). -/
structure GrantFrame where
  id      : Nat
  enable  : Bool
  travel  : Travel
  counter : Nat
  grant   : Int
  deriving DecidableEq, Repr

/-- A station's context and park slot (R52, R53), with the GRANT frame last sent on its link. -/
structure StationCtx where
  state      : StationState
  custody    : Custody
  settings   : Settings
  parkSlot   : Option Settings
  link       : LinkStatus
  /-- the report deadline: time remaining in ms, or stopped -/
  deadline   : Option Nat
  report     : Option Report
  roll       : Nat
  /-- the last counters sent, older first, at most two -/
  lastTwo    : List Nat
  lastGrant  : Int
  lastEnable : Bool
  parkOrigin : Option ParkOrigin
  /-- the park timer: time remaining in ms, or stopped -/
  parkTimer  : Option Nat
  frame      : Option GrantFrame
  deriving DecidableEq, Repr

/-! ### GD: the grid dispatcher (04) -/

inductive BankState where
  | offline | checking | ready | dissipating | failed
  deriving DecidableEq, Repr

/-- A bank's record (R74). -/
structure BankRec where
  state       : BankState
  heat        : Nat
  share       : Nat
  accum       : Nat
  chopper     : Nat
  avail       : Nat
  blower      : Bool
  blowerSpeed : Nat
  blowerCount : Nat
  blowerMark  : Bool
  openCount   : Nat
  /-- the check timer: time remaining in ms, or stopped -/
  checkTimer  : Option Nat
  recheck     : Bool
  leadEnergy  : Nat
  leadRem     : Nat
  deriving DecidableEq, Repr

inductive LeadOrder where
  | fixedA | fixedB | alternate
  deriving DecidableEq, Repr

/-- The GRID group's values (R75). -/
structure GridCfg where
  rated    : PerBank Nat
  capacity : PerBank Nat
  cooling  : PerBank Nat
  altitude : Nat
  dcMax    : Nat
  deriving DecidableEq, Repr

/-- The figures GD publishes to DG and PU (R85). -/
structure Published where
  avail    : PerBank Nat
  heat     : PerBank Nat
  state    : PerBank BankState
  capacity : Nat
  total    : Nat
  cooling  : Nat
  deriving DecidableEq, Repr

structure Gd where
  banks      : PerBank BankRec
  order      : LeadOrder
  lead       : Option Bank
  unabsorbed : Nat
  dcLink     : Nat
  ovCount    : Nat
  gt         : Bool
  gf         : Bool
  dvValue    : Option Nat
  gridValue  : Option Nat
  published  : Published
  cfg        : GridCfg
  configured : Bool
  deriving DecidableEq, Repr

/-! ### RS: the route sequencer (05) -/

inductive Surface where
  | dry | wet | slick
  deriving DecidableEq, Repr

/-- A descriptor of the profile store (R94); `len` is the length field, 0 standing for 4096 m. -/
inductive Desc where
  | span (len : Nat) (grade : Int) (limit : Nat) (surface : Surface) (notify : Bool)
  | jump (target : Nat)
  | stop
  | hold (kind : HoldKind)
  deriving DecidableEq, Repr

/-- A group of four descriptors (R94). -/
structure Group where
  d0 : Desc
  d1 : Desc
  d2 : Desc
  d3 : Desc
  deriving DecidableEq, Repr

/-- A valid cache entry: a descriptor copy with its origin (R98). -/
structure Entry where
  desc  : Desc
  group : Nat
  pos   : Nat
  deriving DecidableEq, Repr

inductive RouteState where
  | idle | running | holding | ended | faulted
  deriving DecidableEq, Repr

/-- The detour status with its group (R98, R108). -/
inductive Detour where
  | none
  | pending (group : Nat)
  | active (group : Nat)
  deriving DecidableEq, Repr

/-- The continuation record (R98, R110): three saved entries and the saved pointer. -/
structure Continuation where
  e0   : Option Entry
  e1   : Option Entry
  e2   : Option Entry
  next : Nat
  deriving DecidableEq, Repr

/-- The part of the route record that fetches, rollovers and resolution change; DG walks copies of it (R126, R132). -/
structure RoutePos where
  c0     : Option Entry
  c1     : Option Entry
  c2     : Option Entry
  c3     : Option Entry
  next   : Nat
  detour : Detour
  cont   : Option Continuation
  deriving DecidableEq, Repr

structure Rs where
  /-- the profile store (R94): groups by number, canonical, an unlisted group being four STOPs -/
  store      : List (Nat × Group)
  state      : RouteState
  fault      : Option RouteFault
  pos        : RoutePos
  startGroup : Nat
  startFirst : Nat
  index      : Nat
  debt       : Nat
  advance    : Nat
  deriving DecidableEq, Repr

/-! ### DG: the descent governor (06) -/

inductive GovState where
  | off | standby | tracking | governing | holding
  deriving DecidableEq, Repr

inductive MassSource where
  | latched | conservative
  deriving DecidableEq, Repr

/-- The last apply (R118). -/
structure Apply where
  value   : Nat
  expiry  : Nat
  advance : Nat
  deriving DecidableEq, Repr

/-- The forecast cursor's fields (R130). -/
structure Cursor where
  apply        : Bool
  pendingExcl  : Bool
  advance      : Nat
  mass         : Nat
  capacity     : Nat
  cooling      : Nat
  ceiling      : Nat
  w0           : Option Entry
  w1           : Option Entry
  w2           : Option Entry
  w3           : Option Entry
  ptr          : Nat
  cont         : Option Continuation
  firstRem     : Option Nat
  steps        : Nat
  distance     : Nat
  heat         : Nat
  total        : Nat
  slice        : Nat
  deriving DecidableEq, Repr

inductive CursorState where
  | absent
  | opened (c : Cursor)
  | stale (c : Cursor)
  deriving DecidableEq, Repr

structure Dg where
  enabled      : Bool
  state        : GovState
  mass         : Nat
  source       : MassSource
  sustainable  : Option Nat
  approach     : Option Nat
  remaining    : Option Nat
  shortCap     : Nat
  shortLast    : Nat
  target       : Option Nat
  claimed      : Option Nat
  demand       : Nat
  lastApply    : Option Apply
  cursor       : CursorState
  deriving DecidableEq, Repr

/-! ### SC: the steering controller (07) -/

inductive SteerState where
  | align | tracking | limited | direct
  deriving DecidableEq, Repr

/-- The settings of SC that the supervisor writes between updates: the envelope table and the STEERING group (R142, R152),
as READ_STEERING gives them of the last update (R157). -/
structure SteerSettings where
  envelope   : EnvTable
  ratio      : Nat
  gain       : Nat
  envRamp    : Nat
  assistMax  : Nat
  reserve    : Nat
  assistOn   : Bool
  assistGain : Nat
  configured : Bool
  deriving DecidableEq, Repr

structure Sc where
  state      : SteerState
  /-- the readings of the last update: an angle when valid (R145) -/
  sensorA    : Option Int
  sensorB    : Option Int
  wheel      : Option Int
  pressure   : Option Nat
  measured   : Option Int
  /-- the demanded angle before the clamp, and after it -/
  demanded   : Int
  clamped    : Int
  envLimit   : Nat
  valve      : Int
  agreement  : Nat
  sensorFault : Nat
  following  : Nat
  followMark : Bool
  lowCount   : Nat
  goodCount  : Nat
  pressureLow : Bool
  stCond     : Bool
  spCond     : Bool
  envelope   : EnvTable
  envAngle   : Nat
  allowed    : Nat
  value      : Nat
  claimed    : Option Nat
  aim        : Int
  bias       : Int
  /-- the STEERING group (R142) -/
  ratio      : Nat
  gain       : Nat
  envRamp    : Nat
  assistMax  : Nat
  reserve    : Nat
  assistOn   : Bool
  assistGain : Nat
  configured : Bool
  /-- the settings as the last update left them (R157) -/
  lastUpdate : SteerSettings
  deriving DecidableEq, Repr

/-! ### PM: the payload monitor (08) -/

inductive PayloadState where
  | unknown | empty | loading | measuring | latched | dumping
  deriving DecidableEq, Repr

inductive PayloadClass where
  | empty | carry | over10 | over20 | overmax
  deriving DecidableEq, Repr

structure Pm where
  state       : PayloadState
  latched     : Option Nat
  cls         : Option PayloadClass
  live        : Nat
  liveClass   : PayloadClass
  winSum      : Nat
  winCount    : Nat
  winMetres   : Nat
  stillSum    : Nat
  stillCount  : Nat
  dumpRelease : Bool
  plCond      : Bool
  speedClaimed  : Option Nat
  propelClaimed : Option Nat
  plMasked    : Bool
  struts      : PerStation Strut
  body        : Body
  /-- the PAYLOAD group (R161) -/
  emptyMass   : Nat
  rated       : Nat
  sprung      : Nat
  over10Speed : Nat
  configured  : Bool
  deriving DecidableEq, Repr

/-! ### PU: the protection unit (09) -/

/-- A set over the eight truck classes (R172). -/
structure TruckSet where
  gt : Bool
  gf : Bool
  dv : Bool
  os : Bool
  pl : Bool
  st : Bool
  sp : Bool
  pr : Bool
  deriving DecidableEq, Repr

inductive Level where
  | normal | safeStop | stoppedSafe
  deriving DecidableEq, Repr

/-- PU's state for one station (R172). -/
structure PuStation where
  conds     : StationFlags
  slipCount : Nat
  clearCount : Nat
  mtClaimed : Option Nat
  itClaimed : Option Nat
  slClaimed : Bool
  /-- the state as handed by SM -/
  copy      : StationState
  threshold : Nat
  deriving DecidableEq, Repr

structure Pu where
  masks      : TruckSet
  flags      : TruckSet
  conds      : TruckSet
  level      : Level
  stopped    : Nat
  osRef      : Option Nat
  osCount    : Nat
  osDemand   : Nat
  stations   : PerStation PuStation
  motorWarn  : Nat
  inverterWarn : Nat
  configured : Bool
  deriving DecidableEq, Repr

/-! ### SL: the supervisory link (10) -/

/-- The requests of 10.5, in the table's order. -/
inductive Req where
  | identify | readNotices | cancel | softReset
  | placeCeiling | amendCeiling | retireCeiling | queryCeiling | listCeilings | readEffective
  | configureDrive | arm | disarm | readAllocation
  | parkStation | restoreStation | rearmStation | readStationContext | writeParkedContext
  | configureGrid | setBankOrder | readGrid
  | profileWrite | profileRead | routeStart | routeStop | insertDetour | abortDetour | resume | readRoute
  | governorMode | forecast | forecastContinue | readGovernor
  | configureSteering | steerEnvelope | setAssist | readSteering
  | configurePayload | readPayload
  | configureProtection | clearFaults | setMask | protectionInit | readProtection
  deriving DecidableEq, Repr

/-- R197: the reply classes, in the order of their codes. -/
inductive ReplyClass where
  | done | doneAlert | partly | refusedState | refusedValue | stale | abandoned | malformed
  deriving DecidableEq, Repr

/-- The detail names of the Answers tables. -/
inductive Detail where
  | handle | noRecord | kind | speedFields | scope | direction | target | ramp | expiry | quota | notOwner | fading
  | fixedField | alreadyFading | filter | start | more
  | armed | weight | weightsZero | slew | alreadyArmed | notConfigured | noStations | bankFailed | noGrid | cancelled
  | alreadyDisarmed | moving
  | station | absent | alreadyParked | forced | trippedDuringPark | notParked | linkLost | restoredTripped | notStandby
  | notArmed | flagsSet | mask | trim | slipScale | flags
  | rated | capacity | cooling | altitude | dcMax | order | leadFailed
  | group | grade | limit | surface | holdKind | first | offset | routeEnds | routeLoop | offsetBeyond | notRunning
  | detourBusy | noDetour | routeEnded | routeFaulted | alreadyIdle | notHolding
  | mode | noChange | noRoute | clear | problem | applied | notApplied | noCursor | routeChanged | tooLate
  | ratio | gain | assistMax | reserve | range | firstRow | speedOrder | angleOrder | enable
  | emptyMass | sprung | speed
  | motorWarn | inverterWarn | parked | stillTripped | conditionsPresent | stillStopped | checkStarted | tripped | level
  | escalated
  | nothingInFlight | length | crc | code
  deriving DecidableEq, Repr

/-- A reply in the reply slot (R194). `req` is `none` for a frame that was not executed (MALFORMED). -/
structure Reply where
  req     : Option Req
  cls     : ReplyClass
  detail  : Option Detail
  attn    : Bool
  busy    : Bool
  overrun : Bool
  level   : Level
  payload : List Byte
  deriving DecidableEq, Repr

/-- The in-flight mark (R195): ARM, or PARK_STATION with the station being parked. -/
inductive InFlight where
  | arm
  | park (n : Station)
  deriving DecidableEq, Repr

/-- The notice kinds, in the order of R198. -/
inductive Notice where
  | routeEnded | detourTaken | detourDone | segmentMark | holdReached | routeFaulted | stationTrip | safeStop
  | bankFailed | payloadLatched | recordRetired
  deriving DecidableEq, Repr

/-- The notice set (R198): each kind at most once. -/
structure NoticeSet where
  routeEnded     : Bool
  detourTaken    : Bool
  detourDone     : Bool
  segmentMark    : Bool
  holdReached    : Bool
  routeFaulted   : Bool
  stationTrip    : Bool
  safeStop       : Bool
  bankFailed     : Bool
  payloadLatched : Bool
  recordRetired  : Bool
  deriving DecidableEq, Repr

structure Sl where
  /-- the frame being received (log 30) -/
  receiving : List Byte
  slot      : Option Reply
  inFlight  : Option InFlight
  overrun   : Bool
  busySeen  : Bool
  notices   : NoticeSet
  /-- STATION_TRIP's station set -/
  tripSet   : PerStation Bool
  /-- the retired-handle list, oldest first -/
  retired   : List Handle
  overflow  : Bool
  /-- output: the bytes the last read transaction shifted out (R194) -/
  shifted   : List Byte
  deriving DecidableEq, Repr

/-! ### The whole machine -/

/-- The state of the part. `pending` is the queue of waiting commands; `handed` the events handed between blocks and
not yet taken (log 1); `free` the counter applied to Config's free values (log 16). -/
structure State where
  ct : List Slot
  ta : Ta
  sm : PerStation StationCtx
  gd : Gd
  rs : Rs
  dg : Dg
  sc : Sc
  pm : Pm
  pu : Pu
  sl : Sl
  free    : Nat
  handed  : List Instr
  pending : List Instr
  deriving DecidableEq, Repr

/-- Faults: none. Every rule of the manual gives a command an effect, a refusal reply, or nothing (INVENTORY, Faults). -/
inductive Fault where
  deriving DecidableEq, Repr

/-- Refusals. -/
inductive Refusal where
  /-- raised by an arm of `exec` whose command has no meaning yet; no arm raises it. Safe. -/
  | notModelled (mnemonic : String)
  deriving DecidableEq, Repr

/-! ### Reset values -/

/-- No station flag set. -/
def StationFlags.none : StationFlags := ⟨false, false, false, false, false, false⟩

/-- The default protection settings (R52). -/
def Settings.default : Settings := ⟨⟨true, true, true, true⟩, StationFlags.none, 0, 100⟩

/-- R26 -/
def Ct.reset : List Slot := List.replicate 48 ⟨0, .free⟩

/-- R50; the figures of the last pass that R50 does not name are log 17. -/
def Ta.reset : Ta where
  state := .disarmed
  speed := 0
  wheelSign := .forward
  accum := 0
  safeRef := none
  fallCount := 0
  selector := .neutral
  accel := 0
  retardPedal := 0
  travel := .forward
  demand := .none
  dr := 0
  drPedal := 0
  drGovernor := 0
  drOverspeed := 0
  drSafe := 0
  dp := 0
  target := .fill 0
  handed := .fill 0
  enabled := .fill false
  slipMark := .fill none
  shortfall := 0
  blend := 0
  power := 0
  weights := .fill 1000
  slew := 50
  configured := false
  lastPass := ⟨.disarmed, .fill 1000, 50, false⟩

/-- R72 -/
def StationCtx.reset : StationCtx where
  state := .absent
  custody := .part
  settings := Settings.default
  parkSlot := none
  link := .lost
  deadline := none
  report := none
  roll := 0
  lastTwo := []
  lastGrant := 0
  lastEnable := false
  parkOrigin := none
  parkTimer := none
  frame := none

/-- R92 -/
def BankRec.reset : BankRec where
  state := .offline
  heat := 0
  share := 0
  accum := 0
  chopper := 0
  avail := 0
  blower := false
  blowerSpeed := 0
  blowerCount := 0
  blowerMark := false
  openCount := 0
  checkTimer := none
  recheck := false
  leadEnergy := 0
  leadRem := 0

/-- R75 -/
def GridCfg.default : GridCfg where
  rated := .fill 3000
  capacity := .fill 60000
  cooling := .fill 600
  altitude := 100
  dcMax := 2300

/-- R92 -/
def Gd.reset : Gd where
  banks := .fill BankRec.reset
  order := .fixedA
  lead := some .a
  unabsorbed := 0
  dcLink := 0
  ovCount := 0
  gt := false
  gf := false
  dvValue := none
  gridValue := none
  published :=
    { avail := .fill 0, heat := .fill 0, state := .fill .offline, capacity := 120000, total := 0, cooling := 1200 }
  cfg := GridCfg.default
  configured := false

/-- No valid entry, no detour (R116). -/
def RoutePos.reset : RoutePos := ⟨none, none, none, none, 0, .none, none⟩

/-- R116 -/
def Rs.reset : Rs where
  store := []
  state := .idle
  fault := none
  pos := RoutePos.reset
  startGroup := 0
  startFirst := 0
  index := 0
  debt := 0
  advance := 0

/-- R139; the gross mass is log 17. -/
def Dg.reset : Dg where
  enabled := true
  state := .standby
  mass := 0
  source := .conservative
  sustainable := none
  approach := none
  remaining := none
  shortCap := 700
  shortLast := 0
  target := none
  claimed := none
  demand := 0
  lastApply := none
  cursor := .absent

/-- R152: the default envelope. -/
def EnvTable.default : EnvTable where
  r0 := ⟨0, 450⟩
  r1 := ⟨50, 400⟩
  r2 := ⟨100, 330⟩
  r3 := ⟨150, 260⟩
  r4 := ⟨200, 200⟩
  r5 := ⟨300, 140⟩
  r6 := ⟨400, 100⟩
  r7 := ⟨500, 70⟩

/-- R158; the figures R158 does not name are log 17. -/
def Sc.reset : Sc where
  state := .align
  sensorA := none
  sensorB := none
  wheel := none
  pressure := none
  measured := none
  demanded := 0
  clamped := 0
  envLimit := 0
  valve := 0
  agreement := 0
  sensorFault := 0
  following := 0
  followMark := false
  lowCount := 0
  goodCount := 0
  pressureLow := false
  stCond := false
  spCond := false
  envelope := EnvTable.default
  envAngle := 0
  allowed := 0
  value := 0
  claimed := none
  aim := 0
  bias := 0
  ratio := 75
  gain := 40
  envRamp := 20
  assistMax := 100
  reserve := 110
  assistOn := false
  assistGain := 8
  configured := false
  lastUpdate :=
    { envelope := EnvTable.default, ratio := 75, gain := 40, envRamp := 20, assistMax := 100, reserve := 110
      assistOn := false, assistGain := 8, configured := false }

/-- R170; the strut and switch readings are log 17. -/
def Pm.reset : Pm where
  state := .unknown
  latched := none
  cls := none
  live := 0
  liveClass := .empty
  winSum := 0
  winCount := 0
  winMetres := 0
  stillSum := 0
  stillCount := 0
  dumpRelease := false
  plCond := false
  speedClaimed := none
  propelClaimed := none
  plMasked := true
  struts := .fill ⟨0, true⟩
  body := .down
  emptyMass := 230
  rated := 300
  sprung := 170
  over10Speed := 400
  configured := false

/-- No truck class. -/
def TruckSet.none : TruckSet := ⟨false, false, false, false, false, false, false, false⟩

/-- The default truck masks (R192): GT, ST and SP unmasked, the rest masked. -/
def TruckSet.defaultMasks : TruckSet :=
  { gt := false, gf := true, dv := true, os := true, pl := true, st := false, sp := false, pr := true }

/-- R192 -/
def PuStation.reset : PuStation where
  conds := StationFlags.none
  slipCount := 0
  clearCount := 0
  mtClaimed := none
  itClaimed := none
  slClaimed := false
  copy := .absent
  threshold := 10

/-- R192 -/
def Pu.reset : Pu where
  masks := TruckSet.defaultMasks
  flags := TruckSet.none
  conds := TruckSet.none
  level := .normal
  stopped := 0
  osRef := none
  osCount := 0
  osDemand := 0
  stations := .fill PuStation.reset
  motorWarn := 150
  inverterWarn := 85
  configured := false

/-- The empty notice set. -/
def NoticeSet.none : NoticeSet :=
  ⟨false, false, false, false, false, false, false, false, false, false, false⟩

/-- R203 -/
def Sl.reset : Sl where
  receiving := []
  slot := none
  inFlight := none
  overrun := false
  busySeen := false
  notices := NoticeSet.none
  tripSet := .fill false
  retired := []
  overflow := false
  shifted := []

/-- The machine right after a hard reset, with nothing waiting. -/
def State.reset : State where
  ct := Ct.reset
  ta := Ta.reset
  sm := .fill StationCtx.reset
  gd := Gd.reset
  rs := Rs.reset
  dg := Dg.reset
  sc := Sc.reset
  pm := Pm.reset
  pu := Pu.reset
  sl := Sl.reset
  free := 0
  handed := []
  pending := []

end Sys2Proof.Machine
end

