-- ==== Sys2Proof/Machine/Flags.lean ====
section
/-! DEFINITION. Protection flags and masks: reading and writing one class of a set, which flags trip a station
(R55, R56), and which hold the truck stopped (R183). -/

namespace Sys2Proof

def StationFlags.get (f : StationFlags) : StationClass → Bool
  | .oc => f.oc | .mt => f.mt | .it => f.it | .sl => f.sl | .lk => f.lk | .iv => f.iv

def StationFlags.put (f : StationFlags) (c : StationClass) (b : Bool) : StationFlags :=
  match c with
  | .oc => { f with oc := b }
  | .mt => { f with mt := b }
  | .it => { f with it := b }
  | .sl => { f with sl := b }
  | .lk => { f with lk := b }
  | .iv => { f with iv := b }

/-- The flags of `f` that are not in `g`. -/
def StationFlags.minus (f g : StationFlags) : StationFlags :=
  ⟨f.oc && !g.oc, f.mt && !g.mt, f.it && !g.it, f.sl && !g.sl, f.lk && !g.lk, f.iv && !g.iv⟩

/-- Some flag is set. -/
def StationFlags.any (f : StationFlags) : Bool := f.oc || f.mt || f.it || f.sl || f.lk || f.iv

/-- The states in which a tripping claim acts on the station (R56, R179). -/
def StationState.tripsHere : StationState → Bool
  | .standby | .live | .restoring | .parking => true
  | _ => false

/-- The states whose reports PU judges (R54, R176). -/
def StationState.judged : StationState → Bool
  | .standby | .live | .restoring | .tripped | .parking => true
  | .absent | .parked => false

def HandedClass.toTruck : HandedClass → TruckClass
  | .gt => .gt | .gf => .gf | .dv => .dv | .pl => .pl | .st => .st | .sp => .sp | .pr => .pr

end Sys2Proof

namespace Sys2Proof.Machine

/-! ### Station classes -/

/-- Whether a mask set masks a class; LK and IV are non-maskable (R173). -/
def StationMask.masks (m : StationMask) : StationClass → Bool
  | .oc => m.oc | .mt => m.mt | .it => m.it | .sl => m.sl | .lk => false | .iv => false

/-- A class whose condition escalates under these settings: unmasked or non-maskable (R173). -/
def Settings.escalates (x : Settings) (c : StationClass) : Bool := !x.mask.masks c

/-- A set flag of a class unmasked in the context, or LK or IV set (R55, R56, R67, R68, R69). -/
def Settings.tripping (x : Settings) : Bool :=
  (x.flags.oc && !x.mask.oc) || (x.flags.mt && !x.mask.mt) || (x.flags.it && !x.mask.it) || (x.flags.sl && !x.mask.sl)
    || x.flags.lk || x.flags.iv

def Settings.raise (x : Settings) (c : StationClass) : Settings := { x with flags := x.flags.put c true }

/-- The classes that `new` unmasks and whose flag is set, in the order OC, MT, IT, SL (R188). -/
def newlyEscalated (old new : StationMask) (f : StationFlags) : List StationClass :=
  [StationClass.oc, .mt, .it, .sl].filter fun c => old.masks c && !new.masks c && f.get c

/-! ### Truck classes -/

def TruckSet.get (x : TruckSet) : TruckClass → Bool
  | .gt => x.gt | .gf => x.gf | .dv => x.dv | .os => x.os | .pl => x.pl | .st => x.st | .sp => x.sp | .pr => x.pr

def TruckSet.put (x : TruckSet) (c : TruckClass) (b : Bool) : TruckSet :=
  match c with
  | .gt => { x with gt := b }
  | .gf => { x with gf := b }
  | .dv => { x with dv := b }
  | .os => { x with os := b }
  | .pl => { x with pl := b }
  | .st => { x with st := b }
  | .sp => { x with sp := b }
  | .pr => { x with pr := b }

/-- The classes of `x` that are also in `y`. -/
def TruckSet.inter (x y : TruckSet) : TruckSet :=
  ⟨x.gt && y.gt, x.gf && y.gf, x.dv && y.dv, x.os && y.os, x.pl && y.pl, x.st && y.st, x.sp && y.sp, x.pr && y.pr⟩

/-- The classes not in `x`. -/
def TruckSet.compl (x : TruckSet) : TruckSet := ⟨!x.gt, !x.gf, !x.dv, !x.os, !x.pl, !x.st, !x.sp, !x.pr⟩

def TruckSet.any (x : TruckSet) : Bool := x.gt || x.gf || x.dv || x.os || x.pl || x.st || x.sp || x.pr

/-- A truck flag of an unmasked class other than PL is set (R183, R187): what keeps the level from NORMAL. -/
def stopping (flags masks : TruckSet) : Bool := ({ (flags.inter masks.compl) with pl := false }).any

/-- A class whose begins event escalates to SAFE_STOP under these masks: unmasked, and not PL (R173, R180). -/
def TruckSet.stops (masks : TruckSet) (c : TruckClass) : Bool := c != .pl && !masks.get c

end Sys2Proof.Machine
end

