-- ==== Sys2Proof/Machine/Operands.lean ====
section
/-! DEFINITION. Operand forms: the codes of R204 read as the manual's names, class sets as 16-bit sets, descriptor
words, the owners and keys of R6, and the checks of optional fields that the Answers tables name. -/

namespace Sys2Proof

/-- The value of bit k of a set. -/
def bitValue (b : Bool) (k : Nat) : Nat := if b then 2 ^ k else 0

def StationFlags.code (f : StationFlags) : Nat :=
  bitValue f.oc 0 + bitValue f.mt 1 + bitValue f.it 2 + bitValue f.sl 3 + bitValue f.lk 4 + bitValue f.iv 5

def PerStation.code (p : PerStation Bool) : Nat :=
  bitValue p.s0 0 + bitValue p.s1 1 + bitValue p.s2 2 + bitValue p.s3 3

def ExpiryKind.code : ExpiryKind → Nat
  | .time => 0 | .distance => 1

def HoldKind.code : HoldKind → Nat
  | .load => 0 | .dump => 1 | .wait => 2

end Sys2Proof

namespace Sys2Proof.Machine

/-! ### Codes (R204) -/

/-- A station byte n names Sn; above 3 it names none. -/
def stationOf : Nat → Option Station
  | 0 => some .s0 | 1 => some .s1 | 2 => some .s2 | 3 => some .s3 | _ => none

def directionOf : Nat → Option Direction
  | 0 => some .propel | 1 => some .retard | 2 => some .both | _ => none

/-- A scope byte: bit n for Sn. Empty, or naming a station other than S0 to S3, is no scope (R18; log 24). -/
def scopeOf (n : Nat) : Option (PerStation Bool) :=
  if n = 0 || decide (16 ≤ n) then none else some ⟨n.testBit 0, n.testBit 1, n.testBit 2, n.testBit 3⟩

/-- An expiry's kind code and full value: an unknown kind or the value 0 is no expiry (R18, R19). -/
def expiryOf : Nat × Nat → Option Expiry
  | (0, v) => if v = 0 then none else some ⟨.time, v⟩
  | (1, v) => if v = 0 then none else some ⟨.distance, v⟩
  | _ => none

def orderOf : Nat → Option LeadOrder
  | 0 => some .fixedA | 1 => some .fixedB | 2 => some .alternate | _ => none

/-- A two-valued code: 0 ENABLE, 1 DISABLE (R204). -/
def enableOf : Nat → Option Bool
  | 0 => some true | 1 => some false | _ => none

/-- The flag byte of APPLY: 1 set, 0 clear (R204). -/
def applyOf : Nat → Option Bool
  | 0 => some false | 1 => some true | _ => none

/-! ### Class sets: bits 0 to 13 stand for OC MT IT SL LK IV GT GF DV OS PL ST SP PR (R204) -/

/-- The bits from `lo` to `hi` of a set, any of them set. -/
def anyBit (n lo hi : Nat) : Bool := (List.range (hi + 1 - lo)).any fun k => n.testBit (lo + k)

/-- A station's mask set: a 1 for a class not maskable there is refused (R188, R204). -/
def stationMaskOf (n : Nat) : Option StationMask :=
  if anyBit n 4 13 then none else some ⟨n.testBit 0, n.testBit 1, n.testBit 2, n.testBit 3⟩

/-- A set of station flags: a class other than the six is refused (R71). -/
def stationFlagsOf (n : Nat) : Option StationFlags :=
  if anyBit n 6 13 then none
  else some ⟨n.testBit 0, n.testBit 1, n.testBit 2, n.testBit 3, n.testBit 4, n.testBit 5⟩

/-- The truck's mask set: a station class is refused (R188, R204). -/
def truckMaskOf (n : Nat) : Option TruckSet :=
  if anyBit n 0 5 then none
  else some
    { gt := n.testBit 6, gf := n.testBit 7, dv := n.testBit 8, os := n.testBit 9, pl := n.testBit 10, st := n.testBit 11
      sp := n.testBit 12, pr := n.testBit 13 }

def StationMask.code (m : StationMask) : Nat := bitValue m.oc 0 + bitValue m.mt 1 + bitValue m.it 2 + bitValue m.sl 3

def TruckSet.code (x : TruckSet) : Nat :=
  bitValue x.gt 6 + bitValue x.gf 7 + bitValue x.dv 8 + bitValue x.os 9 + bitValue x.pl 10 + bitValue x.st 11
    + bitValue x.sp 12 + bitValue x.pr 13

/-! ### Owners and keys (R6) -/

/-- The owners in the order of R5 and R204. -/
inductive Owner where
  | supervisor | governor | steering | payload | protection
  deriving DecidableEq, Repr

def keyOwner : Key → Owner
  | .governorTarget | .governorForecast => .governor
  | .steeringEnvelope => .steering
  | .payloadSpeed | .payloadPropel => .payload
  | .oc _ | .mt _ | .it _ | .sl _ | .grid | .dv | .safe => .protection

def Holder.owner : Holder → Owner
  | .supervisor => .supervisor
  | .internal k => keyOwner k

/-- The reason code fixed for a key (R6). -/
def keyReason : Key → Nat
  | .governorTarget => 224 | .governorForecast => 225 | .steeringEnvelope => 232
  | .payloadSpeed => 240 | .payloadPropel => 241
  | .oc _ => 248 | .mt _ => 249 | .it _ => 250 | .sl _ => 251 | .grid => 252 | .dv => 253 | .safe => 254

/-- The scope holding one station. -/
def only (n : Station) : PerStation Bool := (PerStation.fill false).set n true

/-- The kind, scope and direction fixed for a key (R6). -/
def keyLimit : Key → Limit
  | .governorTarget | .governorForecast | .steeringEnvelope | .payloadSpeed => .speed
  | .payloadPropel => .torque (.fill true) .propel
  | .oc n | .mt n | .it n | .sl n => .torque (only n) .both
  | .grid | .dv => .torque (.fill true) .retard
  | .safe => .torque (.fill true) .propel

/-- A key's code within its owner (R204). -/
def keyCode : Key → Nat
  | .governorTarget => 0 | .governorForecast => 1 | .steeringEnvelope => 0 | .payloadSpeed => 0 | .payloadPropel => 1
  | .oc n => n.num | .mt n => 4 + n.num | .it n => 8 + n.num | .sl n => 12 + n.num
  | .grid => 16 | .dv => 17 | .safe => 18

def Owner.code : Owner → Nat
  | .supervisor => 0 | .governor => 1 | .steering => 2 | .payload => 3 | .protection => 4

/-- An owner filter: 0 SUPERVISOR to 4 PROTECTION, 5 ALL (R204); whether it is one of the six values, and whom it takes. -/
def filterMatches (filter : Nat) (o : Owner) : Bool := filter == 5 || filter == o.code

/-- A kind's maximum (R5). -/
def Limit.maximum : Limit → Nat
  | .torque _ _ => 1000
  | .speed => 700

def Limit.kindCode : Limit → Nat
  | .torque _ _ => 0
  | .speed => 1

def Limit.scopeCode : Limit → Option Nat
  | .torque scope _ => some scope.code
  | .speed => none

def Direction.code : Direction → Nat
  | .propel => 0 | .retard => 1 | .both => 2

def Limit.directionCode : Limit → Option Nat
  | .torque _ d => some d.code
  | .speed => none

/-! ### Descriptor words (R204) -/

def surfaceOf : Nat → Option Surface
  | 0 => some .dry | 1 => some .wet | 2 => some .slick | _ => none

def holdKindOf : Nat → Option HoldKind
  | 0 => some .load | 1 => some .dump | 2 => some .wait | _ => none

/-- The fields of a descriptor word. -/
def wordKind (w : BitVec 40) : Nat := (w.extractLsb' 37 3).toNat
def wordLength (w : BitVec 40) : Nat := (w.extractLsb' 25 12).toNat
def wordGrade (w : BitVec 40) : Int := (w.extractLsb' 16 9).toInt
def wordLimit (w : BitVec 40) : Nat := (w.extractLsb' 6 10).toNat
def wordSurface (w : BitVec 40) : Nat := (w.extractLsb' 4 2).toNat
def wordNotify (w : BitVec 40) : Bool := w.getLsbD 3
def wordTarget (w : BitVec 40) : Nat := (w.extractLsb' 29 8).toNat
def wordHold (w : BitVec 40) : Nat := (w.extractLsb' 35 2).toNat

/-- What is wrong with a descriptor word, in the order of R95's table; `none` when it is accepted. -/
def wordFault (w : BitVec 40) : Option Detail :=
  match wordKind w with
  | 0 =>
    if wordGrade w < -250 || 250 < wordGrade w then some .grade
    else if 700 < wordLimit w then some .limit
    else if (surfaceOf (wordSurface w)).isNone then some .surface
    else none
  | 1 => if 63 < wordTarget w then some .target else none
  | 2 => none
  | 3 => if (holdKindOf (wordHold w)).isNone then some .holdKind else none
  | _ => some .kind

/-- The descriptor a word spells; a refused word never reaches the store (R95). -/
def descOf (w : BitVec 40) : Desc :=
  match wordKind w with
  | 0 => .span (wordLength w) (wordGrade w) (wordLimit w) ((surfaceOf (wordSurface w)).getD .dry) (wordNotify w)
  | 1 => .jump (wordTarget w)
  | 3 => .hold ((holdKindOf (wordHold w)).getD .wait)
  | _ => .stop

def Surface.code : Surface → Nat
  | .dry => 0 | .wet => 1 | .slick => 2

/-- The word of a descriptor (R204). -/
def descWord : Desc → BitVec 40
  | .span len grade limit surface notify =>
    (BitVec.ofNat 40 len <<< 25) ||| ((BitVec.ofInt 9 grade).setWidth 40 <<< 16) ||| (BitVec.ofNat 40 limit <<< 6)
      ||| (BitVec.ofNat 40 surface.code <<< 4) ||| (if notify then 8#40 else 0#40)
  | .jump g => (1#40 <<< 37) ||| (BitVec.ofNat 40 g <<< 29)
  | .stop => 2#40 <<< 37
  | .hold k => (3#40 <<< 37) ||| (BitVec.ofNat 40 k.code <<< 35)

/-- The details in the order in which R95's table lists them. -/
def descDetails : List Detail := [.kind, .grade, .limit, .surface, .target, .holdKind]

/-- The first detail of R95's table that some descriptor of the group calls for. -/
def groupFault (ws : List (BitVec 40)) : Option Detail :=
  descDetails.find? fun d => ws.any fun w => wordFault w == some d

/-- The position of the first descriptor refused with a detail (R95; log 47). -/
def faultPosition (ws : List (BitVec 40)) (d : Detail) : Nat := ws.findIdx fun w => wordFault w == some d

end Sys2Proof.Machine
end

