-- ==== Sys2Proof/Machine/Layouts.lean ====
section
/-! DEFINITION. Byte layouts of what the part sends (R194, R197, R204): payload fields, the reply frame with its class
and detail codes, and the GRANT frame. -/

namespace Sys2Proof.Machine

/-! ### Payload fields -/

/-- A two-valued named field: position 0 for the value the state table lists first (`b`), 1 for the other (R204). -/
def namedByte (b : Bool) : List Byte := u8 (if b then 0 else 1)

def optU8 : Option Nat → List Byte := orAbsent u8 0
def optU16 : Option Nat → List Byte := orAbsent u16 0
def optS16 : Option Int → List Byte := orAbsent s16 0

/-- A handle: the slot, then the generation. -/
def handleBytes (h : Handle) : List Byte := u8 h.slot ++ u8 h.gen

def optHandle : Option Handle → List Byte := orAbsent handleBytes ⟨0, 0⟩

/-! ### Positions in the lists of values the state tables give (R204) -/

def TaState.code : TaState → Nat
  | .disarmed => 0 | .arming => 1 | .neutral => 2 | .coast => 3 | .propel => 4 | .retard => 5 | .reversalWait => 6

def Selector.code : Selector → Nat
  | .forward => 0 | .neutral => 1 | .reverse => 2

def travelCode : Travel → Nat
  | .forward => 0 | .reverse => 1

/-- A demand direction; none is sent as an absent value, PROPEL as 0 and RETARD as 1 (R204; log 11). -/
def Demand.asDirection : Demand → Option Nat
  | .propel => some 0
  | .retard => some 1
  | .none => Option.none

def stationStateCode : StationState → Nat
  | .absent => 0 | .standby => 1 | .live => 2 | .tripped => 3 | .parking => 4 | .parked => 5 | .restoring => 6

def Custody.code : Custody → Nat
  | .part => 0 | .supervisor => 1

def LinkStatus.code : LinkStatus → Nat
  | .alive => 0 | .lost => 1

def ParkOrigin.code : ParkOrigin → Nat
  | .standby => 0 | .live => 1 | .restoring => 2 | .tripped => 3

def BankState.code : BankState → Nat
  | .offline => 0 | .checking => 1 | .ready => 2 | .dissipating => 3 | .failed => 4

def bankCode : Bank → Nat
  | .a => 0 | .b => 1

def LeadOrder.code : LeadOrder → Nat
  | .fixedA => 0 | .fixedB => 1 | .alternate => 2

def RouteState.code : RouteState → Nat
  | .idle => 0 | .running => 1 | .holding => 2 | .ended => 3 | .faulted => 4

def RouteFault.code : Option RouteFault → Nat
  | none => 0 | some .lostPosition => 1 | some .jumpLoop => 2

def GovState.code : GovState → Nat
  | .off => 0 | .standby => 1 | .tracking => 2 | .governing => 3 | .holding => 4

def MassSource.code : MassSource → Nat
  | .latched => 0 | .conservative => 1

def SteerState.code : SteerState → Nat
  | .align => 0 | .tracking => 1 | .limited => 2 | .direct => 3

def PayloadState.code : PayloadState → Nat
  | .unknown => 0 | .empty => 1 | .loading => 2 | .measuring => 3 | .latched => 4 | .dumping => 5

def PayloadClass.code : PayloadClass → Nat
  | .empty => 0 | .carry => 1 | .over10 => 2 | .over20 => 3 | .overmax => 4

def bodyCode : Body → Nat
  | .down => 0 | .up => 1

def Level.code : Level → Nat
  | .normal => 0 | .safeStop => 1 | .stoppedSafe => 2

/-! ### The reply frame (R194, R197, R204) -/

def ReplyClass.code : ReplyClass → Nat
  | .done => 0 | .doneAlert => 1 | .partly => 2 | .refusedState => 3 | .refusedValue => 4 | .stale => 5 | .abandoned => 6
  | .malformed => 7

/-- The distinct detail names of each request's Answers table, in table order (R197); CLEAR_FAULTS over R186 and R187. -/
def answers : Req → List Detail
  | .identify | .readNotices | .readEffective | .readAllocation | .readGrid | .readRoute | .readGovernor | .readSteering
  | .readPayload | .readProtection => []
  | .cancel => [.nothingInFlight]
  | .softReset => [.armed, .moving]
  | .placeCeiling => [.kind, .speedFields, .scope, .direction, .target, .ramp, .expiry, .quota]
  | .amendCeiling => [.handle, .noRecord, .notOwner, .fading, .fixedField, .target, .ramp, .expiry]
  | .retireCeiling => [.handle, .noRecord, .notOwner, .alreadyFading]
  | .queryCeiling => [.handle, .noRecord]
  | .listCeilings => [.filter, .start, .more]
  | .configureDrive => [.armed, .weight, .weightsZero, .slew]
  | .arm => [.alreadyArmed, .notConfigured, .noStations, .bankFailed, .noGrid, .cancelled]
  | .disarm => [.alreadyDisarmed, .moving]
  | .parkStation => [.station, .absent, .alreadyParked, .forced, .trippedDuringPark, .cancelled]
  | .restoreStation => [.station, .notParked, .linkLost, .restoredTripped]
  | .rearmStation => [.station, .notStandby, .notArmed, .linkLost, .flagsSet]
  | .readStationContext => [.station]
  | .writeParkedContext => [.station, .notParked, .mask, .trim, .slipScale, .flags]
  | .configureGrid => [.armed, .rated, .capacity, .cooling, .altitude, .dcMax]
  | .setBankOrder => [.order, .leadFailed]
  | .profileWrite => [.group, .kind, .grade, .limit, .surface, .target, .holdKind]
  | .profileRead => [.group]
  | .routeStart => [.group, .first, .offset, .routeEnds, .routeLoop, .offsetBeyond]
  | .routeStop => [.alreadyIdle]
  | .insertDetour => [.group, .notRunning, .detourBusy]
  | .abortDetour => [.noDetour, .routeEnded, .routeFaulted]
  | .resume => [.notHolding, .routeEnded, .routeFaulted]
  | .governorMode => [.mode, .noChange]
  | .forecast => [.flags, .noRoute, .clear, .problem, .applied, .notApplied, .routeLoop, .more]
  | .forecastContinue => [.noCursor, .routeChanged, .problem, .applied, .notApplied, .tooLate, .routeLoop, .more]
  | .configureSteering => [.armed, .ratio, .gain, .ramp, .assistMax, .reserve]
  | .steerEnvelope => [.range, .firstRow, .speedOrder, .angleOrder]
  | .setAssist => [.enable, .gain]
  | .configurePayload => [.armed, .emptyMass, .rated, .sprung, .speed]
  | .configureProtection => [.armed, .motorWarn, .inverterWarn]
  | .clearFaults => [.target, .parked, .stillTripped, .conditionsPresent, .moving, .stillStopped, .checkStarted]
  | .setMask => [.target, .mask, .tripped, .parked, .level, .escalated]
  | .protectionInit => [.level, .moving]

/-- The details of MALFORMED, fixed for every code (R197). -/
def malformedDetails : List Detail := [.length, .crc, .code]

/-- A detail's position, counting from 1, in a list; 0 for no detail (R197). -/
def detailIn (names : List Detail) : Option Detail → Nat
  | none => 0
  | some d => if names.contains d then names.idxOf d + 1 else 0

/-- A reply's detail code (R197). -/
def Reply.detailCode (r : Reply) : Nat :=
  match r.req with
  | none => detailIn malformedDetails r.detail
  | some q => detailIn (answers q) r.detail

/-- An odd payload ends with one pad byte, sent as 0 (R204). -/
def padded (p : List Byte) : List Byte := if p.length % 2 = 1 then p ++ [0] else p

/-- The reply frame, after the type byte (R204). -/
def Reply.frame (r : Reply) : List Byte :=
  let p := padded r.payload
  sealFrame (u8 r.cls.code ++ u8 r.detailCode
    ++ u8 (bitValue r.attn 0 + bitValue r.busy 1 + bitValue r.overrun 2) ++ u8 r.level.code ++ u8 (p.length / 2) ++ p)

/-! ### The GRANT frame (R57, R204) -/

def GrantFrame.bytes (f : GrantFrame) : List Byte :=
  sealFrame (u8 (f.id + bitValue f.enable 2 + bitValue (f.travel == .reverse) 3 + 16 * f.counter) ++ s16 f.grant)

end Sys2Proof.Machine
end

