-- ==== Sys2Proof/Machine/Ops.lean ====
section
/-! DEFINITION. The shared operations: block updates, events handed between blocks, notices and lines (SL), the ceiling
table's claims, countdowns and lookups (CT), replies and frame taking (SL), the truck response (PU), and changes of
station state with their frames, trips and park completion (SM). Every command's meaning is written over these. -/

namespace Sys2Proof.Machine

/-! ### Block updates -/

def State.withCt (s : State) (x : List Slot) : State := { s with ct := x }
def State.withTa (s : State) (x : Ta) : State := { s with ta := x }
def State.withSm (s : State) (x : PerStation StationCtx) : State := { s with sm := x }
def State.withGd (s : State) (x : Gd) : State := { s with gd := x }
def State.withRs (s : State) (x : Rs) : State := { s with rs := x }
def State.withDg (s : State) (x : Dg) : State := { s with dg := x }
def State.withSc (s : State) (x : Sc) : State := { s with sc := x }
def State.withPm (s : State) (x : Pm) : State := { s with pm := x }
def State.withPu (s : State) (x : Pu) : State := { s with pu := x }
def State.withSl (s : State) (x : Sl) : State := { s with sl := x }
def State.withFree (s : State) (x : Nat) : State := { s with free := x }
def State.withHanded (s : State) (x : List Instr) : State := { s with handed := x }
def State.withPending (s : State) (x : List Instr) : State := { s with pending := x }

/-- Hand an event to another block: it waits until it is taken (log 1). -/
def State.hand (s : State) (i : Instr) : State := s.withHanded (s.handed ++ [i])

/-! ### Notices and lines (10.4, R185, R199) -/

def NoticeSet.raise (x : NoticeSet) : Notice → NoticeSet
  | .routeEnded => { x with routeEnded := true }
  | .detourTaken => { x with detourTaken := true }
  | .detourDone => { x with detourDone := true }
  | .segmentMark => { x with segmentMark := true }
  | .holdReached => { x with holdReached := true }
  | .routeFaulted => { x with routeFaulted := true }
  | .stationTrip => { x with stationTrip := true }
  | .safeStop => { x with safeStop := true }
  | .bankFailed => { x with bankFailed := true }
  | .payloadLatched => { x with payloadLatched := true }
  | .recordRetired => { x with recordRetired := true }

/-- The notice set is not empty. -/
def NoticeSet.any (x : NoticeSet) : Bool :=
  x.routeEnded || x.detourTaken || x.detourDone || x.segmentMark || x.holdReached || x.routeFaulted || x.stationTrip
    || x.safeStop || x.bankFailed || x.payloadLatched || x.recordRetired

/-- R198: raise a notice; a kind already pending changes nothing. -/
def State.notify (s : State) (k : Notice) : State := s.withSl { s.sl with notices := s.sl.notices.raise k }

/-- R198: raise STATION_TRIP naming a station. -/
def State.notifyTrip (s : State) (n : Station) : State :=
  s.withSl { s.sl with notices := s.sl.notices.raise .stationTrip, tripSet := s.sl.tripSet.set n true }

/-- Some station is TRIPPED in PU's copy of the station states (R172). -/
def Pu.anyTripped (p : Pu) : Bool := p.stations.toList.any fun x => x.copy == .tripped

/-- R185: the FAULT line. -/
def State.faultLine (s : State) : Bool := s.pu.anyTripped || s.pu.level != .normal

/-- R199: ATTN. -/
def State.attn (s : State) : Bool := s.sl.notices.any || s.pu.anyTripped || s.pu.level != .normal

/-- R194: RDY is asserted while the reply slot holds a reply. -/
def State.rdy (s : State) : Bool := s.sl.slot.isSome

/-- R144: STEER_DIRECT. -/
def State.steerDirect (s : State) : Bool := s.sc.state == .align || s.sc.state == .direct

/-! ### The ceiling table (01) -/

/-- The record of a LIVE or FADING slot. -/
def SlotEntry.held : SlotEntry → Option CeilingRecord
  | .free => none
  | .live r => some r
  | .fading r => some r

def SlotEntry.isFree : SlotEntry → Bool
  | .free => true
  | _ => false

/-- R7 step 1: the next generation. -/
def nextGen (g : Nat) : Nat := if g = 255 then 1 else g + 1

/-- An expiry with its counter loaded (R7, R14, R19). -/
def Expiry.start (e : Expiry) : Countdown := ⟨e.kind, e.full, e.full⟩

/-- R8: set a record's target. -/
def CeilingRecord.setTarget (r : CeilingRecord) (t : Nat) : CeilingRecord :=
  if t ≤ r.current || r.ramp.isNone then { r with target := t, current := t } else { r with target := t }

/-- R11: what a LIVE record's slot holds after its retirement. -/
def CeilingRecord.retired (r : CeilingRecord) : SlotEntry :=
  if r.ramp.isSome && decide (r.current < r.limit.maximum) then
    .fading { r with target := r.limit.maximum, expiry := none }
  else .free

/-- R7: place a record in the lowest-numbered FREE slot; with none free nothing is placed (log 35). -/
def placeRecord (t : List Slot) (r : CeilingRecord) : List Slot × Option Handle :=
  match t.findIdx? (fun x => x.entry.isFree) with
  | none => (t, none)
  | some i =>
    let g := nextGen ((t.getD i ⟨0, .free⟩).gen)
    (t.set i ⟨g, .live r⟩, some ⟨i, g⟩)

/-- Whether a slot holds the record of an internal key. -/
def Slot.holdsKey (x : Slot) (k : Key) : Bool :=
  match x.entry.held with
  | some r => r.holder == .internal k
  | none => false

/-- R13: a value is held to the range of the key's kind. -/
def claimValue (k : Key) (v : Int) : Nat := (hold 0 ((keyLimit k).maximum : Nat) v).toNat

/-- R13, R14: the record a set claim places. -/
def claimedRecord (k : Key) (v : Int) (ramp : Option Nat) (expiry : Option Expiry) : CeilingRecord where
  holder := .internal k
  limit := keyLimit k
  target := claimValue k v
  current := claimValue k v
  ramp := ramp
  expiry := expiry.map Expiry.start
  reason := keyReason k
  notify := false

/-- R14: what a set claim makes of the LIVE or FADING record of its key. -/
def CeilingRecord.reclaimed (r : CeilingRecord) (k : Key) (v : Int) (ramp : Option Nat) (expiry : Option Expiry) :
    CeilingRecord :=
  CeilingRecord.setTarget { r with ramp := ramp, expiry := expiry.map Expiry.start } (claimValue k v)

/-- R14: a set claim on the table. -/
def claimSet (t : List Slot) (k : Key) (v : Int) (ramp : Option Nat) (expiry : Option Expiry) : List Slot :=
  match t.findIdx? (fun x => x.holdsKey k) with
  | none => (placeRecord t (claimedRecord k v ramp expiry)).1
  | some i =>
    let x := t.getD i ⟨0, .free⟩
    match x.entry.held with
    | some r => t.set i ⟨x.gen, .live (r.reclaimed k v ramp expiry)⟩
    | none => t

/-- R15: a retire claim on a slot that holds the key's record. -/
def Slot.retireWith (x : Slot) (ramp : Option Nat) : Slot :=
  match x.entry with
  | .live r => ⟨x.gen, CeilingRecord.retired { r with ramp := ramp.orElse fun _ => r.ramp }⟩
  | _ => x

/-- R15: a retire claim on the table. -/
def claimRetire (t : List Slot) (k : Key) (ramp : Option Nat) : List Slot :=
  match t.findIdx? (fun x => x.holdsKey k) with
  | none => t
  | some i => t.set i ((t.getD i ⟨0, .free⟩).retireWith ramp)

/-- A set claim, taken at CT within the event that sends it (log 2). -/
def State.claim (s : State) (k : Key) (v : Int) (ramp : Option Nat) (expiry : Option Expiry) : State :=
  s.withCt (claimSet s.ct k v ramp expiry)

/-- A retire claim, taken at CT within the event that sends it (log 2). -/
def State.release (s : State) (k : Key) (ramp : Option Nat) : State := s.withCt (claimRetire s.ct k ramp)

/-- R9: the ramp step of one record. -/
def CeilingRecord.rise (r : CeilingRecord) : CeilingRecord :=
  match r.ramp with
  | some k => { r with current := min (r.current + k) r.target }
  | none => r

/-- R9: the ramp step of one slot; a FADING record that reaches its kind's maximum is freed. -/
def Slot.rampStep (x : Slot) : Slot :=
  match x.entry with
  | .free => x
  | .live r => if r.current < r.target then { x with entry := .live r.rise } else x
  | .fading r =>
    if r.current < r.target then
      if r.rise.current = r.limit.maximum then { x with entry := .free } else { x with entry := .fading r.rise }
    else x

/-- R10: a LIVE record's counter of the given kind counts down by 1. -/
def Slot.countDown (kind : ExpiryKind) (x : Slot) : Slot :=
  match x.entry with
  | .live r =>
    match r.expiry with
    | some e => if e.kind = kind then { x with entry := .live { r with expiry := some { e with counter := e.counter - 1 } } } else x
    | none => x
  | _ => x

/-- A LIVE record whose expiry counter stands at 0 (R12). -/
def SlotEntry.expired : SlotEntry → Bool
  | .live r =>
    match r.expiry with
    | some e => e.counter == 0
    | none => false
  | _ => false

/-- A LIVE record whose counter of the given kind stands at 0. -/
def SlotEntry.expiredOf (kind : ExpiryKind) : SlotEntry → Bool
  | .live r =>
    match r.expiry with
    | some e => e.kind == kind && e.counter == 0
    | none => false
  | _ => false

/-- R198: SL enters a handle handed over by CT in the retired-handle list and raises RECORD_RETIRED. -/
def State.enterRetired (s : State) (h : Handle) : State :=
  let l := s.sl
  let l' :=
    if l.retired.contains h then l
    else if l.retired.length < 8 then { l with retired := l.retired ++ [h] }
    else { l with overflow := true }
  (s.withSl l').notify .recordRetired

/-- R12: the expiry of the record in slot `i`, which the caller has found expired: retired by R11, and its handle handed
to SL when its notify flag is set. -/
def State.expireSlot (s : State) (i : Nat) : State :=
  let x := s.ct.getD i ⟨0, .free⟩
  match x.entry with
  | .live r =>
    let t := s.withCt (s.ct.set i ⟨x.gen, r.retired⟩)
    if r.notify then t.enterRetired ⟨i, x.gen⟩ else t
  | _ => s

/-- The slots whose records expire at this countdown, in slot order (log 9). -/
def expiredSlots (kind : ExpiryKind) (t : List Slot) : List Nat :=
  (t.zipIdx.filter fun p => p.1.entry.expiredOf kind).map Prod.snd

/-- R10, R12: one countdown of every LIVE record's counter of a kind, with the expiries it brings about. A counter of full
value 1 reaches 0 at the next countdown even where a claim has just reloaded it (log 45). -/
def State.countDownAll (s : State) (kind : ExpiryKind) : State :=
  let t := s.ct.map (Slot.countDown kind)
  (expiredSlots kind t).foldl State.expireSlot (s.withCt t)

/-- An effective ceiling and the record that binds it (R17). -/
structure Ceiling where
  value   : Nat
  binding : Option Handle
  deriving DecidableEq, Repr

/-- R17: the lowest value of a list in slot order, and the first slot that holds it; `most` where there is none. -/
def lowest (most : Nat) (l : List (Handle × Nat)) : Ceiling :=
  l.foldl (fun c p => if c.binding.isNone || decide (p.2 < c.value) then ⟨p.2, some p.1⟩ else c) ⟨most, none⟩

/-- The LIVE and FADING records that match, in slot order, with their handles and current values. -/
def matching (t : List Slot) (p : CeilingRecord → Bool) : List (Handle × Nat) :=
  t.zipIdx.filterMap fun x =>
    match x.1.entry.held with
    | some r => if p r then some (⟨x.2, x.1.gen⟩, r.current) else none
    | none => none

/-- A TORQUE record that limits station `n` in the direction (`retard` false for PROPEL). -/
def CeilingRecord.limitsTorque (n : Station) (retard : Bool) (r : CeilingRecord) : Bool :=
  match r.limit with
  | .torque scope d => scope.get n && (d == .both || d == (if retard then .retard else .propel))
  | .speed => false

def CeilingRecord.limitsSpeed (r : CeilingRecord) : Bool :=
  match r.limit with
  | .speed => true
  | .torque _ _ => false

/-- R17: the effective torque ceiling of a station and direction. -/
def torqueCeiling (t : List Slot) (n : Station) (retard : Bool) : Ceiling :=
  lowest 1000 (matching t (CeilingRecord.limitsTorque n retard))

/-- R17: the effective speed ceiling. -/
def speedCeiling (t : List Slot) : Ceiling := lowest 700 (matching t CeilingRecord.limitsSpeed)

/-- R17, exclusion lookup: the speed ceiling without the record of one key. -/
def speedCeilingBut (t : List Slot) (k : Key) : Ceiling :=
  lowest 700 (matching t fun r => r.limitsSpeed && r.holder != .internal k)

/-- R17, exclusion lookup: the speed ceiling without the records of one owner. -/
def speedCeilingButOwner (t : List Slot) (o : Owner) : Ceiling :=
  lowest 700 (matching t fun r => r.limitsSpeed && r.holder.owner != o)

/-! ### Frames and replies (10.1 to 10.3) -/

/-- An answer: class, detail, payload (R2). -/
structure Answer where
  cls     : ReplyClass
  detail  : Option Detail
  payload : List Byte
  deriving DecidableEq, Repr

def done (payload : List Byte) : Answer := ⟨.done, none, payload⟩
def doneAlert (d : Detail) (payload : List Byte) : Answer := ⟨.doneAlert, some d, payload⟩
def refuseState (d : Detail) : Answer := ⟨.refusedState, some d, []⟩
def refuseValue (d : Detail) : Answer := ⟨.refusedValue, some d, []⟩
def staleAnswer (d : Detail) : Answer := ⟨.stale, some d, []⟩

/-- R194: place a reply; its header is built at this event, and the busy-seen and overrun marks are cleared. -/
def State.reply (s : State) (req : Option Req) (a : Answer) : State :=
  s.withSl
    { s.sl with
      slot := some
        { req := req, cls := a.cls, detail := a.detail, attn := s.attn, busy := s.sl.busySeen, overrun := s.sl.overrun
          level := s.pu.level, payload := a.payload }
      busySeen := false
      overrun := false }

/-- R194: a write transaction's frame is taken; an unread reply is discarded and the overrun mark set. -/
def State.takeFrame (s : State) : State :=
  s.withSl { s.sl with receiving := [], slot := none, overrun := s.sl.overrun || s.sl.slot.isSome }

/-- R195: a frame taken while the link is busy is discarded and the busy-seen mark set. -/
def State.discardFrame (s : State) : State := s.withSl { s.sl with receiving := [], busySeen := true }

/-- R193, R195: a well-formed request frame. While the link is busy it is discarded; otherwise its owner takes it whole
(`body`) and its reply is placed. -/
def request (req : Req) (body : State → State × Answer) (s : State) : State :=
  if s.sl.inFlight.isSome then s.discardFrame
  else
    let r := body s.takeFrame
    r.1.reply (some req) r.2

/-- R2: the first check that fails gives the answer. -/
def firstFailure : List (Bool × Answer) → Option Answer
  | [] => none
  | (fails, a) :: rest => if fails then some a else firstFailure rest

/-- R195: a request that may stay in flight: while the link is busy its frame is discarded; a failed check answers it at
once; an accepted one sets the in-flight mark, and is answered later. -/
def longRequest (req : Req) (mark : InFlight) (checks : State → List (Bool × Answer)) (accept : State → State)
    (s : State) : State :=
  if s.sl.inFlight.isSome then s.discardFrame
  else
    let t := s.takeFrame
    match firstFailure (checks t) with
    | some a => t.reply (some req) a
    | none => accept (t.withSl { t.sl with inFlight := some mark })

/-- R2: the checks of a request in the order of its Answers table; the first that fails gives the answer. -/
def checked (s : State) (checks : List (Bool × Answer)) (ok : State × Answer) : State × Answer :=
  match checks with
  | [] => ok
  | (fails, a) :: rest => if fails then (s, a) else checked s rest ok

/-- A request that only reads. -/
def reading (payload : State → List Byte) (s : State) : State × Answer := (s, done (payload s))

/-! ### The truck response (09) -/

/-- R183: an escalation to SAFE_STOP; outside NORMAL nothing is done for it. -/
def State.safeStop (s : State) : State :=
  if s.pu.level = .normal then
    let t := s.claim .safe 0 none none
    (t.withPu { t.pu with level := .safeStop, stopped := 0 }).notify .safeStop
  else s

/-- R173, R180: a truck class's condition begins: mark, flag, PU's notices, and the escalation when unmasked. -/
def State.truckBegins (s : State) (c : TruckClass) : State :=
  let t := s.withPu { s.pu with conds := s.pu.conds.put c true, flags := s.pu.flags.put c true }
  let u := match c with
    | .gf => t.notify .bankFailed
    | .pr => t.notify .routeFaulted
    | _ => t
  if u.pu.masks.stops c then u.safeStop else u

/-- R180: a begins event from another block; a condition already marked as holding changes nothing. -/
def State.beginsEvent (s : State) (c : HandedClass) : State :=
  if s.pu.conds.get c.toTruck then s else s.truckBegins c.toTruck

/-- R180: an ends event clears the mark. -/
def State.endsEvent (s : State) (c : HandedClass) : State :=
  s.withPu { s.pu with conds := s.pu.conds.put c.toTruck false }

/-- GD, SC or PM finds one of its conditions changed from `was` to `now` and hands PU a begins or an ends event (R87, R151,
R167); only a route fault has a cause (R107). -/
def State.handCondition (s : State) (c : HandedClass) (was now : Bool) : State :=
  if now && !was then s.hand (.truckConditionBegins ⟨c, none⟩)
  else if was && !now then s.hand (.truckConditionEnds c)
  else s

/-- The same, with the ends event taken at once by PU: at the clears of CLEAR_FAULTS for the truck (R187). It is taken before
a begins event of the condition that still waits (log 48). -/
def State.takeCondition (s : State) (c : HandedClass) (was now : Bool) : State :=
  if now && !was then s.hand (.truckConditionBegins ⟨c, none⟩)
  else if was && !now then s.endsEvent c
  else s

/-! ### Stations (03) -/

def State.station (s : State) (n : Station) : StationCtx := s.sm.get n

def State.setStation (s : State) (n : Station) (x : StationCtx) : State := s.withSm (s.sm.set n x)

def State.puStation (s : State) (n : Station) : PuStation := s.pu.stations.get n

def State.setPuStation (s : State) (n : Station) (x : PuStation) : State :=
  s.withPu { s.pu with stations := s.pu.stations.set n x }

/-- R57: a GRANT frame is sent on the link: it is recorded as the last grant sent, its counter among the last two sent,
and the roll counter advances, from 15 to 0. -/
def StationCtx.send (x : StationCtx) (n : Station) (travel : Travel) (grant : Int) (enable : Bool) : StationCtx :=
  { x with
    frame := some { id := n.num, enable := enable, travel := travel, counter := x.roll, grant := grant }
    lastGrant := grant
    lastEnable := enable
    lastTwo := (x.lastTwo ++ [x.roll]).drop (x.lastTwo.length - 1)
    roll := (x.roll + 1) % 16 }

/-- R56, R62: a GRANT frame with grant 0 and DISABLE is sent at once, outside the pass; its travel is free (log 14). -/
def State.sendDisable (s : State) (n : Station) : State :=
  (s.setStation n ((s.station n).send n (Config.freeTravel s.free) 0 false)).withFree (s.free + 1)

/-- R172: SM hands PU a change of station state at the event that makes it. -/
def State.enter (s : State) (n : Station) (st : StationState) : State :=
  let t := s.setStation n { s.station n with state := st }
  t.setPuStation n { t.puStation n with copy := st }

/-- R179: PU's judging state of a station, as it is once PU has ceased to judge it. -/
def PuStation.unjudged (p : PuStation) : PuStation :=
  { p with
    conds := StationFlags.none, slipCount := 0, clearCount := 0, mtClaimed := none, itClaimed := none, slClaimed := false }

/-- R179: PU ceases to judge a station that has entered PARKED: its records are retired and its judging state cleared. -/
def State.ceaseJudging (s : State) (n : Station) : State :=
  let t := (((s.release (.oc n) none).release (.mt n) none).release (.it n) none).release (.sl n) none
  t.setPuStation n (t.puStation n).unjudged

/-- Protection settings in a payload: mask set, flag set, trim, slip scale (R68, R70, R71). -/
def settingsBytes (x : Settings) : List Byte := u16 x.mask.code ++ u16 x.flags.code ++ s8 x.trim ++ u8 x.slip

/-- The measured torque of the last report, or its absence, behind a mark byte (log 11). -/
def StationCtx.torqueBytes (x : StationCtx) : List Byte := optS16 (x.report.map Report.torque)

/-- R195: the in-flight PARK_STATION of this station is answered: the mark is cleared and the reply placed. -/
def State.answerPark (s : State) (n : Station) (a : Answer) : State :=
  if s.sl.inFlight = some (.park n) then
    (s.withSl { s.sl with inFlight := none }).reply (some .parkStation) a
  else s

/-- R62: a park completes, with its answer's class and detail. -/
def State.completePark (s : State) (n : Station) (cls : ReplyClass) (d : Option Detail) : State :=
  let x := s.station n
  let s1 := s.setStation n
    { x with
      parkTimer := none, parkOrigin := none, parkSlot := some x.settings, settings := Settings.default
      custody := .supervisor }
  let s2 := (s1.enter n .parked).ceaseJudging n
  (s2.sendDisable n).answerPark n ⟨cls, d, settingsBytes x.settings ++ x.torqueBytes⟩

/-- R56: a station trips: it enters TRIPPED and a DISABLE frame is sent at once. -/
def State.trip (s : State) (n : Station) : State := (s.enter n .tripped).sendDisable n

/-- R56: SM takes a raise claim. One that was sent as tripping trips, even where its class has been masked since (log 46). -/
def State.takeRaise (s : State) (n : Station) (c : StationClass) (trips : Bool) : State :=
  let x := s.station n
  if x.state = .parked then
    s.setStation n { x with parkSlot := x.parkSlot.map fun p => p.raise c }
  else
    let upgraded := !trips && x.state.tripsHere && x.settings.escalates c
    let t := s.setStation n { x with settings := x.settings.raise c }
    let u := if upgraded then t.notifyTrip n else t
    if trips || upgraded then
      match x.state with
      | .standby | .live | .restoring => u.trip n
      | .parking => u.completePark n .doneAlert (some .trippedDuringPark)
      | _ => u
    else u

/-- R56: SM takes a clear claim. -/
def State.takeClear (s : State) (n : Station) (f : StationFlags) : State :=
  let x := s.station n
  let y := { x with settings := { x.settings with flags := x.settings.flags.minus f } }
  let t := s.setStation n y
  if x.state = .tripped && !y.settings.tripping then t.enter n .standby else t

/-! ### TA's state as other blocks read it -/

/-- R28: TA is armed in any state other than DISARMED and ARMING. -/
def TaState.armed : TaState → Bool
  | .disarmed | .arming => false
  | _ => true

/-- Every CONFIGURE request is refused ARMED in any TA state other than DISARMED. -/
def notDisarmed (s : State) : Bool := s.ta.state != .disarmed

end Sys2Proof.Machine
end

