-- ==== Sys2Proof/Machine/Ceilings.lean ====
section
/-! DEFINITION. The Ceiling Table's commands (01): the six requests of 1.9, the table timer and the distance count, a
record's expiry, and the claims of the internal owners. -/

namespace Sys2Proof.Machine

/-- What every meaning answers with. -/
abbrev Out := Host.Outcome State Fault Refusal

/-- R6, R18: the supervisor's LIVE and FADING records. -/
def supervisorCount (t : List Slot) : Nat :=
  (t.filter fun x =>
    match x.entry.held with
    | some r => r.holder == .supervisor
    | none => false).length

/-- The maximum of a kind code (0 TORQUE, 1 SPEED). -/
def kindMaximum (kind : Nat) : Nat := if kind = 0 then 1000 else 700

/-- A ramp that is 0 or above its kind's maximum is refused (R18, R19). -/
def badRamp (most r : Nat) : Bool := r == 0 || decide (most < r)

/-! ### PLACE_CEILING (R18) -/

/-- The checks of R18's table, in its order. -/
def placeChecks (r : PlaceReq) (s : State) : List (Bool × Answer) :=
  [ (decide (1 < r.kind), refuseValue .kind),
    (r.kind == 1 && (r.scope.isSome || r.direction.isSome), refuseValue .speedFields),
    (r.kind == 0 && (r.scope.bind scopeOf).isNone, refuseValue .scope),
    (r.kind == 0 && (r.direction.bind directionOf).isNone, refuseValue .direction),
    (decide (kindMaximum r.kind < r.target), refuseValue .target),
    (r.ramp.any (badRamp (kindMaximum r.kind)), refuseValue .ramp),
    (r.expiry.any fun e => (expiryOf e).isNone, refuseValue .expiry),
    (decide (24 ≤ supervisorCount s.ct), refuseState .quota) ]

/-- The notify flag of a placement: 1 set, 0 clear; the manual states no other value, which is free (log 13). -/
def placeNotify (r : PlaceReq) (s : State) : Bool :=
  match r.notify with
  | 0 => false
  | 1 => true
  | _ => Config.freeNotify s.free

/-- The record placed (R7, R18). -/
def placedRecord (r : PlaceReq) (s : State) : CeilingRecord where
  holder := .supervisor
  limit :=
    if r.kind = 0 then .torque ((r.scope.bind scopeOf).getD (.fill false)) ((r.direction.bind directionOf).getD .both)
    else .speed
  target := r.target
  current := r.target
  ramp := r.ramp
  expiry := (r.expiry.bind expiryOf).map Expiry.start
  reason := r.reason
  notify := placeNotify r s

def placeBody (r : PlaceReq) (s : State) : State × Answer :=
  let p := placeRecord s.ct (placedRecord r s)
  let payload := match p.2 with
    | some h => handleBytes h
    | none => []
  checked s (placeChecks r s) ((s.withCt p.1).withFree (s.free + if 1 < r.notify then 1 else 0), done payload)

/-- R18: place a supervisor record. -/
def execPlaceCeiling (r : PlaceReq) (s : State) : Out := .next (request .placeCeiling (placeBody r) s)

/-! ### Handles (R4) -/

/-- R4: the record a handle reaches. -/
def handleEntry (t : List Slot) (slot gen : Nat) : SlotEntry :=
  let x := t.getD slot ⟨0, .free⟩
  if gen = 0 || x.gen != gen then .free else x.entry

/-- R4, and ownership: the checks that the requests naming a handle share. -/
def handleChecks (t : List Slot) (slot gen : Nat) : List (Bool × Answer) :=
  [ (decide (47 < slot), refuseValue .handle), ((handleEntry t slot gen).held.isNone, staleAnswer .noRecord) ]

/-- A record whose owner is not SUPERVISOR. -/
def notSupervisors (e : SlotEntry) : Bool := e.held.any fun r => r.holder != .supervisor

def SlotEntry.isFading : SlotEntry → Bool
  | .fading _ => true
  | _ => false

/-! ### AMEND_CEILING (R19) -/

/-- R19: a supplied kind, scope or direction that differs from the record's; a scope byte with any of bits 4 to 7 set always
does (log 24). -/
def differsFixed (a : AmendReq) (r : CeilingRecord) : Bool :=
  (a.kind.any fun k => k != r.limit.kindCode) || (a.scope.any fun n => r.limit.scopeCode != some n)
    || (a.direction.any fun d => r.limit.directionCode != some d)

/-- A replacement value that fails a check. -/
def replacedBad {α : Type} (c : Choice α) (bad : α → Bool) : Bool :=
  match c with
  | .replace v => bad v
  | _ => false

def amendChecks (a : AmendReq) (s : State) : List (Bool × Answer) :=
  let e := handleEntry s.ct a.slot a.gen
  handleChecks s.ct a.slot a.gen ++
  [ (notSupervisors e, refuseState .notOwner),
    (e.isFading, refuseState .fading),
    (e.held.any (differsFixed a), refuseValue .fixedField),
    (e.held.any fun r => a.target.any fun t => decide (r.limit.maximum < t), refuseValue .target),
    (e.held.any fun r => replacedBad a.ramp (badRamp r.limit.maximum), refuseValue .ramp),
    (replacedBad a.expiry fun x => (expiryOf x).isNone, refuseValue .expiry) ]

/-- R19: ramp and notify flag, then the expiry with its counter reloaded, then the target by R8. -/
def CeilingRecord.amended (r : CeilingRecord) (a : AmendReq) : CeilingRecord :=
  let ramp := match a.ramp with
    | .leave => r.ramp
    | .replace v => some v
    | .remove => none
  let expiry := match a.expiry with
    | .leave => r.expiry.map fun e => { e with counter := e.full }
    | .replace v => (expiryOf v).map Expiry.start
    | .remove => none
  CeilingRecord.setTarget { r with ramp := ramp, notify := a.notify.getD r.notify, expiry := expiry }
    (a.target.getD r.target)

def amendBody (a : AmendReq) (s : State) : State × Answer :=
  checked s (amendChecks a s)
    (match (handleEntry s.ct a.slot a.gen).held with
    | some r =>
      let q := r.amended a
      (s.withCt (s.ct.set a.slot ⟨a.gen, .live q⟩),
        done (u16 q.target ++ u16 q.current ++ optU16 (q.expiry.map Countdown.counter)))
    | none => (s, done []))

/-- R19: change a supervisor record's ramp, notify flag, expiry and target. -/
def execAmendCeiling (a : AmendReq) (s : State) : Out := .next (request .amendCeiling (amendBody a) s)

/-! ### RETIRE_CEILING (R20) -/

/-- R20's checks; the reply to a record already FADING carries no payload (log 11). -/
def retireChecks (slot gen : Nat) (s : State) : List (Bool × Answer) :=
  let e := handleEntry s.ct slot gen
  handleChecks s.ct slot gen ++
  [ (notSupervisors e, refuseState .notOwner), (e.isFading, doneAlert .alreadyFading []) ]

def retireBody (slot gen : Nat) (s : State) : State × Answer :=
  checked s (retireChecks slot gen s)
    (match (handleEntry s.ct slot gen).held with
    | some r => (s.withCt (s.ct.set slot ⟨gen, r.retired⟩), done (namedByte r.retired.isFading))
    | none => (s, done []))

/-- R20: retire a supervisor record. -/
def execRetireCeiling (slot gen : Nat) (s : State) : Out := .next (request .retireCeiling (retireBody slot gen) s)

/-! ### QUERY_CEILING, LIST_CEILINGS, READ_EFFECTIVE (R21 to R23) -/

/-- The nine effective ceilings of R23, direction by direction: PROPEL of S0 to S3, RETARD of S0 to S3, speed (log 11). -/
def effectiveNine (t : List Slot) : List Ceiling :=
  (Station.all.map fun n => torqueCeiling t n false) ++ (Station.all.map fun n => torqueCeiling t n true) ++ [speedCeiling t]

/-- The ceilings a handle binds, as a set of nine bits in the order of `effectiveNine` (R21; log 11). -/
def boundSet (t : List Slot) (h : Handle) : Nat :=
  ((effectiveNine t).zipIdx.map fun p => bitValue (p.1.binding == some h) p.2).sum

def Holder.keyCode : Holder → Option Nat
  | .supervisor => none
  | .internal k => some (Machine.keyCode k)

/-- An expiry's kind and full value, or their absence. -/
def expiryBytes (e : Option Countdown) : List Byte :=
  orAbsent (fun c => u8 c.kind.code ++ u16 c.full) ⟨.time, 0, 0⟩ e

/-- The payload of QUERY_CEILING (R21). -/
def queryPayload (t : List Slot) (h : Handle) (e : SlotEntry) (r : CeilingRecord) : List Byte :=
  namedByte (!e.isFading) ++ handleBytes h ++ u8 r.holder.owner.code ++ optU8 r.holder.keyCode ++ u8 r.limit.kindCode
    ++ optU8 r.limit.scopeCode ++ optU8 r.limit.directionCode ++ u16 r.target ++ u16 r.current ++ optU16 r.ramp
    ++ expiryBytes r.expiry ++ optU16 (r.expiry.map Countdown.counter) ++ u8 r.reason ++ flagByte r.notify
    ++ u16 (boundSet t h)

def queryBody (slot gen : Nat) (s : State) : State × Answer :=
  let e := handleEntry s.ct slot gen
  checked s (handleChecks s.ct slot gen)
    (s, done (match e.held with
      | some r => queryPayload s.ct ⟨slot, gen⟩ e r
      | none => []))

/-- R21: read one record of any owner. -/
def execQueryCeiling (slot gen : Nat) (s : State) : Out := .next (request .queryCeiling (queryBody slot gen) s)

/-- A record summary (R204). -/
def summaryBytes (i : Nat) (x : Slot) (r : CeilingRecord) : List Byte :=
  u8 (i + bitValue x.entry.isFading 6) ++ u8 x.gen ++ u8 (32 * r.holder.owner.code + r.holder.keyCode.getD 0)
    ++ u8 (128 * r.limit.kindCode + 16 * r.limit.directionCode.getD 0 + r.limit.scopeCode.getD 0)
    ++ u16 r.target ++ u16 r.current ++ u8 r.reason

/-- The matching records from a slot on, with their slots (R22). -/
def listed (t : List Slot) (filter start : Nat) : List (Nat × Slot × CeilingRecord) :=
  t.zipIdx.filterMap fun p =>
    match p.1.entry.held with
    | some r => if start ≤ p.2 && filterMatches filter r.holder.owner then some (p.2, p.1, r) else none
    | none => none

def listAnswer (l : List (Nat × Slot × CeilingRecord)) : Answer :=
  let sums := (l.take 12).flatMap fun p => summaryBytes p.1 p.2.1 p.2.2
  match l.drop 12 with
  | [] => done (u8 l.length ++ u8 255 ++ sums)
  | _ :: _ => ⟨.partly, some .more, u8 12 ++ u8 ((l.getD 11 (0, ⟨0, .free⟩, claimedRecord .safe 0 none none)).1 + 1) ++ sums⟩

def listBody (filter start : Nat) (s : State) : State × Answer :=
  checked s [(decide (5 < filter), refuseValue .filter), (decide (47 < start), refuseValue .start)]
    (s, listAnswer (listed s.ct filter start))

/-- R22: list records by owner from a slot on. -/
def execListCeilings (filter start : Nat) (s : State) : Out := .next (request .listCeilings (listBody filter start) s)

/-- The payload of READ_EFFECTIVE (R23): each ceiling with its binding handle or its absence. -/
def effectivePayload (s : State) : List Byte :=
  (effectiveNine s.ct).flatMap fun c => u16 c.value ++ optHandle c.binding

/-- R23: read the nine effective ceilings. -/
def execReadEffective (s : State) : Out := .next (request .readEffective (reading effectivePayload) s)

/-! ### Events -/

/-- R10: a metre event, forward or reverse, counts down the DISTANCE counters of LIVE records. -/
def execDistanceExpiryCount (_dir : Travel) (s : State) : Out := .next (s.countDownAll .distance)

/-- R9: the ramp step, then the TIME countdown, at one expiry of the table timer. -/
def execTableTimer (s : State) : Out := .next ((s.withCt (s.ct.map Slot.rampStep)).countDownAll .time)

/-- R12: the expiry counter of the slot's record stands at 0, so the record is retired and, with notify set, its handle
is handed to SL (log 8). -/
def execRecordExpiry (slot : Nat) (s : State) : Out :=
  .next (if (s.ct.getD slot ⟨0, .free⟩).entry.expired then s.expireSlot slot else s)

/-- R14: an internal owner's set claim. -/
def execSetClaim (k : Key) (v : Int) (ramp : Option Nat) (expiry : Option Expiry) (s : State) : Out :=
  .next (s.claim k v ramp expiry)

/-- R15: an internal owner's retire claim. -/
def execRetireClaim (k : Key) (ramp : Option Nat) (s : State) : Out := .next (s.release k ramp)

end Sys2Proof.Machine
end

