-- ==== Sys2Proof/Machine/Grid.lean ====
section
/-! DEFINITION. The Grid Dispatcher's commands (04): configuration, lead order, power arrivals, the grid timer, and the
ends of self-checks, with the operations that ARM and CLEAR_FAULTS bring about at GD (R78, R89) and the completion of
ARM (R31). -/

namespace Sys2Proof.Machine

/-! ### Banks -/

def State.bank (s : State) (k : Bank) : BankRec := s.gd.banks.get k

def State.setBank (s : State) (k : Bank) (b : BankRec) : State :=
  s.withGd { s.gd with banks := s.gd.banks.set k b }

/-- The bank states that take a share at dispatch (R77). -/
def BankState.serves : BankState → Bool
  | .ready | .dissipating => true
  | .offline | .checking | .failed => false

/-- R85: the available power that a heat leaves, held to the rated power (R74). -/
def availPower (rated cap heat : Nat) (st : BankState) : Nat :=
  if st.serves then
    if heat < percent 80 cap then rated else min rated (rated * (cap - heat) * 5 / cap)
  else 0

/-- The figures GD publishes (R85), from the banks and the GRID values. -/
def Gd.figures (g : Gd) : Published :=
  let counted (k : Bank) (n : Nat) : Nat := if (g.banks.get k).state = .failed then 0 else n
  let cooling (k : Bank) : Nat :=
    let full := g.cfg.cooling.get k * g.cfg.altitude / 100
    if (g.banks.get k).blowerMark then percent 20 full else full
  { avail := .of fun k => (g.banks.get k).avail
    heat := .of fun k => (g.banks.get k).heat
    state := .of fun k => (g.banks.get k).state
    capacity := counted .a (g.cfg.capacity.get .a) + counted .b (g.cfg.capacity.get .b)
    total := counted .a (g.banks.get .a).heat + counted .b (g.banks.get .b).heat
    cooling := counted .a (cooling .a) + counted .b (cooling .b) }

/-- R85: publish. -/
def State.publishGrid (s : State) : State := s.withGd { s.gd with published := s.gd.figures }

/-! ### The lead (R81) -/

/-- The lead that an order calls for. -/
def settledLead (order : LeadOrder) (lead : Option Bank) (failed : Bank → Bool) : Option Bank :=
  let firstOf (k : Bank) : Option Bank := if !failed k then some k else if !failed k.other then some k.other else none
  match order with
  | .fixedA => firstOf .a
  | .fixedB => firstOf .b
  | .alternate => firstOf (lead.getD .a)

/-- A bank that takes or loses the lead has lead energy 0 with remainder 0. -/
def BankRec.noLead (b : BankRec) : BankRec := { b with leadEnergy := 0, leadRem := 0 }

/-- R81: GD settles the lead. -/
def Gd.settle (g : Gd) : Gd :=
  let lead := settledLead g.order g.lead fun k => (g.banks.get k).state == .failed
  if lead = g.lead then g
  else { g with lead := lead, banks := .of fun k => (g.banks.get k).noLead }

/-! ### Conditions and the GRID record (R86, R87) -/

/-- A bank is FAILED, or CHECKING with its recheck mark set. -/
def BankRec.unproven (b : BankRec) : Bool := b.state == .failed || (b.state == .checking && b.recheck)

/-- The heat of some bank is at `p` percent of its capacity or more. -/
def Gd.hot (g : Gd) (p : Nat) : Bool :=
  decide (percent p (g.cfg.capacity.get .a) ≤ (g.banks.get .a).heat)
    || decide (percent p (g.cfg.capacity.get .b) ≤ (g.banks.get .b).heat)

/-- R86: the grid condition. -/
def Gd.condition (g : Gd) : Bool := g.hot 80 || g.banks.a.unproven || g.banks.b.unproven

/-- R86: the value of the GRID record, held to the range of the GRID value (R1, R74): an available power stands until the
grid timer even where CONFIGURE_GRID has lowered the rated power (R76). -/
def Gd.recordValue (g : Gd) : Nat :=
  min 1000 (1000 * (g.banks.a.avail + g.banks.b.avail) / (g.cfg.rated.a + g.cfg.rated.b))

/-- R86: evaluate the GRID record. -/
def State.evalGrid (s : State) : State :=
  let v := s.gd.recordValue
  if s.gd.condition then
    if s.gd.gridValue.all fun w => decide (10 ≤ gap v w) then
      (s.withGd { s.gd with gridValue := some v }).claim .grid v (some 10) none
    else s
  else if s.gd.gridValue.isSome then (s.withGd { s.gd with gridValue := none }).release .grid none
  else s

/-- R87: the grid fault condition. -/
def Gd.faulty (g : Gd) : Bool :=
  g.banks.a.unproven || g.banks.b.unproven || g.banks.a.blowerMark || g.banks.b.blowerMark

/-- R87: test GF; `atOnce` when PU takes the ends event within the same request (R187). -/
def State.testGf (s : State) (atOnce : Bool) : State :=
  let now := s.gd.faulty
  let t := s.withGd { s.gd with gf := now }
  if atOnce then t.takeCondition .gf s.gd.gf now else t.handCondition .gf s.gd.gf now

/-- R87: test GT. -/
def State.testGt (s : State) : State :=
  let now := s.gd.hot 95
  (s.withGd { s.gd with gt := now }).handCondition .gt s.gd.gt now

/-! ### Self-checks (R78, R79, R89) -/

/-- R78: the bank at the start of a check; the share of the last dispatch stands until the next one (log 41). -/
def BankRec.startCheck (b : BankRec) : BankRec :=
  { b with
    state := .checking, chopper := 200, avail := 0, openCount := 0, checkTimer := some 200, recheck := b.state == .failed }

/-- R78: start a check on a bank; a bank that leaves FAILED settles the lead, and the GRID value is evaluated. -/
def State.startCheck (s : State) (k : Bank) : State :=
  let t := s.setBank k (s.bank k).startCheck
  (t.withGd t.gd.settle).evalGrid.publishGrid

/-- R89: the grid clear, which starts the checks of two FAILED banks A before B (log 21); whether it started a check stands
beside the state. A re-check that an earlier clear started, and that still runs, keeps GF (log 50). -/
def State.gridClear (s : State) : State × Bool :=
  let cleared (b : BankRec) : BankRec := { b with blowerMark := false, blowerCount := 0 }
  let t := s.withGd { s.gd with banks := .of fun k => cleared (s.gd.banks.get k) }
  let fa := (t.bank .a).state == .failed
  let fb := (t.bank .b).state == .failed
  let u := if fa then t.startCheck .a else t
  let v := if fb then u.startCheck .b else u
  (v.testGf true, fa || fb)

/-- R31: whether a bank is CHECKING. -/
def State.checkingAny (s : State) : Bool := (s.bank .a).state == .checking || (s.bank .b).state == .checking

/-- R31: the ARM in flight is answered. -/
def State.answerArm (s : State) (ta : TaState) (a : Answer) : State :=
  ((s.withTa { s.ta with state := ta }).withSl { s.sl with inFlight := none }).reply (some .arm) a

/-- The payload of a completed ARM: the state of each bank. -/
def State.armPayload (s : State) : List Byte := u8 (s.bank .a).state.code ++ u8 (s.bank .b).state.code

/-- R31, R32: a check completion at TA. The answer NO_GRID gives the state of each bank as the others do (log 11). -/
def State.checkCompletion (s : State) : State :=
  if s.sl.inFlight = some .arm && !s.checkingAny then
    let armed := if s.ta.selector = .neutral then TaState.neutral else .coast
    match (s.bank .a).state, (s.bank .b).state with
    | .failed, .failed => s.answerArm .disarmed ⟨.abandoned, some .noGrid, s.armPayload⟩
    | a, b =>
      let answer := if a = .failed || b = .failed then doneAlert .bankFailed s.armPayload else done s.armPayload
      (s.hand .armingEvent).answerArm armed answer
  else s

/-- R79: the bank at the end of its check. -/
def BankRec.endCheck (b : BankRec) (rated cap : Nat) (st : BankState) : BankRec :=
  { b with state := st, chopper := 0, checkTimer := none, recheck := false, avail := availPower rated cap b.heat st }

/-- R79: a check ends with the bank in state `st`. -/
def State.endCheck (s : State) (k : Bank) (st : BankState) : State :=
  let t := s.setBank k ((s.bank k).endCheck (s.gd.cfg.rated.get k) (s.gd.cfg.capacity.get k) st)
  (((t.withGd t.gd.settle).evalGrid.testGf false).publishGrid).checkCompletion

/-- R79: the bank's current input reaches 20 ‰; only a bank in CHECKING does anything with it. -/
def execBankCurrentSeen (k : Bank) (s : State) : Out :=
  .next (if (s.bank k).state = .checking then s.endCheck k .ready else s)

/-- R79: the bank's check timer expires; only a bank in CHECKING does anything with it. -/
def execCheckTimerExpiry (k : Bank) (s : State) : Out :=
  .next (if (s.bank k).state = .checking then s.endCheck k .failed else s)

/-! ### Dispatch (R80, R81, R88) -/

/-- R80: what a bank takes of a power. -/
def BankRec.takes (b : BankRec) (p : Nat) : Nat := if b.state.serves then min p b.avail else 0

/-- R80: the shares of A and B; 0 where there is no lead bank. -/
def Gd.shares (g : Gd) (p : Nat) : PerBank Nat :=
  match g.lead with
  | none => .fill 0
  | some l =>
    let first := (g.banks.get l).takes p
    let second := (g.banks.get l.other).takes (p - first)
    .of fun k => if k = l then first else second

/-- R80: a bank takes its share. The share is bounded by the available power alone, and passes a rated power that
CONFIGURE_GRID has just lowered until the grid timer computes the available power anew; the chopper is held at 1000
(log 40). -/
def BankRec.assign (b : BankRec) (rated share : Nat) : BankRec :=
  if b.state.serves then
    { b with
      state := if 0 < share then .dissipating else .ready
      share := share, chopper := min 1000 (share * 1000 / rated), accum := b.accum + share }
  else { b with share := 0 }

/-- R81: the lead's share goes into its lead energy, held at 1000. -/
def BankRec.addLead (b : BankRec) (share : Nat) : BankRec :=
  { b with leadEnergy := min 1000 (b.leadEnergy + (b.leadRem + share) / 100), leadRem := (b.leadRem + share) % 100 }

/-- R81: the lead energy at a dispatch, and the lead passed under ALTERNATE. -/
def Gd.countLead (g : Gd) : Gd :=
  match g.lead with
  | none => g
  | some l =>
    let b := (g.banks.get l).addLead (g.banks.get l).share
    if g.order = .alternate && decide (1000 ≤ b.leadEnergy) then
      if (g.banks.get l.other).state = .failed then { g with banks := g.banks.set l b.noLead }
      else { g with lead := some l.other, banks := .of fun k => (g.banks.get k).noLead }
    else { g with banks := g.banks.set l b }

/-- R80: dispatch a power between the banks. -/
def Gd.dispatch (g : Gd) (p : Nat) : Gd :=
  let sh := g.shares p
  let banks := PerBank.of fun k => (g.banks.get k).assign (g.cfg.rated.get k) (sh.get k)
  Gd.countLead { g with banks := banks, unabsorbed := p - sh.a - sh.b }

/-- R88: the DC-link reading is counted, and the DV record claimed or retired. -/
def State.countOverVoltage (s : State) (volts : Nat) : State :=
  let g := { s.gd with dcLink := volts }
  if g.cfg.dcMax < volts then
    match g.ovCount with
    | 0 => s.withGd { g with ovCount := 1 }
    | 1 =>
      ((s.withGd { g with ovCount := 2, dvValue := some 900 }).claim .dv 900 (some 10) none).hand
        (.truckConditionBegins ⟨.dv, none⟩)
    | _ =>
      let v := max 200 (g.dvValue.getD 900 - 100)
      (s.withGd { g with dvValue := some v }).claim .dv v (some 10) none
  else if g.ovCount = 2 then
    ((s.withGd { g with ovCount := 0, dvValue := none }).release .dv none).hand (.truckConditionEnds .dv)
  else s.withGd { g with ovCount := 0 }

/-- Some bank has entered READY. -/
def Gd.enteredReady (before after : Gd) : Bool :=
  [Bank.a, .b].any fun k => (before.banks.get k).state != .ready && (after.banks.get k).state == .ready

/-- R80, R85: a dispatch, with the figures published when it takes a bank from DISSIPATING into READY. -/
def State.dispatchPower (s : State) (p : Nat) : State :=
  let t := s.withGd (s.gd.dispatch p)
  if s.gd.enteredReady t.gd then t.publishGrid else t

/-- R80: a power arrival; both readings are held to their ranges (R74; log 6). -/
def execPowerArrival (p volts : Nat) (s : State) : Out :=
  .next ((s.dispatchPower (min 12000 p)).countOverVoltage (min 4000 volts))

/-! ### The grid timer (R82 to R87) -/

/-- R82: the heat step, on the blower failure mark as it stands at the expiry (log 51). -/
def BankRec.heatStep (b : BankRec) (cap cooling altitude : Nat) : BankRec :=
  let fraction := if b.blower && !b.blowerMark then 100 else 20
  { b with
    heat := min cap (b.heat + b.accum / 100 - cooling * fraction * altitude / 100000)
    accum := b.accum % 100 }

/-- R83: the blower step. -/
def BankRec.blowerStep (b : BankRec) (cap speed : Nat) : BankRec :=
  let on := decide (percent 20 cap < b.heat) || b.state == .dissipating
  let count := if on && decide (speed < 50) then min 20 (b.blowerCount + 1) else 0
  { b with blower := on, blowerSpeed := speed, blowerCount := count, blowerMark := b.blowerMark || count == 20 }

/-- R84: the open-grid step. A bank that fails has share 0 from that event on, as the table of section 4.10 shows it
(log 41). -/
def BankRec.openStep (b : BankRec) (current : Nat) : BankRec :=
  if b.state.serves then
    if decide (100 < b.chopper) && decide (current < b.chopper / 10) then
      if 3 ≤ b.openCount + 1 then { b with state := .failed, share := 0, chopper := 0, avail := 0, openCount := 0 }
      else { b with openCount := b.openCount + 1 }
    else { b with openCount := 0 }
  else { b with openCount := 0 }

/-- R85: the available power step. -/
def BankRec.availStep (b : BankRec) (rated cap : Nat) : BankRec := { b with avail := availPower rated cap b.heat b.state }

/-- R82: the four steps of one bank. -/
def BankRec.timerSteps (b : BankRec) (cfg : GridCfg) (k : Bank) (x : GridPorts) : BankRec :=
  let cap := cfg.capacity.get k
  (((b.heatStep cap (cfg.cooling.get k) cfg.altitude).blowerStep cap (min 100 x.blowerSpeed)).openStep x.current).availStep
    (cfg.rated.get k) cap

/-- R82 to R84: one bank's steps at the grid timer, with the lead settled when it failed and GF tested. -/
def State.bankTimer (s : State) (k : Bank) (x : GridPorts) : State :=
  let t := s.setBank k ((s.bank k).timerSteps s.gd.cfg k x)
  (t.withGd t.gd.settle).testGf false

/-- R82: the grid timer. -/
def execGridTimer (x : PerBank GridPorts) (s : State) : Out :=
  .next (((s.bankTimer .a x.a).bankTimer .b x.b).publishGrid.evalGrid.testGt)

/-! ### Requests -/

/-- R76's table. -/
def configureGridChecks (r : GridReq) (s : State) : List (Bool × Answer) :=
  let outside (lo hi x : Nat) : Bool := decide (x < lo) || decide (hi < x)
  [ (notDisarmed s, refuseState .armed),
    (outside 1000 6000 r.ratedA || outside 1000 6000 r.ratedB, refuseValue .rated),
    (outside 10000 120000 r.capA || outside 10000 120000 r.capB, refuseValue .capacity),
    (outside 100 1500 r.coolA || outside 100 1500 r.coolB, refuseValue .cooling),
    (outside 50 100 r.altitude, refuseValue .altitude),
    (outside 1200 3000 r.dcMax, refuseValue .dcMax) ]

/-- The GRID values a request gives. -/
def gridValues (r : GridReq) : GridCfg where
  rated := ⟨r.ratedA, r.ratedB⟩
  capacity := ⟨r.capA, r.capB⟩
  cooling := ⟨r.coolA, r.coolB⟩
  altitude := r.altitude
  dcMax := r.dcMax

/-- The GRID values in a payload, value by value, A before B (log 12). -/
def GridCfg.bytes (c : GridCfg) : List Byte :=
  u16 c.rated.a ++ u16 c.rated.b ++ u24 c.capacity.a ++ u24 c.capacity.b ++ u16 c.cooling.a ++ u16 c.cooling.b
    ++ u8 c.altitude ++ u16 c.dcMax

/-- R76: the values and the mark, and each heat held to its new capacity. -/
def Gd.configure (g : Gd) (c : GridCfg) : Gd :=
  { g with
    cfg := c, configured := true
    banks := .of fun k => { g.banks.get k with heat := min (g.banks.get k).heat (c.capacity.get k) } }

def configureGridBody (r : GridReq) (s : State) : State × Answer :=
  checked s (configureGridChecks r s) (s.withGd (s.gd.configure (gridValues r)), done (gridValues r).bytes)

/-- R76: set the bank ratings and the DC-link maximum. -/
def execConfigureGrid (r : GridReq) (s : State) : Out := .next (request .configureGrid (configureGridBody r) s)

/-- The fixed bank an order names. -/
def LeadOrder.named : LeadOrder → Option Bank
  | .fixedA => some .a
  | .fixedB => some .b
  | .alternate => none

def optBank : Option Bank → List Byte := optU8 ∘ Option.map bankCode

def bankOrderBody (code : Nat) (s : State) : State × Answer :=
  match orderOf code with
  | none => (s, refuseValue .order)
  | some o =>
    let t := s.withGd (Gd.settle { s.gd with order := o })
    let payload := u8 o.code ++ optBank t.gd.lead
    (t, if o.named.any fun k => (t.bank k).state == .failed then doneAlert .leadFailed payload else done payload)

/-- R90: choose how the lead bank is chosen. -/
def execSetBankOrder (code : Nat) (s : State) : Out := .next (request .setBankOrder (bankOrderBody code) s)

/-- One bank in the payload of READ_GRID. -/
def BankRec.bytes (b : BankRec) : List Byte :=
  u8 b.state.code ++ u24 b.heat ++ u16 b.avail ++ u16 b.share ++ u16 b.chopper ++ namedByte b.blower ++ u8 b.blowerSpeed
    ++ u8 b.blowerCount ++ flagByte b.blowerMark ++ u8 b.openCount ++ flagByte b.recheck ++ optU8 b.checkTimer
    ++ u16 b.leadEnergy

/-- The payload of READ_GRID, in the order of R91, which lists neither the GT nor the GF mark (log 11). -/
def gridPayload (s : State) : List Byte :=
  let g := s.gd
  g.banks.a.bytes ++ g.banks.b.bytes ++ u8 g.order.code ++ optBank g.lead ++ u16 g.unabsorbed ++ u16 g.dcLink ++ u8 g.ovCount
    ++ optU16 g.dvValue ++ optU16 g.gridValue ++ u24 g.published.capacity ++ u24 g.published.total
    ++ u16 g.published.cooling ++ g.cfg.bytes ++ flagByte g.configured

/-- R91: read both banks and the DC link. -/
def execReadGrid (s : State) : Out := .next (request .readGrid (reading gridPayload) s)

end Sys2Proof.Machine
end

