-- ==== Sys2Proof/Machine/Stations.lean ====
section
/-! DEFINITION. The Station Manager's commands (03): grants handed over, reports and deadlines, arming and disarming,
parks and restores, and PU's raise and clear claims. -/

namespace Sys2Proof

/-- What SM hands PU of a report (R59). -/
def Report.judged (r : Report) : Judged := ⟨r.motor, r.inverter, r.peakOc, r.invFault⟩

end Sys2Proof

namespace Sys2Proof.Machine

/-! ### GRANT frames (R57, R61) -/

/-- R61: the grant of a RESTORING station has caught up with its clamped target. -/
def caughtUp (grant target : Int) : Bool :=
  grant == target || (grant.sign == target.sign && decide (mag target ≤ mag grant))

/-- R57: conditions 2 to 4 for ENABLE. -/
def StationCtx.sendsEnable (x : StationCtx) : Bool :=
  (x.state == .live || x.state == .restoring || (x.state == .parking && x.parkOrigin != some .tripped))
    && x.custody == .part && x.link == .alive

/-- R61: a RESTORING station that has caught up enters LIVE. -/
def State.catchUp (s : State) (n : Station) (h : GrantHand) : State :=
  if (s.station n).state = .restoring && h.clamped.any (caughtUp h.grant) then s.enter n .live else s

/-- R57, R61: SM takes what TA hands over for one station, and sends its GRANT frame. -/
def State.handover (s : State) (n : Station) (h : GrantHand) (travel : Travel) : State :=
  let t := s.catchUp n h
  let on := h.enable && (t.station n).sendsEnable
  t.setStation n ((t.station n).send n travel (if on then h.grant else 0) on)

/-- R57: SM takes the grants of a pass. -/
def execGrantHandover (hands : PerStation GrantHand) (travel : Travel) (s : State) : Out :=
  .next (Station.all.foldl (fun t n => t.handover n (hands.get n) travel) s)

/-! ### Arming and disarming (R55) -/

/-- R55: a STANDBY station without a tripping flag enters LIVE. -/
def State.armStation (s : State) (n : Station) : State :=
  if (s.station n).state = .standby && !(s.station n).settings.tripping then s.enter n .live else s

/-- R55: the arming event; it acts while TA is armed (log 18). -/
def execArmingEvent (s : State) : Out := .next (if s.ta.state.armed then Station.all.foldl State.armStation s else s)

/-- R55: a LIVE or RESTORING station enters STANDBY; the grant last sent to it stands until its next GRANT frame (log 49). -/
def State.standDown (s : State) (n : Station) : State :=
  if (s.station n).state = .live || (s.station n).state = .restoring then s.enter n .standby else s

/-- R55: disarming, taken within the DISARM that brings it about (log 2). -/
def State.disarmStations (s : State) : State := Station.all.foldl State.standDown s

/-! ### Reports and deadlines (R58 to R60, R64, R65) -/

/-- R59: a report handed to PU with the state SM holds. -/
def State.handReport (s : State) (n : Station) (r : Report) : State :=
  s.hand (.reportJudgement n (s.station n).state r.judged)

/-- R59, R64: a valid report. -/
def State.takeReport (s : State) (n : Station) (r : Report) : State :=
  let t := s.setStation n { s.station n with report := some r, link := .alive, deadline := some 50 }
  match (s.station n).state with
  | .absent => if r.ready then (t.enter n .standby).handReport n r else t
  | .parked => t
  | .parking =>
    let u := t.handReport n r
    if mag r.torque ≤ 20 then u.completePark n .done none else u
  | .standby | .live | .restoring | .tripped => t.handReport n r

/-- R58, R59: a REPORT frame on a link; an invalid one is discarded. -/
def execReportFrame (n : Station) (bytes : List Byte) (s : State) : Out :=
  .next
    (match parseReport bytes with
    | some f => if f.id = n.num && (s.station n).lastTwo.contains f.echo then s.takeReport n f.report else s
    | none => s)

/-- R60: a report deadline expires; a stopped one does not (log 5). -/
def execReportDeadlineExpiry (n : Station) (s : State) : Out :=
  .next
    (if (s.station n).deadline.isSome then
      let t := s.setStation n { s.station n with link := .lost, deadline := none }
      match (s.station n).state with
      | .absent | .parked => t
      | st => t.hand (.linkLostEvent n st)
    else s)

/-- R65: the park timer expires with the station still PARKING; a stopped one does not (log 5). -/
def execParkTimerExpiry (n : Station) (s : State) : Out :=
  .next
    (if (s.station n).state = .parking && (s.station n).parkTimer.isSome then
      s.completePark n .doneAlert (some .forced)
    else s)

/-! ### PU's claims (R56) -/

/-- R56: SM takes a raise claim. -/
def execRaiseClaim (n : Station) (c : StationClass) (trips : Bool) (s : State) : Out := .next (s.takeRaise n c trips)

/-- R56: SM takes a clear claim. -/
def execClearClaim (n : Station) (f : StationFlags) (s : State) : Out := .next (s.takeClear n f)

/-! ### PARK_STATION (R63) and its CANCEL (R67) -/

/-- The state of the station a station byte names. -/
def stateOf (n : Nat) (s : State) : Option StationState := (stationOf n).map fun k => (s.station k).state

/-- R63's checks. -/
def parkChecks (n : Nat) (s : State) : List (Bool × Answer) :=
  [ ((stationOf n).isNone, refuseValue .station),
    (stateOf n s == some .absent, refuseState .absent),
    (stateOf n s == some .parked, refuseState .alreadyParked) ]

/-- The park origin a state gives. -/
def StationState.asOrigin : StationState → Option ParkOrigin
  | .standby => some .standby
  | .live => some .live
  | .restoring => some .restoring
  | .tripped => some .tripped
  | .absent | .parking | .parked => none

/-- R63: the park begins. -/
def State.beginPark (s : State) (n : Station) : State :=
  let x := s.station n
  (s.setStation n { x with parkOrigin := StationState.asOrigin x.state, parkTimer := some 3000 }).enter n .parking

/-- R63: take a station out of the part's custody; the park is answered when it ends. -/
def execParkStation (n : Nat) (s : State) : Out :=
  .next
    (match stationOf n with
    | some k => longRequest .parkStation (.park k) (parkChecks n) (fun t => t.beginPark k) s
    | none => request .parkStation (fun t => (t, refuseValue .station)) s)

/-- R67: the state a cancelled park leaves. -/
def State.cancelledState (s : State) (n : Station) : StationState :=
  let x := s.station n
  if x.settings.tripping then .tripped
  else if (x.parkOrigin == some .live || x.parkOrigin == some .restoring) && s.ta.state.armed then .live
  else .standby

/-- R67: CANCEL ends the park in flight. -/
def State.cancelPark (s : State) (n : Station) : State :=
  let t := s.setStation n { s.station n with parkTimer := none, parkOrigin := none }
  (t.enter n (s.cancelledState n)).answerPark n ⟨.abandoned, some .cancelled, []⟩

/-! ### RESTORE_STATION and REARM_STATION (R68, R69) -/

/-- Whether the link of the station a station byte names is LOST. -/
def linkLost (n : Nat) (s : State) : Bool := (stationOf n).any fun k => (s.station k).link == .lost

/-- R68's checks. -/
def restoreChecks (n : Nat) (s : State) : List (Bool × Answer) :=
  [ ((stationOf n).isNone, refuseValue .station),
    (stateOf n s != some .parked, refuseState .notParked),
    (linkLost n s, refuseState .linkLost) ]

/-- R68: the state a restored station enters. -/
def restoredState (x : Settings) (armed : Bool) : StationState :=
  if x.tripping then .tripped else if armed then .restoring else .standby

/-- R68: the restore. -/
def State.restore (s : State) (n : Station) : State :=
  let x := s.station n
  let settings := x.parkSlot.getD Settings.default
  (s.setStation n { x with settings := settings, parkSlot := none, custody := .part }).enter n
    (restoredState settings s.ta.state.armed)

def restoreBody (n : Nat) (s : State) : State × Answer :=
  checked s (restoreChecks n s)
    (match stationOf n with
    | some k =>
      let t := s.restore k
      let payload := u8 (stationStateCode (t.station k).state) ++ settingsBytes (t.station k).settings
      (t, if (t.station k).state = .tripped then doneAlert .restoredTripped payload else done payload)
    | none => (s, done []))

/-- R68: return a parked station to the part's custody. -/
def execRestoreStation (n : Nat) (s : State) : Out := .next (request .restoreStation (restoreBody n) s)

/-- The set flags of the station a station byte names, when one of them trips it. -/
def trippingFlags (n : Nat) (s : State) : Option StationFlags :=
  (stationOf n).bind fun k => if (s.station k).settings.tripping then some (s.station k).settings.flags else none

/-- R69's checks. -/
def rearmChecks (n : Nat) (s : State) : List (Bool × Answer) :=
  let flags := trippingFlags n s
  [ ((stationOf n).isNone, refuseValue .station),
    (stateOf n s != some .standby, refuseState .notStandby),
    (!s.ta.state.armed, refuseState .notArmed),
    (linkLost n s, refuseState .linkLost),
    (flags.isSome, ⟨.refusedState, some .flagsSet, u16 ((flags.map StationFlags.code).getD 0)⟩) ]

def rearmBody (n : Nat) (s : State) : State × Answer :=
  checked s (rearmChecks n s)
    (match stationOf n with
    | some k => (s.enter k .restoring, done [])
    | none => (s, done []))

/-- R69: bring a standing-by station back into the drive. -/
def execRearmStation (n : Nat) (s : State) : Out := .next (request .rearmStation (rearmBody n) s)

/-! ### READ_STATION_CONTEXT and WRITE_PARKED_CONTEXT (R70, R71) -/

/-- The last report with every field, or its absence. -/
def reportBytes (r : Option Report) : List Byte :=
  orAbsent
    (fun x =>
      s16 x.torque ++ s16 x.wheel ++ s16 x.motor ++ s16 x.inverter ++ u16 x.regen ++ flagByte x.ready ++ flagByte x.peakOc
        ++ flagByte x.invFault)
    ⟨0, 0, 0, 0, 0, false, false, false⟩ r

/-- The protection settings with their source byte before them: the parked copy when the station is PARKED, else the live
context (R70; log 11). -/
def StationCtx.shownSettings (x : StationCtx) : List Byte :=
  namedByte (x.state == .parked)
    ++ settingsBytes (if x.state = .parked then x.parkSlot.getD Settings.default else x.settings)

/-- The payload of READ_STATION_CONTEXT, in the order of R70 (log 11); the enable last sent is 1 for ENABLE, as the GRANT
frame's layout has it (R204). -/
def StationCtx.bytes (x : StationCtx) : List Byte :=
  u8 (stationStateCode x.state) ++ u8 x.custody.code ++ namedByte x.parkSlot.isNone ++ u8 x.link.code ++ optU8 x.deadline
    ++ u8 x.roll ++ optU8 x.lastTwo[0]? ++ optU8 x.lastTwo[1]? ++ s16 x.lastGrant ++ flagByte x.lastEnable
    ++ reportBytes x.report ++ optU8 (x.parkOrigin.map ParkOrigin.code) ++ optU16 x.parkTimer ++ x.shownSettings

def readStationBody (n : Nat) (s : State) : State × Answer :=
  match stationOf n with
  | some k => (s, done (s.station k).bytes)
  | none => (s, refuseValue .station)

/-- R70: read one station as SM holds it. -/
def execReadStationContext (n : Nat) (s : State) : Out := .next (request .readStationContext (readStationBody n) s)

/-- R71's checks. -/
def writeParkedChecks (r : WriteReq) (s : State) : List (Bool × Answer) :=
  [ ((stationOf r.station).isNone, refuseValue .station),
    (stateOf r.station s != some .parked, refuseState .notParked),
    (r.mask.any fun m => (stationMaskOf m).isNone, refuseValue .mask),
    (r.trim.any fun t => decide (t < -50) || decide (50 < t), refuseValue .trim),
    (r.slip.any fun p => decide (p < 50) || decide (200 < p), refuseValue .slipScale),
    (r.clear.any fun f => (stationFlagsOf f).isNone, refuseValue .flags) ]

/-- R71: the parked copy after the write. -/
def Settings.written (x : Settings) (r : WriteReq) : Settings where
  mask := (r.mask.bind stationMaskOf).getD x.mask
  flags := x.flags.minus ((r.clear.bind stationFlagsOf).getD StationFlags.none)
  trim := r.trim.getD x.trim
  slip := r.slip.getD x.slip

def writeParkedBody (r : WriteReq) (s : State) : State × Answer :=
  checked s (writeParkedChecks r s)
    (match stationOf r.station with
    | some k =>
      let copy := ((s.station k).parkSlot.getD Settings.default).written r
      (s.setStation k { s.station k with parkSlot := some copy }, done (settingsBytes copy))
    | none => (s, done []))

/-- R71: edit the parked copy. -/
def execWriteParkedContext (r : WriteReq) (s : State) : Out :=
  .next (request .writeParkedContext (writeParkedBody r) s)

end Sys2Proof.Machine
end

