-- ==== Sys2Proof/Machine/Allocation.lean ====
section
/-! DEFINITION. The Torque Allocator's commands (02): configuration, arming and disarming, the allocation pass in its own
order of stages, and READ_ALLOCATION. -/

namespace Sys2Proof

/-- R34: the direction the selector contacts show; no position, or more than one, shows none. -/
def PassPorts.direction (p : PassPorts) : Option Travel :=
  match p.selForward, p.selNeutral, p.selReverse with
  | true, false, false => some .forward
  | false, false, true => some .reverse
  | _, _, _ => none

/-- The readings held to the ranges of their ports (R34, R74; log 6). -/
def PassPorts.held (p : PassPorts) : PassPorts :=
  { p with accel := min 1000 p.accel, retard := min 1000 p.retard, dcLink := min 4000 p.dcLink }

/-- The stations whose weight is the configured one (R41). -/
def StationState.driven : StationState → Bool
  | .live | .restoring => true
  | _ => false

/-- The states in which a station may qualify for the speed reference (R35). -/
def StationState.measures : StationState → Bool
  | .live | .restoring | .standby => true
  | _ => false

end Sys2Proof

namespace Sys2Proof.Machine

/-- R34: the selector reading. -/
def selectorOf (p : PassPorts) : Selector :=
  match p.direction with
  | some .forward => .forward
  | some .reverse => .reverse
  | none => .neutral

/-- The direction a selector names. -/
def Selector.direction : Selector → Option Travel
  | .forward => some .forward
  | .reverse => some .reverse
  | .neutral => none

/-! ### Speed, travel and metres (R35 to R37) -/

/-- R35: the wheel speed of a qualifying station. -/
def StationCtx.qualifies (x : StationCtx) : Option Int :=
  if x.state.measures && x.link == .alive then x.report.map Report.wheel else none

/-- R35: the slip mark of a station: slipping or clear, or none when it does not qualify. -/
def State.slipMark (s : State) (n : Station) : Option Bool :=
  (s.station n).qualifies.map fun w => decide ((s.puStation n).threshold < gap (mag w) s.ta.speed)

/-- R35: the signed wheel speeds that contribute to the speed reference. -/
def State.contributions (s : State) : List Int :=
  Station.all.filterMap fun n => if s.slipMark n = some false then (s.station n).qualifies else none

/-- R35: the new speed reference, from 0 to 700. -/
def State.newSpeed (s : State) : Nat :=
  let l := s.contributions
  if l.isEmpty then s.ta.speed else min 700 ((l.map mag).sum / l.length)

/-- R36: the wheel sign. -/
def State.newSign (s : State) : Travel :=
  let sum := s.contributions.sum
  if 0 < sum then .forward else if sum < 0 then .reverse else s.ta.wheelSign

/-! ### What a pass derives -/

/-- The figures of a pass before its grants (R34 to R40), taken from the state as it stands at the start of the pass. -/
structure PassFigures where
  selector   : Selector
  speed      : Nat
  sign       : Travel
  reversal   : Bool
  travel     : Travel
  accum      : Nat
  metre      : Bool
  safeRef    : Option Nat
  fallCount  : Nat
  drSafe     : Nat
  dr         : Nat
  dp         : Nat
  state      : TaState
  demand     : Demand
  deriving DecidableEq, Repr

/-- R36: the reversal condition. -/
def reversalHolds (sel : Selector) (sign : Travel) (speed : Nat) : Bool :=
  match sel.direction with
  | some d => sign == d.opposite && decide (5 ≤ speed)
  | none => false

/-- R36: the present travel. -/
def presentTravel (sel : Selector) (sign : Travel) (reversal : Bool) : Travel :=
  match sel.direction with
  | some d => if reversal then sign else d
  | none => sign

/-- R38: the safe-stop reference and the fall count. -/
def safeStopRef (level : Level) (ref : Option Nat) (count speed : Nat) : Option Nat × Nat :=
  match level with
  | .safeStop =>
    match ref with
    | none => (some speed, 0)
    | some r => if 5 ≤ count + 1 then (some (r - 1), 0) else (some r, count + 1)
  | .normal | .stoppedSafe => (none, 0)

/-- R38: the safe-stop demand. -/
def safeStopDemand (ref : Option Nat) (speed : Nat) : Nat := if ref.any fun r => decide (r < speed) then 1000 else 0

/-- R39: the propel demand scaled to the speed limit in force. -/
def scaledPropel (dp ceiling speed : Nat) (sel : Selector) : Nat :=
  let c := if sel = .reverse then min 80 ceiling else ceiling
  if c ≤ speed then 0 else if c < speed + 20 then dp * (c - speed) / 20 else dp

/-- R40: the armed state and the demand direction. -/
def selectState (reversal : Bool) (dr speed dp : Nat) (sel : Selector) : TaState × Demand :=
  if reversal then (.reversalWait, if 0 < dr then .retard else .none)
  else if decide (0 < dr) && decide (5 ≤ speed) then (.retard, .retard)
  else if sel = .neutral then (.neutral, .none)
  else if 0 < dp then (.propel, .propel)
  else (.coast, .none)

/-- R34 to R40: the figures of a pass. -/
def passFigures (p : PassPorts) (s : State) : PassFigures :=
  let sel := selectorOf p
  let speed := s.newSpeed
  let sign := s.newSign
  let reversal := reversalHolds sel sign speed
  let safe := safeStopRef s.pu.level s.ta.safeRef s.ta.fallCount speed
  let drSafe := safeStopDemand safe.1 speed
  let dr := max (max p.retard s.dg.demand) (max s.pu.osDemand drSafe)
  let raw := if s.ta.state.armed && dr == 0 && sel != .neutral && !reversal then p.accel else 0
  let dp := scaledPropel raw (speedCeiling s.ct).value speed sel
  let chosen := if s.ta.state.armed then selectState reversal dr speed dp sel else (s.ta.state, .none)
  { selector := sel, speed := speed, sign := sign, reversal := reversal, travel := presentTravel sel sign reversal
    accum := if 3600 ≤ s.ta.accum + speed then s.ta.accum + speed - 3600 else s.ta.accum + speed
    metre := decide (3600 ≤ s.ta.accum + speed)
    safeRef := safe.1, fallCount := safe.2, drSafe := drSafe, dr := dr, dp := dp
    state := chosen.1, demand := chosen.2 }

/-! ### The grants (R41 to R45) -/

/-- The magnitude of a demand direction. -/
def PassFigures.magnitude (f : PassFigures) : Nat :=
  match f.demand with
  | .propel => f.dp
  | .retard => f.dr
  | .none => 0

/-- R41 step 3: what the assist bias adds to a station's magnitude. -/
def biasOf (n : Station) (d : Demand) (b : Int) : Int :=
  match n, d with
  | .s2, .propel => b
  | .s3, .propel => -b
  | .s2, .retard => -b
  | .s3, .retard => b
  | _, _ => 0

/-- R41: a station's target. -/
def targetOf (s : State) (f : PassFigures) (n : Station) : Int :=
  let x := s.station n
  if x.state.driven && f.demand != .none then
    let base : Int := (f.magnitude * s.ta.weights.get n / 1000 : Nat)
    let m := hold 0 1000 (divZ (base * (1000 + x.settings.trim)) 1000 + biasOf n f.demand s.sc.bias)
    if f.demand = .propel then m else -m
  else 0

/-- R42: `p` moved toward an aim by at most `l`. -/
def slewed (p aim : Int) (l : Nat) : Int := hold (p - l) (p + l) aim

/-- R42: the aim of a station that follows its target: 0 when the grant must change sign. -/
def aimOf (p t : Int) : Int := if p.sign * t.sign = -1 then 0 else t

/-- R42: the slewed value; a station that is not driven receives 0 but for the park ramp. -/
def slewOf (s : State) (f : PassFigures) (n : Station) : Int :=
  let x := s.station n
  match x.state with
  | .live => if f.state.armed then slewed x.lastGrant (aimOf x.lastGrant (targetOf s f n)) s.ta.slew else 0
  | .restoring => if f.state.armed then slewed x.lastGrant (aimOf x.lastGrant (targetOf s f n)) (min 20 s.ta.slew) else 0
  | .parking => slewed x.lastGrant 0 100
  | .absent | .standby | .tripped | .parked => 0

/-- A value held to a station's effective ceiling for its direction (R43). -/
def clampTo (t : List Slot) (n : Station) (v : Int) : Int :=
  hold (-((torqueCeiling t n true).value : Int)) ((torqueCeiling t n false).value : Int) v

/-- R43: the clamped value. -/
def clampOf (s : State) (f : PassFigures) (n : Station) : Int := clampTo s.ct n (slewOf s f n)

/-- R43: the clamp shortfall. -/
def clampShort (s : State) (f : PassFigures) (n : Station) : Nat := mag (slewOf s f n) - mag (clampOf s f n)

/-- R44: what a station takes of its partner's offer. -/
def taken (s : State) (f : PassFigures) (n : Station) : Nat :=
  let x := s.station n
  if f.demand = .retard && (s.station n.partner).state.driven && x.state == .live && decide (x.lastGrant ≤ 0)
      && decide (clampOf s f n ≤ 0) then
    min (clampShort s f n.partner) ((torqueCeiling s.ct n true).value - mag (clampOf s f n))
  else 0

/-- R42 to R44: a station's grant, held to its ceiling after the redistribution. -/
def grantOf (s : State) (f : PassFigures) (n : Station) : Int := clampTo s.ct n (clampOf s f n - (taken s f n : Int))

/-- R45: the enable mark handed over. -/
def enableFor (s : State) (f : PassFigures) (n : Station) : Bool :=
  ((s.station n).state.driven && f.state.armed) || (s.station n).state == .parking

/-- R45: what TA hands SM for a station. -/
def handOf (s : State) (f : PassFigures) (n : Station) : GrantHand where
  grant := grantOf s f n
  enable := enableFor s f n
  clamped := if (s.station n).state = .restoring then some (clampTo s.ct n (targetOf s f n)) else none

/-! ### What the pass hands on (R46 to R48) -/

/-- The sum of magnitudes over the four stations. -/
def magSum (p : PerStation Int) : Nat := (p.toList.map mag).sum

/-- R46: the retard shortfall. -/
def shortfallOf (d : Demand) (targets grants : PerStation Int) : Nat :=
  if d = .retard then min 4000 (magSum targets - magSum grants) else 0

/-- Some station is LIVE. -/
def State.anyLive (s : State) : Bool := s.sm.toList.any fun x => x.state == .live

/-- R47: the brake-blend output. -/
def blendOf (shortfall dr speed : Nat) (level : Level) (anyLive : Bool) : Nat :=
  min 1000
    (max (max (shortfall / 4) (if speed < 5 then dr else 0))
      (max (if level = .stoppedSafe then 1000 else 0) (if anyLive then 0 else dr)))

/-- The regenerated power a station reports while its link is ALIVE (R48). -/
def StationCtx.regenNow (x : StationCtx) : Nat := if x.link = .alive then (x.report.map Report.regen).getD 0 else 0

/-- R48: the retard power figure. -/
def State.retardPower (s : State) : Nat := min 12000 (s.sm.toList.map StationCtx.regenNow).sum

/-- R49: TA as a pass leaves it. -/
def Ta.afterPass (p : PassPorts) (s : State) : Ta :=
  let f := passFigures p s
  let targets := PerStation.of (targetOf s f)
  let grants := PerStation.of (grantOf s f)
  let short := shortfallOf f.demand targets grants
  { s.ta with
    state := f.state, speed := f.speed, wheelSign := f.sign, accum := f.accum, safeRef := f.safeRef
    fallCount := f.fallCount, selector := f.selector, accel := p.accel, retardPedal := p.retard, travel := f.travel
    demand := f.demand, dr := f.dr, drPedal := p.retard, drGovernor := s.dg.demand, drOverspeed := s.pu.osDemand
    drSafe := f.drSafe, dp := f.dp, target := targets, handed := grants, enabled := .of (enableFor s f)
    slipMark := .of s.slipMark, shortfall := short
    blend := blendOf short f.dr f.speed s.pu.level s.anyLive
    power := s.retardPower
    lastPass := ⟨f.state, s.ta.weights, s.ta.slew, s.ta.configured⟩ }

/-- R37: the metre events of a pass: at RS, CT and PM. -/
def metreEvents (dir : Travel) : List Instr :=
  [match dir with
    | .forward => .forwardMetreEvent
    | .reverse => .reverseMetreEvent,
    .distanceExpiryCount dir, .windowMetre dir]

/-- What the pass hands on, in order (log 31): the pass arrival, a metre event, the grants, the retard power figure. -/
def passEvents (p : PassPorts) (s : State) : List Instr :=
  let f := passFigures p s
  [.passArrival (.of s.slipMark) f.speed] ++ (if f.metre then metreEvents f.travel else [])
    ++ [.grantHandover (.of (handOf s f)) f.travel, .powerArrival s.retardPower p.dcLink]

/-- 10 ms pass on a running timer (log 5). -/
def tick (t : Option Nat) : Option Nat := t.map fun x => x - 10

/-- The time remaining of the one-shot timers falls by the period of the pass (R52, R74; log 5). -/
def State.tickTimers (s : State) : State :=
  let t := s.withSm (.of fun n =>
    { s.station n with deadline := tick (s.station n).deadline, parkTimer := tick (s.station n).parkTimer })
  t.withGd { t.gd with banks := .of fun k => { t.bank k with checkTimer := tick (t.bank k).checkTimer } }

/-- R34: the allocation pass. -/
def execAllocationPass (p : PassPorts) (s : State) : Out :=
  .next (((s.withTa (Ta.afterPass p.held s)).withHanded (s.handed ++ passEvents p.held s)).tickTimers)

/-! ### Requests -/

/-- R30's table. -/
def configureDriveChecks (w : PerStation Nat) (slew : Nat) (s : State) : List (Bool × Answer) :=
  [ (notDisarmed s, refuseState .armed),
    (w.toList.any fun x => decide (1000 < x), refuseValue .weight),
    (w.toList.all fun x => x == 0, refuseValue .weightsZero),
    (decide (slew < 10) || decide (200 < slew), refuseValue .slew) ]

def configureDriveBody (w : PerStation Nat) (slew : Nat) (s : State) : State × Answer :=
  checked s (configureDriveChecks w slew s)
    (s.withTa { s.ta with weights := w, slew := slew, configured := true }, done (w.toList.flatMap u16 ++ u8 slew))

/-- R30: set the station weights and the slew. -/
def execConfigureDrive (w : PerStation Nat) (slew : Nat) (s : State) : Out :=
  .next (request .configureDrive (configureDriveBody w slew) s)

/-- R31: the groups not configured, as a set in the order DRIVE, GRID, PAYLOAD, PROTECTION, STEERING (log 11). -/
def unconfigured (s : State) : Nat :=
  bitValue (!s.ta.configured) 0 + bitValue (!s.gd.configured) 1 + bitValue (!s.pm.configured) 2
    + bitValue (!s.pu.configured) 3 + bitValue (!s.sc.configured) 4

/-- R31: a station with its link ALIVE and a state other than ABSENT. -/
def StationCtx.present (x : StationCtx) : Bool := x.link == .alive && x.state != .absent

/-- R31's checks. -/
def armChecks (s : State) : List (Bool × Answer) :=
  [ (s.ta.state.armed, refuseState .alreadyArmed),
    (unconfigured s != 0, ⟨.refusedState, some .notConfigured, u8 (unconfigured s)⟩),
    (!s.sm.toList.any StationCtx.present, refuseState .noStations) ]

/-- R31: ARMING, with a self-check started on both banks, A then B (log 21). -/
def State.beginArm (s : State) : State :=
  let t := s.withTa { s.ta with state := .arming }
  ((t.startCheck .a).startCheck .b).testGf false

/-- R31: arm the drive and self-check the grid; the request is answered when both checks have ended. -/
def execArm (s : State) : Out := .next (longRequest .arm .arm armChecks State.beginArm s)

/-- R32: CANCEL ends the ARM in flight. -/
def State.cancelArm (s : State) : State := s.answerArm .disarmed ⟨.abandoned, some .cancelled, []⟩

def disarmBody (s : State) : State × Answer :=
  checked s [(s.ta.state == .disarmed, doneAlert .alreadyDisarmed []), (decide (5 ≤ s.ta.speed), refuseState .moving)]
    ((s.withTa { s.ta with state := .disarmed }).disarmStations, done [])

/-- R33: return the drive to rest. -/
def execDisarm (s : State) : Out := .next (request .disarm disarmBody s)

/-- The safe-stop reference and fall count, or their absence. -/
def safeBytes (ref : Option Nat) (count : Nat) : List Byte :=
  orAbsent (fun r => u16 r ++ u8 (if ref.isSome then count else 0)) 0 ref

/-- A slip mark, slipping or clear, or its absence. -/
def slipBytes (m : Option Bool) : List Byte := orAbsent namedByte true m

/-- One station in the payload of READ_ALLOCATION; the enable mark is 1 for ENABLE, as the GRANT frame's layout has it
(R204). -/
def Ta.stationBytes (t : Ta) (n : Station) : List Byte :=
  s16 (t.target.get n) ++ s16 (t.handed.get n) ++ flagByte (t.enabled.get n) ++ slipBytes (t.slipMark.get n)

/-- The payload of READ_ALLOCATION, in the order of R49 (log 11): the allocator as the last completed pass left it
(log 25). A demand direction of none is sent as an absent value behind a mark byte (log 11). -/
def allocationPayload (s : State) : List Byte :=
  let t := s.ta
  let d := t.lastPass
  u8 d.state.code ++ optU8 t.demand.asDirection ++ u8 t.selector.code ++ u16 t.accel ++ u16 t.retardPedal
    ++ u8 (travelCode t.wheelSign) ++ u8 (travelCode t.travel) ++ u16 t.speed ++ u16 t.accum ++ u16 t.dr ++ u16 t.drPedal
    ++ u16 t.drGovernor ++ u16 t.drOverspeed ++ u16 t.drSafe ++ u16 t.dp ++ safeBytes t.safeRef t.fallCount
    ++ Station.all.flatMap t.stationBytes ++ u16 t.shortfall ++ u16 t.blend ++ u16 t.power ++ d.weights.toList.flatMap u16
    ++ u8 d.slew ++ flagByte d.configured

/-- R49: read the state and figures of the last pass. -/
def execReadAllocation (s : State) : Out := .next (request .readAllocation (reading allocationPayload) s)

end Sys2Proof.Machine
end

