-- ==== Sys2Proof/Machine/Route.lean ====
section
/-! DEFINITION. The Route Sequencer's commands (05): the profile store, metre events, rollover and resolution, detours,
and the route requests. Fetch, rollover and resolution act on a `RoutePos`, so that the check of ROUTE_START (R112) and
the walks of DG (R126, R132) take them on copies. -/

namespace Sys2Proof.Machine

/-! ### The profile store (R94) -/

/-- What an unlisted group holds: four STOPs (R116). -/
def Group.stops : Group := ⟨.stop, .stop, .stop, .stop⟩

/-- The contents of a group. -/
def readGroup (store : List (Nat × Group)) (g : Nat) : Group :=
  match store.find? fun p => p.1 == g with
  | some p => p.2
  | none => Group.stops

/-- An entry placed in the sorted store, before the first greater number. -/
def insertGroup (g : Nat) (x : Group) : List (Nat × Group) → List (Nat × Group)
  | [] => [(g, x)]
  | p :: rest => if g < p.1 then (g, x) :: p :: rest else p :: insertGroup g x rest

/-- Replace a group's contents, in canonical form: numbers rising, no all-STOP entry. -/
def writeGroup (store : List (Nat × Group)) (g : Nat) (x : Group) : List (Nat × Group) :=
  let others := store.filter fun p => p.1 != g
  if x = Group.stops then others else insertGroup g x others

/-- The canonical form of the store. -/
def storeWf : List (Nat × Group) → Bool
  | [] => true
  | [p] => p.2 != Group.stops
  | p :: q :: rest => p.2 != Group.stops && decide (p.1 < q.1) && storeWf (q :: rest)

/-- The length of a descriptor wherever the index is compared with it (R94). -/
def Desc.length : Desc → Nat
  | .span len _ _ _ _ => if len = 0 then 4096 else len
  | .hold _ => 1
  | .jump _ | .stop => 0

/-- The pointer after a group (R98). -/
def groupAfter (g : Nat) : Nat := (g + 1) % 64

/-! ### Fetch, shift, restore, rollover (R97, R102, R105) -/

/-- R97: a fetch, with the next-group pointer after it. -/
def RoutePos.fetch (p : RoutePos) (store : List (Nat × Group)) (g : Nat) : RoutePos :=
  let x := readGroup store g
  { p with
    c0 := some ⟨x.d0, g, 0⟩, c1 := some ⟨x.d1, g, 1⟩, c2 := some ⟨x.d2, g, 2⟩, c3 := some ⟨x.d3, g, 3⟩
    next := groupAfter g }

/-- The cache moved down by one (R102). -/
def RoutePos.shift (p : RoutePos) : RoutePos := { p with c0 := p.c1, c1 := p.c2, c2 := p.c3, c3 := none }

/-- R105: the continuation restored. -/
def RoutePos.restore (p : RoutePos) : RoutePos :=
  match p.cont with
  | some k => { c0 := k.e0, c1 := k.e1, c2 := k.e2, c3 := none, next := k.next, detour := .none, cont := none }
  | none => { p with detour := .none }

/-- R102: the cache at a rollover: a pending detour is taken, and otherwise the cache shifts down. -/
def RoutePos.rollover (p : RoutePos) (store : List (Nat × Group)) : RoutePos :=
  match p.detour with
  | .pending g => { (p.fetch store g) with detour := .active g, cont := some ⟨p.c1, p.c2, p.c3, p.next⟩ }
  | _ => p.shift

/-- Whether a rollover takes a detour. -/
def RoutePos.takesDetour (p : RoutePos) : Bool :=
  match p.detour with
  | .pending _ => true
  | _ => false

/-! ### Resolution (R103 to R105) -/

/-- How a resolution ends. -/
inductive Ending where
  | span
  | hold (kind : HoldKind)
  | stop
  | loop
  deriving DecidableEq, Repr

/-- The outcome of a resolution: the cache, whether the detour returned in it, and how it ended. -/
structure Resolved where
  pos      : RoutePos
  returned : Bool
  ending   : Ending
  deriving DecidableEq, Repr

/-- R103, R104: resolution with a step count; at most four fetches and one return fit in the fuel it is given. -/
def resolveFrom (store : List (Nat × Group)) : Nat → Nat → Bool → RoutePos → Resolved
  | 0, _, returned, p => ⟨p, returned, .loop⟩
  | fuel + 1, steps, returned, p =>
    match p.c0.map Entry.desc with
    | none =>
      if 4 ≤ steps then ⟨p, returned, .loop⟩ else resolveFrom store fuel (steps + 1) returned (p.fetch store p.next)
    | some (.jump g) =>
      if 4 ≤ steps then ⟨p, returned, .loop⟩ else resolveFrom store fuel (steps + 1) returned (p.fetch store g)
    | some .stop =>
      match p.detour with
      | .active _ => resolveFrom store fuel steps true p.restore
      | _ => ⟨p, returned, .stop⟩
    | some (.hold k) => ⟨p, returned, .hold k⟩
    | some (.span _ _ _ _ _) => ⟨p, returned, .span⟩

/-- R103: resolution from a step count of 0. -/
def resolve (store : List (Nat × Group)) (p : RoutePos) : Resolved := resolveFrom store 7 0 false p

/-! ### What the sequencer hands on (R106, R107) -/

/-- The kind of the HOLD in C0. -/
def RoutePos.holdKind (p : RoutePos) : Option HoldKind :=
  match p.c0.map Entry.desc with
  | some (.hold k) => some k
  | _ => none

/-- R106: a hold-left event handed to PM and DG when the route was HOLDING. -/
def State.leaveHold (s : State) (cause : HoldCause) : State :=
  match s.rs.state, s.rs.pos.holdKind with
  | .holding, some k => (s.hand (.holdLeftAtPm k cause)).hand (.holdLeftAtDg k cause)
  | _, _ => s

/-- R104: entering FAULTED; the begins event handed to PU names the cause (R107). -/
def State.routeFault (s : State) (cause : RouteFault) : State :=
  (s.withRs
    { s.rs with state := .faulted, fault := some cause, pos := { s.rs.pos with detour := .none, cont := none } }).hand
    (.truckConditionBegins ⟨.pr, some cause⟩)

/-- R103 to R106: resolution of the real route, with its notices and events in the order of its lines. -/
def State.resolveRoute (s : State) : State :=
  let r := resolve s.rs.store s.rs.pos
  let t := s.withRs { s.rs with pos := r.pos }
  let u := if r.returned then (t.notify .detourDone).hand .routeEditEvent else t
  match r.ending with
  | .span => u.withRs { u.rs with state := .running, index := 0 }
  | .hold k =>
    (((u.withRs { u.rs with state := .holding, index := 0 }).notify .holdReached).hand (.holdReachedAtPm k)).hand
      (.holdReachedAtDg k)
  | .stop => (u.withRs { u.rs with state := .ended }).notify .routeEnded
  | .loop => u.routeFault .jumpLoop

/-- R102: a rollover and the resolution that follows it. -/
def State.rollover (s : State) : State :=
  let t := s.withRs { s.rs with pos := s.rs.pos.rollover s.rs.store }
  State.resolveRoute (if s.rs.pos.takesDetour then (t.notify .detourTaken).hand .routeEditEvent else t)

/-- R107: the published surface. -/
def Rs.surface (r : Rs) : Surface :=
  match r.state, r.pos.c0.map Entry.desc with
  | .running, some (.span _ _ _ surface _) => surface
  | _, _ => .dry

/-! ### Metre events (R100, R101) -/

/-- Whether C0 is a SPAN with its notify flag set. -/
def RoutePos.marks (p : RoutePos) : Bool :=
  match p.c0.map Entry.desc with
  | some (.span _ _ _ _ notify) => notify
  | _ => false

/-- C0's length (R94). -/
def RoutePos.length (p : RoutePos) : Nat :=
  match p.c0 with
  | some e => e.desc.length
  | none => 0

/-- R100 step 3: the index and the advance count rise by 1; the index is held at 4095 (R98; log 38). -/
def Rs.advanced (r : Rs) : Rs :=
  { r with index := min 4095 (r.index + 1), advance := (r.advance + 1) % 4294967296 }

/-- Whether the route counts metre events (R99). -/
def RouteState.counts : RouteState → Bool
  | .running | .holding => true
  | .idle | .ended | .faulted => false

/-- R100: a forward metre event at RS. -/
def execForwardMetreEvent (s : State) : Out :=
  .next
    (if s.rs.state.counts then
      if 0 < s.rs.debt then s.withRs { s.rs with debt := s.rs.debt - 1 }
      else if s.rs.state = .holding then s
      else
        let t := s.withRs s.rs.advanced
        if s.rs.index + 1 = s.rs.pos.length then
          State.rollover (if s.rs.pos.marks then t.notify .segmentMark else t)
        else t
    else s)

/-- R101: a reverse metre event at RS. -/
def execReverseMetreEvent (s : State) : Out :=
  .next
    (if s.rs.state.counts then
      let debt := min 255 (s.rs.debt + 1)
      let t := s.withRs { s.rs with debt := debt }
      if debt = 255 then (t.leaveHold .fault).routeFault .lostPosition else t
    else s)

/-! ### PROFILE_WRITE and PROFILE_READ (R95, R96) -/

def profileWriteBody (g : Nat) (ws : List (BitVec 40)) (x : Group) (s : State) : State × Answer :=
  if 63 < g then (s, refuseValue .group)
  else
    match groupFault ws with
    | some d => (s, ⟨.refusedValue, some d, if d = .kind then u8 (faultPosition ws d) else []⟩)
    | none => ((s.withRs { s.rs with store := writeGroup s.rs.store g x }).hand .routeEditEvent, done (u8 g))

/-- R95: write one group of four descriptors. -/
def execProfileWrite (g : Nat) (d0 d1 d2 d3 : BitVec 40) (s : State) : Out :=
  .next
    (request .profileWrite (profileWriteBody g [d0, d1, d2, d3] ⟨descOf d0, descOf d1, descOf d2, descOf d3⟩) s)

/-- A group's four descriptor words. -/
def Group.bytes (x : Group) : List Byte :=
  u40 (descWord x.d0) ++ u40 (descWord x.d1) ++ u40 (descWord x.d2) ++ u40 (descWord x.d3)

def profileReadBody (g : Nat) (s : State) : State × Answer :=
  checked s [(decide (63 < g), refuseValue .group)] (s, done (readGroup s.rs.store g).bytes)

/-- R96: read one group from the store. -/
def execProfileRead (g : Nat) (s : State) : Out := .next (request .profileRead (profileReadBody g) s)

/-! ### Payload fields -/

/-- A cache entry, valid or invalid, with its descriptor and origin (log 11). -/
def entryBytes (e : Option Entry) : List Byte :=
  orAbsent (fun x => u40 (descWord x.desc) ++ u8 x.group ++ u8 x.pos) ⟨.span 0 0 0 .dry false, 0, 0⟩ e

/-- The route state, C0 with its origin, and the index (R112, R114). -/
def State.routeBytes (s : State) : List Byte := u8 s.rs.state.code ++ entryBytes s.rs.pos.c0 ++ u16 s.rs.index

/-- The answer of a request whose resolution may end or fault the route (R111, R114). -/
def State.routeAnswer (s : State) (payload : List Byte) : Answer :=
  match s.rs.state with
  | .ended => doneAlert .routeEnded payload
  | .faulted => doneAlert .routeFaulted payload
  | _ => done payload

/-! ### ROUTE_START, ROUTE_STOP, RESUME (R112 to R114) -/

/-- R112: the copy that ROUTE_START resolves: the starting group fetched and the descriptors before the first one shifted
out, with no detour. -/
def startPos (store : List (Nat × Group)) (g first : Nat) : RoutePos :=
  let p := RoutePos.reset.fetch store g
  match first with
  | 0 => p
  | 1 => p.shift
  | 2 => p.shift.shift
  | _ => p.shift.shift.shift

/-- Whether an offset fits the C0 that a resolution found (R112). -/
def Resolved.fits (r : Resolved) (offset : Nat) : Bool :=
  match r.ending with
  | .span => decide (offset < r.pos.length)
  | .hold _ => offset == 0
  | .stop | .loop => true

/-- The starting point: a group byte of 255 stands for LAST_START (R204). -/
def startPoint (g first : Nat) (s : State) : Nat × Nat :=
  if g = 255 then (s.rs.startGroup, s.rs.startFirst) else (g, first)

/-- R112's table. -/
def routeStartChecks (g first offset : Nat) (s : State) : List (Bool × Answer) :=
  let p := startPoint g first s
  let r := resolve s.rs.store (startPos s.rs.store p.1 p.2)
  [ (g != 255 && decide (63 < g), refuseValue .group),
    (g != 255 && decide (3 < first), refuseValue .first),
    (decide (4095 < offset), refuseValue .offset),
    (r.ending == .stop, refuseValue .routeEnds),
    (r.ending == .loop, refuseValue .routeLoop),
    (!r.fits offset, refuseValue .offsetBeyond) ]

/-- A route fault ends event, when the route was FAULTED (R112, R113). -/
def State.endRouteFault (s : State) : State :=
  if s.rs.state = .faulted then s.hand (.truckConditionEnds .pr) else s

/-- R112: the start, steps 1 to 7. -/
def State.startRoute (s : State) (g first offset : Nat) : State :=
  let t := (s.leaveHold .routeStart).endRouteFault
  let u := State.resolveRoute
    (t.withRs
      { t.rs with
        debt := 0, advance := 0, fault := none, startGroup := g, startFirst := first
        pos := startPos t.rs.store g first })
  (u.withRs { u.rs with index := offset }).hand .routeEditEvent

def routeStartBody (g first offset : Nat) (s : State) : State × Answer :=
  let p := startPoint g first s
  let t := s.startRoute p.1 p.2 offset
  checked s (routeStartChecks g first offset s) (t, done t.routeBytes)

/-- R112: begin the route at a chosen descriptor and offset. -/
def execRouteStart (g first offset : Nat) (s : State) : Out :=
  .next (request .routeStart (routeStartBody g first offset) s)

/-- R113: the route made IDLE. -/
def State.stopRoute (s : State) : State :=
  let t := (s.leaveHold .routeStop).endRouteFault
  (t.withRs
    { t.rs with
      state := .idle, fault := none, debt := 0, index := 0
      pos :=
        { t.rs.pos with c0 := none, c1 := none, c2 := none, c3 := none, detour := .none, cont := none } }).hand
    .routeEditEvent

def routeStopBody (s : State) : State × Answer :=
  checked s [(s.rs.state == .idle, doneAlert .alreadyIdle [])] (s.stopRoute, done [])

/-- R113: end the route and empty the cache. -/
def execRouteStop (s : State) : Out := .next (request .routeStop routeStopBody s)

def resumeBody (s : State) : State × Answer :=
  let t := (s.leaveHold .resume).rollover
  checked s [(s.rs.state != .holding, refuseState .notHolding)] (t, t.routeAnswer t.routeBytes)

/-- R114: leave a HOLD. -/
def execResume (s : State) : Out := .next (request .resume resumeBody s)

/-! ### Detours (R109, R111) -/

def Detour.isNone : Detour → Bool
  | .none => true
  | _ => false

/-- R109's table. -/
def insertDetourChecks (g : Nat) (s : State) : List (Bool × Answer) :=
  [ (decide (63 < g), refuseValue .group),
    (!s.rs.state.counts, refuseState .notRunning),
    (!s.rs.pos.detour.isNone, refuseState .detourBusy) ]

def insertDetourBody (g : Nat) (s : State) : State × Answer :=
  checked s (insertDetourChecks g s)
    ((s.withRs { s.rs with pos := { s.rs.pos with detour := .pending g } }).hand .routeEditEvent, done [])

/-- R109: mark a group to be taken at the next rollover. -/
def execInsertDetour (g : Nat) (s : State) : Out := .next (request .insertDetour (insertDetourBody g) s)

/-- R111: what an accepted ABORT_DETOUR does, before its route edit event. -/
def State.abortDetour (s : State) : State :=
  match s.rs.pos.detour with
  | .active _ =>
    let t := s.leaveHold .abort
    let u := State.resolveRoute (t.withRs { t.rs with pos := t.rs.pos.restore })
    u.withRs { u.rs with index := 0 }
  | _ => s.withRs { s.rs with pos := { s.rs.pos with detour := .none } }

/-- The route state, C0 and the index (R111); C0 is sent without its origin (log 11). -/
def State.abortBytes (s : State) : List Byte :=
  u8 s.rs.state.code ++ orAbsent (fun x => u40 (descWord x.desc)) ⟨.span 0 0 0 .dry false, 0, 0⟩ s.rs.pos.c0 ++ u16 s.rs.index

def abortDetourBody (s : State) : State × Answer :=
  let t := s.abortDetour.hand .routeEditEvent
  checked s [(s.rs.pos.detour.isNone, refuseState .noDetour)] (t, t.routeAnswer t.abortBytes)

/-- R111: cancel a pending detour, or return from an active one at once. -/
def execAbortDetour (s : State) : Out := .next (request .abortDetour abortDetourBody s)

/-! ### READ_ROUTE (R115) -/

/-- The detour status, and the detour group or its absence. -/
def Detour.bytes : Detour → List Byte
  | .none => u8 0 ++ optU8 Option.none
  | .pending g => u8 1 ++ optU8 (some g)
  | .active g => u8 2 ++ optU8 (some g)

/-- The continuation record, or its absence. -/
def contBytes (k : Option Continuation) : List Byte :=
  orAbsent (fun x => entryBytes x.e0 ++ entryBytes x.e1 ++ entryBytes x.e2 ++ u8 x.next) ⟨none, none, none, 0⟩ k

/-- The remaining distance in C0: its length less the index, or 0 when C0 is not a SPAN (R115). -/
def Rs.remaining (r : Rs) : Nat :=
  match r.pos.c0.map Entry.desc with
  | some (.span _ _ _ _ _) => r.pos.length - r.index
  | _ => 0

/-- The payload of READ_ROUTE, in the order of R115 (log 11). -/
def routePayload (s : State) : List Byte :=
  let r := s.rs
  u8 r.state.code ++ u8 (RouteFault.code r.fault) ++ entryBytes r.pos.c0 ++ entryBytes r.pos.c1 ++ entryBytes r.pos.c2
    ++ entryBytes r.pos.c3 ++ u8 r.pos.next ++ u8 r.startGroup ++ u8 r.startFirst ++ u16 r.index ++ u16 r.remaining
    ++ u8 r.debt ++ u32 r.advance ++ r.pos.detour.bytes ++ contBytes r.pos.cont ++ u8 r.surface.code

/-- R115: read the sequencer's state. -/
def execReadRoute (s : State) : Out := .next (request .readRoute (reading routePayload) s)

end Sys2Proof.Machine
end

