-- ==== Sys2Proof/Machine/Governor.lean ====
section
/-! DEFINITION. The Descent Governor's commands (06): the governor update, the hold, route edit and latch events, the
mode, the forecast walk in its slices with APPLY, and READ_GOVERNOR. -/

namespace Sys2Proof.Machine

/-! ### State and mass (R119, R120, R124) -/

/-- The active states. -/
def GovState.active : GovState → Bool
  | .tracking | .governing | .holding => true
  | .off | .standby => false

/-- The grade of C0 when it is a SPAN. -/
def RoutePos.grade (p : RoutePos) : Int :=
  match p.c0.map Entry.desc with
  | some (.span _ g _ _ _) => g
  | _ => 0

/-- The speed limit of C0 when it is a SPAN. -/
def RoutePos.limit (p : RoutePos) : Nat :=
  match p.c0.map Entry.desc with
  | some (.span _ _ l _ _) => l
  | _ => 700

/-- R119: the governor state selected at an update. -/
def selectedState (s : State) : GovState :=
  if !s.dg.enabled then .off
  else if !s.ta.state.armed then .standby
  else
    match s.rs.state with
    | .idle | .ended | .faulted => .standby
    | .holding => .holding
    | .running => if s.rs.pos.grade ≤ -20 then .governing else .tracking

/-- R124: the gross mass and its source. -/
def grossMass (p : Pm) : Nat × MassSource :=
  match p.state with
  | .latched | .empty => (p.emptyMass + p.latched.getD 0, .latched)
  | .unknown | .loading | .measuring | .dumping => (p.emptyMass + p.rated * 12 / 10, .conservative)

/-- R120: what DG does on entering OFF or STANDBY from an active state. The remaining distance, the
sustainable speed and the approach cap stand until the next update (log 42). -/
def State.governorStandsDown (s : State) : State :=
  let t := (s.release .governorTarget none).release .governorForecast none
  t.withDg { t.dg with claimed := none, target := none, lastApply := none, demand := 0 }

/-! ### The update (R123 to R129) -/

/-- R125: the sustainable speed on a grade. -/
def sustainableSpeed (avail mass : Nat) (g : Int) : Nat := min 700 (3600000 * avail / (981 * mass * mag g))

/-- R126: the cap that a remaining distance gives. -/
def capAt (remaining : Nat) : Option Nat :=
  if remaining < 20 then some 50
  else if remaining < 50 then some 100
  else if remaining < 100 then some 150
  else if remaining < 200 then some 250
  else none

/-- R126: how the look-ahead ends, on a copy rolled over and resolved. -/
def lookAhead (r : Rs) : Ending := (resolve r.store (r.pos.rollover r.store)).ending

/-- R126: the approach cap. -/
def approachCap (r : Rs) : Option Nat :=
  match lookAhead r with
  | .hold _ | .stop => capAt (r.pos.length - r.index)
  | .span | .loop => none

/-- R127: the shortfall cap. -/
def nextShortCap (cap shortfall : Nat) : Nat := if 200 < shortfall then max 50 (cap - 1) else min 700 (cap + 1)

/-- R123 to R127: the figures of an update that selects `st`. -/
def State.governorFigures (s : State) (st : GovState) : Dg :=
  let m := grossMass s.pm
  let r := s.rs
  let moving := st == .tracking || st == .governing
  { s.dg with
    state := st
    mass := m.1
    source := m.2
    sustainable :=
      if st = .governing then
        some (sustainableSpeed (s.gd.published.avail.a + s.gd.published.avail.b) m.1 r.pos.grade)
      else none
    approach := if moving then approachCap r else none
    remaining := if moving then some (r.pos.length - r.index) else none
    shortCap := nextShortCap s.dg.shortCap s.ta.shortfall
    shortLast := s.ta.shortfall }

/-- R128: the target in an active state. -/
def State.governorTarget (s : State) : Nat :=
  let d := s.dg
  if d.state = .holding then 0
  else
    min (min s.rs.pos.limit (d.sustainable.getD 700))
      (min (min (d.approach.getD 700) d.shortCap) (speedCeilingBut s.ct .governorTarget).value)

/-- R128: the claim on the TARGET key. -/
def State.claimTarget (s : State) (target : Nat) : State :=
  let t := s.withDg { s.dg with target := some target }
  if s.dg.claimed = some target then t
  else (t.withDg { t.dg with claimed := some target }).claim .governorTarget target none none

/-- R129: the governor retard demand. -/
def nextDemand (demand speed target : Nat) : Nat :=
  if target < speed then min 1000 (demand + 100)
  else if speed + 10 < target then demand - 100
  else demand

/-- R123: the governor update. -/
def execGovernorUpdate (s : State) : Out :=
  let st := selectedState s
  let t := if s.dg.state.active && !st.active then s.governorStandsDown else s
  let u := t.withDg (t.governorFigures st)
  .next
    (if st.active then
      let v := u.claimTarget u.governorTarget
      v.withDg { v.dg with demand := nextDemand v.dg.demand v.ta.speed u.governorTarget }
    else u.withDg { u.dg with target := none, demand := 0 })

/-! ### Events from RS and PM (R121, R136) -/

/-- R121: a hold-reached event at DG. The remaining distance, the sustainable speed and the approach cap stand until
the next update (log 42). -/
def execHoldReachedAtDg (_kind : HoldKind) (s : State) : Out :=
  .next
    (match s.dg.state with
    | .tracking | .governing => (s.withDg { s.dg with state := .holding }).claimTarget 0
    | .holding | .off | .standby => s)

/-- R121: a hold-left event at DG; the next update selects the state. -/
def execHoldLeftAtDg (_kind : HoldKind) (_cause : HoldCause) (s : State) : Out := .next s

/-- R136: an OPEN cursor becomes STALE. -/
def CursorState.staled : CursorState → CursorState
  | .opened c => .stale c
  | .stale c => .stale c
  | .absent => .absent

/-- R136: a route edit event from RS; a request may be taken between the edit and this event (log 52). -/
def execRouteEditEvent (s : State) : Out := .next (s.withDg { s.dg with cursor := s.dg.cursor.staled })

/-- R136: a latch event from PM; a request may be taken between the latch and this event (log 52). -/
def execLatchEvent (s : State) : Out := .next (s.withDg { s.dg with cursor := s.dg.cursor.staled })

/-! ### GOVERNOR_MODE (R122) -/

/-- R122: the mode written. -/
def State.setMode (s : State) (on : Bool) : State :=
  if on then s.withDg { s.dg with enabled := true, state := if s.dg.state = .off then .standby else s.dg.state }
  else
    let t := if s.dg.state.active then s.governorStandsDown else s
    t.withDg { t.dg with enabled := false, state := .off }

/-- The mode and the governor state. -/
def State.modeBytes (s : State) : List Byte := namedByte s.dg.enabled ++ u8 s.dg.state.code

def governorModeBody (mode : Nat) (s : State) : State × Answer :=
  match enableOf mode with
  | none => (s, refuseValue .mode)
  | some on =>
    if s.dg.enabled = on then (s, doneAlert .noChange s.modeBytes) else (s.setMode on, done (s.setMode on).modeBytes)

/-- R122: enable or disable the governor. -/
def execGovernorMode (mode : Nat) (s : State) : Out := .next (request .governorMode (governorModeBody mode) s)

/-! ### The forecast walk (R130 to R134) -/

/-- The figures of a problem span (R133). -/
structure Problem where
  distance : Nat
  group    : Nat
  pos      : Nat
  length   : Nat
  energy   : Nat
  excess   : Nat
  speed    : Nat
  deriving DecidableEq, Repr

/-- How a slice ends (R134). -/
inductive WalkEnd where
  | hold (kind : HoldKind) (distance : Nat)
  | stop
  | problem (p : Problem)
  | loop
  | slice
  deriving DecidableEq, Repr

/-- R132: a group read from the store into W0 to W3, with one step counted. -/
def Cursor.read (c : Cursor) (store : List (Nat × Group)) (g : Nat) : Cursor :=
  let x := readGroup store g
  { c with
    w0 := some ⟨x.d0, g, 0⟩, w1 := some ⟨x.d1, g, 1⟩, w2 := some ⟨x.d2, g, 2⟩, w3 := some ⟨x.d3, g, 3⟩
    ptr := groupAfter g, steps := c.steps + 1 }

/-- R132: a walk rollover. -/
def Cursor.rollover (c : Cursor) : Cursor := { c with w0 := c.w1, w1 := c.w2, w2 := c.w3, w3 := none }

/-- R132: one descriptor examined; the total is sent in two bytes (log 11). -/
def Cursor.count (c : Cursor) : Cursor := { c with total := (c.total + 1) % 65536, slice := c.slice + 1 }

/-- R133: the planned speed. -/
def Cursor.planned (c : Cursor) (limit : Nat) : Nat := max 50 (min limit c.ceiling)

/-- R133: the energy given up on a span. -/
def spanEnergy (mass len : Nat) (grade : Int) : Nat :=
  if grade ≤ -20 then 981 * mass * len * mag grade / 100000 else 0

/-- R133: the cooling over a span. -/
def spanCooling (cooling len v : Nat) : Nat := cooling * 36 * len / v

/-- R133: the recommended speed. -/
def recommended (len cooling excess : Nat) : Nat := holdNat 50 700 (36 * len * cooling / excess)

/-- R132, R133: a SPAN in W0 is walked; a problem span ends the walk. -/
def Cursor.walkSpan (c : Cursor) (e : Entry) (grade : Int) (limit : Nat) : Cursor × Option WalkEnd :=
  let len := c.firstRem.getD e.desc.length
  let gain := spanEnergy c.mass len grade
  let after := c.heat + gain - spanCooling c.cooling len (c.planned limit)
  let most := percent 95 c.capacity
  let d := c.count
  if decide (grade ≤ -20) && decide (most < after) then
    let excess := c.heat + gain - most
    (d, some (.problem ⟨c.distance, e.group, e.pos, len, gain, excess, recommended len c.cooling excess⟩))
  else
    (Cursor.rollover { d with distance := d.distance + len, heat := after, steps := 0, firstRem := none },
      if d.slice = 8 then some .slice else none)

/-- R132: one line of the walk's table. -/
def Cursor.walkLine (c : Cursor) (store : List (Nat × Group)) : Cursor × Option WalkEnd :=
  match c.w0 with
  | none => if 4 ≤ c.steps then (c, some .loop) else (c.read store c.ptr, none)
  | some e =>
    match e.desc with
    | .jump g =>
      if 4 ≤ c.steps then (c, some .loop)
      else ((c.count).read store g, if c.slice + 1 = 8 then some .slice else none)
    | .stop =>
      match c.cont with
      | some k => ({ c with w0 := k.e0, w1 := k.e1, w2 := k.e2, w3 := none, ptr := k.next, cont := none }, none)
      | none => (c, some .stop)
    | .hold k => (c.count, some (.hold k c.distance))
    | .span _ grade limit _ _ => c.walkSpan e grade limit

/-- R132, R134: a slice of the walk; each counted entry takes at most one read or return more, which the fuel covers. -/
def walkSlice (store : List (Nat × Group)) : Nat → Cursor → Cursor × WalkEnd
  | 0, c => (c, .loop)
  | fuel + 1, c =>
    match c.walkLine store with
    | (d, some x) => (d, x)
    | (d, none) => walkSlice store fuel d

/-- R131: the cursor set up. -/
def setUpCursor (apply : Bool) (s : State) : Cursor :=
  let p := s.rs.pos
  let c : Cursor :=
    { apply := apply
      pendingExcl := p.takesDetour
      advance := s.rs.advance
      mass := (grossMass s.pm).1
      capacity := s.gd.published.capacity
      cooling := s.gd.published.cooling
      ceiling := (speedCeilingButOwner s.ct .governor).value
      w0 := p.c0, w1 := p.c1, w2 := p.c2, w3 := p.c3, ptr := p.next
      cont := match p.detour with
        | .active _ => p.cont
        | _ => none
      firstRem := if s.rs.state = .running then some (p.length - s.rs.index) else none
      steps := 0, distance := 0, heat := s.gd.published.total, total := 0, slice := 0 }
  if s.rs.state = .holding then c.rollover else c

/-! ### APPLY and the answer (R134, R137) -/

/-- R137: metres travelled since the request, through the wrap of the advance count. -/
def travelled (now atRequest : Nat) : Nat := (now + 4294967296 - atRequest) % 4294967296

/-- R137: what becomes of a problem span with APPLY set. -/
inductive Applied where
  | applied (value expiry : Nat)
  | notApplied
  | tooLate
  deriving DecidableEq, Repr

/-- R137: by the governor state and the remaining distance. -/
def applyProblem (p : Problem) (c : Cursor) (s : State) : Applied :=
  let moved := travelled s.rs.advance c.advance
  if !s.dg.state.active then .notApplied
  else if p.distance + p.length ≤ moved then .tooLate
  else .applied p.speed (min 65535 (p.distance + p.length - moved))

/-- R137: the claims on the FORECAST key, and the last apply, that the end of a walk brings about. -/
def State.forecastClaims (s : State) (c : Cursor) : WalkEnd → State
  | .problem p =>
    if c.apply then
      match applyProblem p c s with
      | .applied v x =>
        (s.withDg { s.dg with lastApply := some ⟨v, x, s.rs.advance⟩ }).claim .governorForecast v none
          (some ⟨.distance, x⟩)
      | .notApplied | .tooLate => s
    else s
  | .hold _ _ | .stop =>
    if c.apply then (s.withDg { s.dg with lastApply := none }).release .governorForecast none else s
  | .loop | .slice => s

/-- R134: the end's code: HOLD, STOP, PROBLEM, LOOP or SLICE. -/
def WalkEnd.code : WalkEnd → Nat
  | .hold _ _ => 0 | .stop => 1 | .problem _ => 2 | .loop => 3 | .slice => 4

/-- A hold's kind and its distance, or their absence. -/
def WalkEnd.holdBytes : WalkEnd → List Byte
  | .hold k d => u8 1 ++ u8 k.code ++ u32 d
  | _ => u8 0 ++ u8 0 ++ u32 0

/-- The figures of R133, or their absence. -/
def WalkEnd.problemBytes : WalkEnd → List Byte
  | .problem p =>
    u8 1 ++ u32 p.distance ++ u8 p.group ++ u8 p.pos ++ u16 p.length ++ u32 p.energy ++ u32 p.excess ++ u16 p.speed
  | _ => u8 0 ++ u32 0 ++ u8 0 ++ u8 0 ++ u16 0 ++ u32 0 ++ u32 0 ++ u16 0

/-- The value and the DISTANCE expiry claimed, or their absence. -/
def applyBytes (e : WalkEnd) (c : Cursor) (s : State) : List Byte :=
  let absent := u8 0 ++ u16 0 ++ u16 0
  match e with
  | .problem p =>
    if c.apply then
      match applyProblem p c s with
      | .applied v x => u8 1 ++ u16 v ++ u16 x
      | _ => absent
    else absent
  | _ => absent

/-- The payload of every reply to a walk (R134; log 11). -/
def walkPayload (e : WalkEnd) (c : Cursor) (s : State) : List Byte :=
  u8 e.code ++ u8 c.slice ++ u16 c.total ++ u32 c.distance ++ u32 c.heat ++ flagByte c.pendingExcl ++ e.holdBytes
    ++ e.problemBytes ++ applyBytes e c s

/-- R134: the answer; `clear` is the detail of a walk that found no problem, in a FORECAST. -/
def walkAnswer (e : WalkEnd) (c : Cursor) (clear : Option Detail) (s : State) : Answer :=
  let payload := walkPayload e c s
  match e with
  | .hold _ _ | .stop => ⟨.done, clear, payload⟩
  | .loop => doneAlert .routeLoop payload
  | .slice => ⟨.partly, some .more, payload⟩
  | .problem p =>
    if c.apply then
      match applyProblem p c s with
      | .applied _ _ => doneAlert .applied payload
      | .notApplied => doneAlert .notApplied payload
      | .tooLate => doneAlert .tooLate payload
    else doneAlert .problem payload

/-- R134: the cursor after the reply. -/
def cursorAfter (e : WalkEnd) (c : Cursor) : CursorState :=
  match e with
  | .slice => .opened c
  | _ => .absent

/-- R132 to R137: one slice walked from a cursor, with its claims and its answer. -/
def State.walk (s : State) (c : Cursor) (clear : Option Detail) : State × Answer :=
  let r := walkSlice s.rs.store 32 { c with slice := 0 }
  let t := s.withDg { s.dg with cursor := cursorAfter r.2 r.1 }
  (t.forecastClaims r.1 r.2, walkAnswer r.2 r.1 clear s)

def forecastBody (apply : Nat) (s : State) : State × Answer :=
  match applyOf apply with
  | none => (s, refuseValue .flags)
  | some a => if s.rs.state.counts then s.walk (setUpCursor a s) (some .clear) else (s, refuseState .noRoute)

/-- R131: walk the route ahead and project grid heat. -/
def execForecast (apply : Nat) (s : State) : Out := .next (request .forecast (forecastBody apply) s)

def forecastContinueBody (s : State) : State × Answer :=
  match s.dg.cursor with
  | .absent => (s, staleAnswer .noCursor)
  | .stale _ => (s, staleAnswer .routeChanged)
  | .opened c => s.walk c none

/-- R135: walk the next slice. -/
def execForecastContinue (s : State) : Out := .next (request .forecastContinue forecastContinueBody s)

/-! ### READ_GOVERNOR (R138) -/

/-- The cursor's fields that READ_GOVERNOR gives. -/
def Cursor.bytes (c : Cursor) : List Byte :=
  flagByte c.apply ++ flagByte c.pendingExcl ++ u32 c.advance ++ u16 c.mass ++ u24 c.capacity ++ u16 c.cooling
    ++ u16 c.ceiling ++ u8 c.ptr ++ u32 c.distance ++ u32 c.heat ++ u16 c.total ++ u8 c.slice

/-- The cursor's state and, when OPEN or STALE, its fields. -/
def CursorState.bytes : CursorState → List Byte
  | .absent => u8 0 ++ u8 0 ++ List.replicate 27 0
  | .opened c => u8 1 ++ u8 1 ++ c.bytes
  | .stale c => u8 2 ++ u8 1 ++ c.bytes

/-- The last apply, or its absence. -/
def lastApplyBytes (a : Option Apply) : List Byte :=
  orAbsent (fun x => u16 x.value ++ u16 x.expiry ++ u32 x.advance) ⟨0, 0, 0⟩ a

/-- The payload of READ_GOVERNOR, in the order of R138 (log 11). -/
def governorPayload (s : State) : List Byte :=
  let d := s.dg
  namedByte d.enabled ++ u8 d.state.code ++ u16 d.mass ++ u8 d.source.code ++ optU16 d.sustainable ++ optU8 d.approach
    ++ optU16 d.remaining ++ u16 d.shortCap ++ u16 d.shortLast ++ optU16 d.target ++ optU16 d.claimed ++ u16 d.demand
    ++ lastApplyBytes d.lastApply ++ d.cursor.bytes

/-- R138: read the governor and the forecast cursor. -/
def execReadGovernor (s : State) : Out := .next (request .readGovernor (reading governorPayload) s)

end Sys2Proof.Machine
end

