-- ==== Sys2Proof/Machine/Payload.lean ====
section
/-! DEFINITION. The Payload Monitor's commands (08): CONFIGURE_PAYLOAD, READ_PAYLOAD, the payload sample, the window's
metre events, hold events, and the PL mask. -/

namespace Sys2Proof

/-- The strut loads held to the range of their inputs (R163; log 6). -/
def PayloadPorts.held (x : PayloadPorts) : PayloadPorts :=
  { x with struts := .of fun n => { x.struts.get n with load := min 300 (x.struts.get n).load } }

/-- The sample is void: some strut input shows a fault. -/
def PayloadPorts.void (x : PayloadPorts) : Bool := x.struts.toList.any fun y => !y.healthy

/-- A still sample (R163). -/
def PayloadPorts.still (x : PayloadPorts) (speed : Nat) : Bool := !x.void && decide (speed < 5) && x.body == .down

/-- A moving sample in the window's band (R166). -/
def PayloadPorts.moving (x : PayloadPorts) (speed : Nat) : Bool :=
  !x.void && decide (30 ≤ speed) && decide (speed ≤ 150) && x.body == .down

end Sys2Proof

namespace Sys2Proof.Machine

/-! ### Classes and claims (R167, R168) -/

/-- R167 step 1: the class of a mean against the rated payload. -/
def payloadClass (rated m : Nat) : PayloadClass :=
  if m * 10 < rated then .empty
  else if m ≤ rated then .carry
  else if m * 10 ≤ rated * 11 then .over10
  else if m * 10 ≤ rated * 12 then .over20
  else .overmax

/-- The classes under which the PL condition holds (R167 step 4). -/
def PayloadClass.over : PayloadClass → Bool
  | .over10 | .over20 | .overmax => true
  | .empty | .carry => false

/-- R168: the value called for on the SPEED key. -/
def Pm.speedWanted (p : Pm) : Option Nat :=
  match p.cls with
  | some .over10 => some p.over10Speed
  | some .over20 => some 200
  | some .overmax => some 100
  | _ => none

/-- R168: the value called for on the PROPEL key. -/
def Pm.propelWanted (p : Pm) : Option Nat :=
  match p.cls with
  | some .over20 => some 700
  | some .overmax => some (if p.plMasked then 300 else 0)
  | _ => none

/-- R168: the claim one key calls for, of the value called for against the value last claimed. -/
def State.claimWanted (s : State) (k : Key) (want claimed : Option Nat) : State :=
  match want with
  | some v => if claimed = some v then s else s.claim k v none none
  | none => if claimed.isSome then s.release k (some 20) else s

/-- R168: PM claims its two keys, SPEED and then PROPEL (log 43). -/
def State.claimPayload (s : State) : State :=
  let p := s.pm
  let t := s.claimWanted .payloadSpeed p.speedWanted p.speedClaimed
  (t.claimWanted .payloadPropel p.propelWanted p.propelClaimed).withPm
    { p with speedClaimed := p.speedWanted, propelClaimed := p.propelWanted }

/-- R163: a change of payload state; the still run is set to 0. -/
def Pm.enter (p : Pm) (st : PayloadState) : Pm := { p with state := st, stillSum := 0, stillCount := 0 }

/-- The window discarded. -/
def Pm.clearWindow (p : Pm) : Pm := { p with winSum := 0, winCount := 0, winMetres := 0 }

/-- R167: a latch of the mean `mean`, held to the range of the latched payload (R1, R160). -/
def State.latch (s : State) (mean : Nat) : State :=
  let m := min 1200 mean
  let cls := payloadClass s.pm.rated m
  let was := s.pm.plCond
  let st := if cls = .empty then PayloadState.empty else .latched
  let p := { ((s.pm.enter st).clearWindow) with latched := some m, cls := some cls }
  let t := (s.withPm p).claimPayload
  let u := (t.withPm { t.pm with plCond := cls.over }).handCondition .pl was cls.over
  let v := if st = .latched then u.notify .payloadLatched else u
  v.hand .latchEvent

/-! ### The sample (R163 to R166) -/

/-- The states in which still samples gather: UNKNOWN, EMPTY, LATCHED, and MEASURING once the window has closed. -/
def Pm.gathersStill (p : Pm) : Bool :=
  match p.state with
  | .unknown | .empty | .latched => true
  | .measuring => p.winMetres == 100
  | .loading | .dumping => false

/-- The live payload of a sample that is not void. -/
def Pm.weigh (p : Pm) (x : PayloadPorts) : Nat :=
  let total := (x.struts.toList.map Strut.load).sum
  (hold 0 1200 ((total : Int) - (p.sprung : Int))).toNat

/-- R163: the readings are taken; a void sample leaves the live payload and class. -/
def Pm.read (p : Pm) (x : PayloadPorts) : Pm :=
  let q := { p with struts := x.struts, body := x.body }
  if x.void then q else { q with live := p.weigh x, liveClass := payloadClass p.rated (p.weigh x) }

/-- R163: the still run after this sample. -/
def Pm.gather (p : Pm) (still : Bool) : Pm :=
  if p.gathersStill && still then { p with stillSum := p.stillSum + p.live, stillCount := p.stillCount + 1 }
  else { p with stillSum := 0, stillCount := 0 }

/-- R166: a moving sample in MEASURING adds to the window, held at the widths of R160 (log 28). -/
def Pm.addWindow (p : Pm) (moving : Bool) : Pm :=
  if p.state = .measuring && moving then
    { p with winSum := min (p.winSum + p.live) 4294967295, winCount := min (p.winCount + 1) 65535 }
  else p

/-- R165, R166: what PM does with the mean of a completed still run. -/
def State.stillRun (s : State) (m : Nat) : State :=
  let t := s.withPm { s.pm with stillSum := 0, stillCount := 0 }
  match s.pm.state with
  | .empty | .latched =>
    if s.pm.latched.any (fun l => decide (3 ≤ gap m l)) || s.pm.cls != some (payloadClass s.pm.rated m) then t.latch m
    else t
  | .unknown | .measuring => t.latch m
  | .loading | .dumping => t

/-- R165, R166: the state work of a sample, once the still run and the window have been added to. -/
def State.sampleWork (s : State) (body : Body) : State :=
  let p := s.pm
  if p.stillCount = 40 then s.stillRun (p.stillSum / 40)
  else if p.state = .measuring && p.winMetres == 100 && decide (20 ≤ p.winCount) then s.latch (p.winSum / p.winCount)
  else if p.state = .dumping && p.dumpRelease && body == .down then
    s.withPm { (p.enter .unknown) with dumpRelease := false }
  else s

/-- R163: the payload sample. -/
def execPayloadSample (ports : PayloadPorts) (s : State) : Out :=
  let x := ports.held
  let p := ((s.pm.read x).gather (x.still s.ta.speed)).addWindow (x.moving s.ta.speed)
  .next ((s.withPm p).sampleWork x.body)

/-! ### Metre events, holds, the mask -/

/-- R166: a metre event at PM; only a forward one in MEASURING with the window open does anything. -/
def execWindowMetre (dir : Travel) (s : State) : Out :=
  .next
    (if s.pm.state = .measuring && dir == .forward && decide (s.pm.winMetres < 100) then
      let p := { s.pm with winMetres := s.pm.winMetres + 1 }
      if p.winMetres = 100 && decide (20 ≤ p.winCount) then (s.withPm p).latch (p.winSum / p.winCount) else s.withPm p
    else s)

/-- R164: a hold-reached event at PM. -/
def execHoldReachedAtPm (kind : HoldKind) (s : State) : Out :=
  let enter (st : PayloadState) : State := s.withPm { ((s.pm.enter st).clearWindow) with dumpRelease := false }
  .next
    (match kind with
    | .load => enter .loading
    | .dump => enter .dumping
    | .wait => s)

/-- R164: a hold-left event at PM. -/
def execHoldLeftAtPm (kind : HoldKind) (cause : HoldCause) (s : State) : Out :=
  .next
    (if kind = .wait then s
    else
      match s.pm.state with
      | .loading =>
        if cause = .resume then s.withPm (s.pm.enter .measuring).clearWindow else s.withPm (s.pm.enter .unknown)
      | .dumping =>
        if s.pm.body = .down then s.withPm (s.pm.enter .unknown) else s.withPm { s.pm with dumpRelease := true }
      | _ => s)

/-- R168: PM records the PL mask handed to it and claims its keys. -/
def State.takePlMask (s : State) (masked : Bool) : State := (s.withPm { s.pm with plMasked := masked }).claimPayload

/-- R168: a PL mask event. -/
def execPlMaskEvent (masked : Bool) (s : State) : Out := .next (s.takePlMask masked)

/-! ### Requests -/

/-- R162's table. -/
def configurePayloadChecks (e r sprung v : Nat) (s : State) : List (Bool × Answer) :=
  [ (notDisarmed s, refuseState .armed),
    (decide (e < 50) || decide (400 < e), refuseValue .emptyMass),
    (decide (r < 50) || decide (450 < r), refuseValue .rated),
    (decide (300 < sprung) || decide (e < sprung), refuseValue .sprung),
    (decide (v < 50) || decide (700 < v), refuseValue .speed) ]

def configurePayloadBody (e r sprung v : Nat) (s : State) : State × Answer :=
  checked s (configurePayloadChecks e r sprung v s)
    (s.withPm { s.pm with emptyMass := e, rated := r, sprung := sprung, over10Speed := v, configured := true },
      done (u16 e ++ u16 r ++ u16 sprung ++ u16 v))

/-- R162: set the masses and the OVER10 speed. -/
def execConfigurePayload (e r sprung v : Nat) (s : State) : Out :=
  .next (request .configurePayload (configurePayloadBody e r sprung v) s)

/-- The payload of READ_PAYLOAD, in the order of R169; each strut's load is followed by its health mark, 1 for healthy
and 0 for a fault (log 11). -/
def payloadPayload (s : State) : List Byte :=
  let p := s.pm
  u8 p.state.code ++ flagByte p.dumpRelease ++ optU16 p.latched ++ optU8 (p.cls.map PayloadClass.code)
    ++ (p.struts.toList.flatMap fun x => u16 x.load ++ flagByte x.healthy) ++ u8 (bodyCode p.body) ++ u16 p.live
    ++ u8 p.liveClass.code ++ u32 p.winSum ++ u16 p.winCount ++ u8 p.winMetres ++ u16 p.stillSum ++ u8 p.stillCount
    ++ namedByte p.plCond ++ namedByte p.plMasked ++ optU16 p.speedClaimed ++ optU16 p.propelClaimed
    ++ u16 p.emptyMass ++ u16 p.rated ++ u16 p.sprung ++ u16 p.over10Speed ++ flagByte p.configured

/-- R169: read the payload record. -/
def execReadPayload (s : State) : Out := .next (request .readPayload (reading payloadPayload) s)

end Sys2Proof.Machine
end

