-- ==== Sys2Proof/Machine/Steering.lean ====
section
/-! DEFINITION. The Steering Controller's commands (07): configuration, the envelope table, the assist, the steering
update, and the steering clear that CLEAR_FAULTS for the truck brings about (R150). -/

namespace Sys2Proof

/-- R145: a linkage sensor's angle when it is valid; beyond ±450 it is held. -/
def AnglePort.sensor (x : AnglePort) : Option Int :=
  if !x.fault && decide (-470 ≤ x.angle) && decide (x.angle ≤ 470) then some (hold (-450) 450 x.angle) else none

/-- R145: the operator wheel's angle when it is valid. -/
def AnglePort.operator (x : AnglePort) : Option Int :=
  if !x.fault && decide (-6000 ≤ x.angle) && decide (x.angle ≤ 6000) then some x.angle else none

/-- R152: the max angle of the last row whose speed-from is at or below a speed. -/
def EnvTable.limitAt (t : EnvTable) (speed : Nat) : Nat :=
  ((t.rows.filter fun r => decide (r.speed ≤ speed)).getLast?.getD t.r0).angle

/-- R154: the speed-from of the first row whose max angle is below an angle; 700 when no row's is. -/
def EnvTable.allowedAt (t : EnvTable) (angle : Nat) : Nat :=
  match t.rows.find? fun r => decide (r.angle < angle) with
  | some r => r.speed
  | none => 700

/-- R152: the first row from 1 on that stands in a relation to the row before it. -/
def EnvTable.firstPair (t : EnvTable) (bad : EnvRow → EnvRow → Bool) : Option Nat :=
  ((t.rows.zip t.rows.tail).findIdx? fun p => bad p.1 p.2).map (· + 1)

/-- R152: a well-formed table. -/
def EnvTable.ordered (t : EnvTable) : Bool :=
  t.r0.speed == 0 && (t.firstPair fun a b => decide (b.speed ≤ a.speed)).isNone
    && (t.firstPair fun a b => decide (a.angle < b.angle)).isNone

end Sys2Proof

namespace Sys2Proof.Machine

/-! ### Readings and pressure (R145, R151) -/

/-- R145: the readings of an update; a pressure above 350 bar is taken as 350. -/
def Sc.read (c : Sc) (x : SteerPorts) : Sc :=
  let a := x.sensorA.sensor
  let b := x.sensorB.sensor
  { c with
    sensorA := a, sensorB := b, wheel := x.wheel.operator, pressure := some (min 350 x.pressure)
    measured := a.bind fun p => b.map fun q => divZ (p + q) 2 }

/-- R151: the pressure counts and the pressure low state. -/
def Sc.countPressure (c : Sc) : Sc :=
  let low := decide (c.pressure.getD 0 < c.reserve)
  let lowCount := if low then min 3 (c.lowCount + 1) else 0
  let goodCount := if low then 0 else min 3 (c.goodCount + 1)
  { c with
    lowCount := lowCount, goodCount := goodCount
    pressureLow := if lowCount = 3 then true else if goodCount = 3 then false else c.pressureLow }

/-- Both linkage readings of the last update are valid and differ by 15 or less (R146, R150). -/
def Sc.sensorsAgree (c : Sc) : Bool :=
  match c.sensorA, c.sensorB with
  | some a, some b => decide (mag (a - b) ≤ 15)
  | _, _ => false

/-! ### State work (R146 to R149) -/

/-- R147: the demanded angle and its clamp, which decides between TRACKING and LIMITED. -/
def Sc.demand (c : Sc) (speed : Nat) : Sc :=
  let demanded := match c.wheel with
    | some w => hold (-450) 450 (divZ (w * (c.ratio : Int)) 1000)
    | none => c.demanded
  let limit := c.envelope.limitAt speed
  let clamped := hold (-(limit : Int)) limit demanded
  { c with
    demanded := demanded, clamped := clamped, envLimit := limit
    state := if clamped = demanded then .tracking else .limited }

/-- R147: the valve command, when the measured angle is present. -/
def Sc.drive (c : Sc) : Sc :=
  match c.measured with
  | some m => { c with valve := hold (-1000) 1000 (divZ ((c.gain : Int) * (c.clamped - m)) 10) }
  | none => c

/-- R148: the following check, when the measured angle is present. -/
def Sc.follow (c : Sc) : Sc :=
  match c.measured with
  | some m =>
    if 30 < mag (c.clamped - m) then
      let n := min 25 (c.following + 1)
      { c with following := n, followMark := c.followMark || n == 25 }
    else { c with following := 0, followMark := false }
  | none => c

/-- The valve command, following count and mark, and sensor fault count on entry to ALIGN or DIRECT (R148, R149). -/
def Sc.backup (c : Sc) (st : SteerState) : Sc :=
  { c with state := st, valve := 0, following := 0, followMark := false, sensorFault := 0, agreement := 0 }

/-- R146: the agreement check in ALIGN. -/
def Sc.align (c : Sc) (speed : Nat) : Sc :=
  if c.sensorsAgree && c.wheel.isSome then
    if 5 ≤ c.agreement + 1 then (Sc.demand { c with agreement := 0, following := 0, sensorFault := 0 } speed).drive
    else { c with agreement := c.agreement + 1 }
  else { c with agreement := 0 }

/-- R149: the sensor fault check, then the demand, the valve command and the following check. -/
def Sc.steer (c : Sc) (speed : Nat) : Sc :=
  let n := if c.sensorsAgree && c.wheel.isSome then 0 else c.sensorFault + 1
  if 5 ≤ n then c.backup .direct else ((Sc.demand { c with sensorFault := n } speed).drive).follow

/-- R145 step 3. -/
def Sc.stateWork (c : Sc) (speed : Nat) : Sc :=
  match c.state with
  | .align => c.align speed
  | .tracking | .limited => c.steer speed
  | .direct => c

/-! ### Conditions, record, assist (R151, R154, R155) -/

/-- R151: the ST condition. -/
def Sc.stHolds (c : Sc) : Bool := c.state == .direct || c.followMark

/-- R145 step 4: both conditions are evaluated and their events handed to PU, ST's before SP's (log 31). -/
def State.steerConditions (s : State) : State :=
  let c := s.sc
  let t := s.withSc { c with stCond := c.stHolds, spCond := c.pressureLow }
  (t.handCondition .st c.stCond c.stHolds).handCondition .sp c.spCond c.pressureLow

/-- R154: the envelope angle. -/
def Sc.angleSteered (c : Sc) : Nat :=
  let worse : Nat := match c.sensorA, c.sensorB with
    | some a, some b => max (mag a) (mag b)
    | some a, none => mag a
    | none, some b => mag b
    | none, none => 450
  match c.state, c.measured with
  | .tracking, some m | .limited, some m => mag m
  | _, _ => worse

/-- R154: the envelope angle, the allowed speed, and the record's value under PU's ST and SP flags. -/
def Sc.envelopeValues (c : Sc) (stFlag spFlag : Bool) : Sc :=
  let allowed := c.envelope.allowedAt c.angleSteered
  let v := if c.stCond || stFlag then min 150 allowed else allowed
  { c with envAngle := c.angleSteered, allowed := allowed, value := if c.spCond || spFlag then min 100 v else v }

/-- R154: the claim on the ENVELOPE key. -/
def State.claimEnvelope (s : State) : State :=
  let c := s.sc
  if c.value < 700 then
    if c.claimed = some c.value then s
    else (s.withSc { c with claimed := some c.value }).claim .steeringEnvelope c.value (some c.envRamp) none
  else if c.claimed.isSome then (s.withSc { c with claimed := none }).release .steeringEnvelope none
  else s

/-- R155: the assist aim. -/
def Sc.aimAt (c : Sc) (speed : Nat) : Int :=
  if !c.assistOn || c.state == .align || c.state == .direct || decide (speed < 30) || decide (300 < speed) then 0
  else
    match c.measured with
    | some m => m.sign * (min c.assistMax (c.assistGain * mag m / 10) : Nat)
    | none => 0

/-- R155: the aim and the bias; `live` when S2 and S3 are both LIVE. -/
def Sc.assist (c : Sc) (speed : Nat) (live : Bool) : Sc :=
  let aim := c.aimAt speed
  { c with aim := aim, bias := if live then hold (c.bias - 10) (c.bias + 10) aim else 0 }

/-- The settings as they stand (R142, R152). -/
def Sc.settings (c : Sc) : SteerSettings :=
  { envelope := c.envelope, ratio := c.ratio, gain := c.gain, envRamp := c.envRamp, assistMax := c.assistMax
    reserve := c.reserve, assistOn := c.assistOn, assistGain := c.assistGain, configured := c.configured }

/-- R157: the settings that an update has worked by are the ones READ_STEERING gives until the next update. -/
def Sc.closeUpdate (c : Sc) : Sc := { c with lastUpdate := c.settings }

/-- R145: the steering update, in its own order. -/
def execSteeringUpdate (x : SteerPorts) (s : State) : Out :=
  let speed := s.ta.speed
  let live := s.sm.s2.state == .live && s.sm.s3.state == .live
  let t := (s.withSc (((s.sc.read x).countPressure).stateWork speed)).steerConditions
  let u := (t.withSc (t.sc.envelopeValues s.pu.flags.st s.pu.flags.sp)).claimEnvelope
  .next (u.withSc (u.sc.assist speed live).closeUpdate)

/-- R150: the steering clear; PU takes an ends event at once (R187). -/
def State.steeringClear (s : State) : State :=
  let c := s.sc
  if c.state = .direct && c.sensorsAgree then
    let d := c.backup .align
    (s.withSc { d with stCond := d.stHolds }).takeCondition .st c.stCond d.stHolds
  else s

/-! ### Requests -/

/-- R143's table. -/
def configureSteeringChecks (ratio gain ramp most reserve : Nat) (s : State) : List (Bool × Answer) :=
  [ (notDisarmed s, refuseState .armed),
    (decide (ratio < 20) || decide (200 < ratio), refuseValue .ratio),
    (gain == 0 || decide (200 < gain), refuseValue .gain),
    (badRamp 700 ramp, refuseValue .ramp),
    (decide (150 < most), refuseValue .assistMax),
    (decide (reserve < 20) || decide (200 < reserve), refuseValue .reserve) ]

def configureSteeringBody (ratio gain ramp most reserve : Nat) (s : State) : State × Answer :=
  checked s (configureSteeringChecks ratio gain ramp most reserve s)
    (s.withSc
      { s.sc with
        ratio := ratio, gain := gain, envRamp := ramp, assistMax := most, reserve := reserve, configured := true },
      done (u8 ratio ++ u8 gain ++ u16 ramp ++ u8 most ++ u8 reserve))

/-- R143: set the ratio, gain, envelope ramp, assist maximum and reserve. -/
def execConfigureSteering (ratio gain ramp most reserve : Nat) (s : State) : Out :=
  .next (request .configureSteering (configureSteeringBody ratio gain ramp most reserve) s)

/-- The payload of a refusal that gives a row. -/
def rowBytes (n : Option Nat) : List Byte := u8 (n.getD 0)

/-- R153's table; of several rows at fault the lowest-numbered one is given (log 47). -/
def envelopeChecks (t : EnvTable) : List (Bool × Answer) :=
  let range := t.rows.findIdx? fun r => decide (700 < r.speed) || decide (450 < r.angle)
  let speeds := t.firstPair fun a b => decide (b.speed ≤ a.speed)
  let angles := t.firstPair fun a b => decide (a.angle < b.angle)
  [ (range.isSome, ⟨.refusedValue, some .range, rowBytes range⟩),
    (t.r0.speed != 0, refuseValue .firstRow),
    (speeds.isSome, ⟨.refusedValue, some .speedOrder, rowBytes speeds⟩),
    (angles.isSome, ⟨.refusedValue, some .angleOrder, rowBytes angles⟩) ]

def envelopeBody (t : EnvTable) (s : State) : State × Answer :=
  checked s (envelopeChecks t) (s.withSc { s.sc with envelope := t }, done t.bytes)

/-- R153: replace the envelope table. -/
def execSteerEnvelope (t : EnvTable) (s : State) : Out := .next (request .steerEnvelope (envelopeBody t) s)

def setAssistBody (enable gain : Nat) (s : State) : State × Answer :=
  checked s [((enableOf enable).isNone, refuseValue .enable), (decide (100 < gain), refuseValue .gain)]
    (s.withSc { s.sc with assistOn := (enableOf enable).getD false, assistGain := gain },
      done (u8 enable ++ u8 gain ++ s16 s.sc.bias))

/-- R156: enable or disable the assist and set its gain. -/
def execSetAssist (enable gain : Nat) (s : State) : Out := .next (request .setAssist (setAssistBody enable gain) s)

/-- The payload of READ_STEERING, in the order of R157 (log 11): the settings as the last update left them (log 25). -/
def steeringPayload (s : State) : List Byte :=
  let c := s.sc
  let d := c.lastUpdate
  u8 c.state.code ++ namedByte s.steerDirect ++ optS16 c.sensorA ++ optS16 c.sensorB ++ optS16 c.wheel
    ++ optU16 c.pressure ++ optS16 c.measured ++ s16 c.demanded ++ s16 c.clamped ++ u16 c.envLimit ++ s16 c.valve
    ++ u8 c.agreement ++ u8 c.sensorFault ++ u8 c.following ++ u8 c.lowCount ++ u8 c.goodCount ++ flagByte c.followMark
    ++ namedByte c.stCond ++ namedByte c.spCond ++ u16 c.envAngle ++ u16 c.allowed ++ u16 c.value ++ optU16 c.claimed
    ++ s16 c.aim ++ s16 c.bias ++ u8 d.ratio ++ u8 d.gain ++ u16 d.envRamp ++ u8 d.assistMax ++ u8 d.reserve
    ++ namedByte d.assistOn ++ u8 d.assistGain ++ flagByte d.configured ++ d.envelope.bytes

/-- R157: read the steering controller. -/
def execReadSteering (s : State) : Out := .next (request .readSteering (reading steeringPayload) s)

end Sys2Proof.Machine
end

