-- ==== Sys2Proof/Machine/Protection.lean ====
section
/-! DEFINITION. The Protection Unit's commands (09): report and link-lost judgement, pass arrivals, begins and ends
events, the protection timer, and the requests of 9.7. -/

namespace Sys2Proof.Machine

/-! ### Raise claims (R173, R179) -/

/-- The station's own protection settings (R173): those of its live context, and those of the parked copy once it has
parked, when the live context stands at its defaults (R62; log 44). -/
def State.ownSettings (s : State) (n : Station) : Settings :=
  if (s.puStation n).copy = .parked then (s.station n).parkSlot.getD Settings.default else (s.station n).settings

/-- Whether a raise claim is sent as tripping: the deciding state lets it, and the class escalates under the station's
own mask set. -/
def State.tripsFor (s : State) (n : Station) (st : StationState) (c : StationClass) : Bool :=
  st.tripsHere && (s.ownSettings n).escalates c

/-- R179: a raise claim sent to SM, with the notice of a tripping one. -/
def State.sendRaise (s : State) (n : Station) (c : StationClass) (trips : Bool) : State :=
  State.hand (if trips then s.notifyTrip n else s) (.raiseClaim n c trips)

/-- PU marks a station class as holding or not. -/
def State.markStation (s : State) (n : Station) (c : StationClass) (holds : Bool) : State :=
  s.setPuStation n { s.puStation n with conds := (s.puStation n).conds.put c holds }

/-- R173, R179: a station class begins at a report or link-lost event, unless it held; `tripped` when a claim of the same
report has already been sent as tripping, and whether one has now. -/
def State.beginClass (s : State) (n : Station) (st : StationState) (c : StationClass) (tripped : Bool) : State × Bool :=
  if (s.puStation n).conds.get c then (s, tripped)
  else
    let trips := !tripped && s.tripsFor n st c
    ((s.markStation n c true).sendRaise n c trips, tripped || trips)

/-! ### Reports (R176, R177) -/

/-- R176: IV. -/
def judgeIv (n : Station) (st : StationState) (r : Judged) (s : State) : State × Bool :=
  if r.invFault then s.beginClass n st .iv false else (s.markStation n .iv false, false)

/-- R176: OC; each PEAK_OC claims the OC key anew. -/
def judgeOc (n : Station) (st : StationState) (r : Judged) (x : State × Bool) : State × Bool :=
  if r.peakOc then
    let y := x.1.beginClass n st .oc x.2
    (y.1.claim (.oc n) 500 (some 20) (some ⟨.time, 50⟩), y.2)
  else (x.1.markStation n .oc false, x.2)

/-- R176: the value of a temperature record. -/
def tempValue (t : Int) (warn : Nat) : Nat := (hold 0 1000 (1000 - 25 * (t - (warn : Int)))).toNat

/-- R176: MT. -/
def judgeMt (n : Station) (st : StationState) (r : Judged) (x : State × Bool) : State × Bool :=
  let warn := x.1.pu.motorWarn
  let y := if (warn : Int) ≤ r.motor then x.1.beginClass n st .mt x.2 else x
  let p := y.1.puStation n
  if p.conds.mt then
    if r.motor < (warn : Int) - 5 then
      ((y.1.release (.mt n) none).setPuStation n { p with conds := p.conds.put .mt false, mtClaimed := none }, y.2)
    else if p.mtClaimed = some (tempValue r.motor warn) then y
    else
      ((y.1.claim (.mt n) (tempValue r.motor warn) (some 10) none).setPuStation n
        { p with mtClaimed := some (tempValue r.motor warn) }, y.2)
  else y

/-- R176: IT. -/
def judgeIt (n : Station) (st : StationState) (r : Judged) (x : State × Bool) : State × Bool :=
  let warn := x.1.pu.inverterWarn
  let y := if (warn : Int) ≤ r.inverter then x.1.beginClass n st .it x.2 else x
  let p := y.1.puStation n
  if p.conds.it then
    if r.inverter < (warn : Int) - 5 then
      ((y.1.release (.it n) none).setPuStation n { p with conds := p.conds.put .it false, itClaimed := none }, y.2)
    else if p.itClaimed = some (tempValue r.inverter warn) then y
    else
      ((y.1.claim (.it n) (tempValue r.inverter warn) (some 10) none).setPuStation n
        { p with itClaimed := some (tempValue r.inverter warn) }, y.2)
  else y

/-- R176, R177: a report handed with the state SM held: LK ends, then IV, OC, MT and IT are judged in that order. -/
def State.judgeReport (s : State) (n : Station) (carried : StationState) (r : Judged) : State :=
  (judgeIt n carried r (judgeMt n carried r (judgeOc n carried r (judgeIv n carried r (s.markStation n .lk false))))).1

/-- R176, R177, R179: a report judged. One that was handed before its station parked is judged whole and then leaves
nothing judged of the PARKED station, which is judged afresh once it is restored (log 23). -/
def execReportJudgement (n : Station) (carried : StationState) (r : Judged) (s : State) : Out :=
  let t := s.judgeReport n carried r
  .next (if carried.judged then (if (s.puStation n).copy = .parked then t.ceaseJudging n else t) else s)

/-- R177, R179: a link-lost event; LK begins if it did not hold. A PARKED station keeps no mark of it (log 23). -/
def execLinkLostEvent (n : Station) (carried : StationState) (s : State) : Out :=
  let t := (s.beginClass n carried .lk false).1
  .next
    (if carried.judged then
      (if (s.puStation n).copy = .parked then t.setPuStation n (t.puStation n).unjudged else t)
    else s)

/-! ### Pass arrivals (R178, R182, R184) -/

/-- R178: the surface base. -/
def surfaceBase : Surface → Nat
  | .dry => 150 | .wet => 100 | .slick => 60

/-- R178: a station's slip threshold. -/
def slipThreshold (speed : Nat) (surface : Surface) (scale : Nat) : Nat :=
  max 10 (speed * surfaceBase surface * scale / 100000)

/-- The stations whose slip PU judges: every one but those ABSENT or PARKED in its copy (log 22). -/
def StationState.slipJudged : StationState → Bool
  | .absent | .parked => false
  | _ => true

/-- R178: the slip and clear counts at a mark; no mark counts as clear. -/
def PuStation.count (p : PuStation) (mark : Option Bool) : PuStation :=
  if mark = some true && StationState.slipJudged p.copy then
    { p with slipCount := min 3 (p.slipCount + 1), clearCount := 0 }
  else { p with slipCount := 0, clearCount := min 10 (p.clearCount + 1) }

/-- R178: SL begins at the third slipping pass and ends at the tenth clear one. -/
def State.judgeSlip (s : State) (n : Station) : State :=
  let p := s.puStation n
  if p.slipCount = 3 && !p.conds.sl then
    let t := (s.setPuStation n { p with conds := p.conds.put .sl true, slClaimed := true }).sendRaise n .sl
      (s.tripsFor n p.copy .sl)
    t.claim (.sl n) 300 (some 20) none
  else if p.clearCount = 10 && p.conds.sl then
    (s.setPuStation n { p with conds := p.conds.put .sl false, slClaimed := false }).release (.sl n) none
  else s

/-- R178: one station's slip work and its threshold for the next pass. -/
def State.slipWork (s : State) (n : Station) (mark : Option Bool) (speed : Nat) : State :=
  let t := (s.setPuStation n ((s.puStation n).count mark)).judgeSlip n
  t.setPuStation n
    { t.puStation n with threshold := slipThreshold speed t.rs.surface (t.station n).settings.slip }

/-- R182: the overspeed demand falls to 0 at an arrival at or below the effective speed ceiling. -/
def State.dropDemand (s : State) (speed : Nat) : State :=
  if s.pu.osDemand = 1000 && decide (speed ≤ (speedCeiling s.ct).value) then s.withPu { s.pu with osDemand := 0 } else s

/-- R182: the OS count, the OS condition and the overspeed demand. -/
def State.overspeedWork (s : State) (speed : Nat) : State :=
  match s.pu.osRef with
  | none => (s.dropDemand speed).withPu { (s.dropDemand speed).pu with osCount := 0 }
  | some ref =>
    let t := s.dropDemand speed
    if ref + 30 < speed then
      let n := min 5 (t.pu.osCount + 1)
      let u := t.withPu { t.pu with osCount := n }
      if n = 5 && !u.pu.conds.os then (u.truckBegins .os).withPu { (u.truckBegins .os).pu with osDemand := 1000 } else u
    else t.withPu { t.pu with osCount := 0, conds := { t.pu.conds with os := false } }

/-- R184: the stopped count. -/
def State.stoppedWork (s : State) (speed : Nat) : State :=
  if s.pu.level = .safeStop then
    if speed < 5 then
      if 100 ≤ s.pu.stopped + 1 then s.withPu { s.pu with level := .stoppedSafe, stopped := 0 }
      else s.withPu { s.pu with stopped := s.pu.stopped + 1 }
    else s.withPu { s.pu with stopped := 0 }
  else s

/-- R172, R178: a pass arrival. -/
def execPassArrival (marks : PerStation (Option Bool)) (speed : Nat) (s : State) : Out :=
  .next (((Station.all.foldl (fun t n => t.slipWork n (marks.get n) speed) s).overspeedWork speed).stoppedWork speed)

/-! ### Truck conditions and the protection timer (R180, R181) -/

/-- R180: a begins event. The cause that a route fault names is not kept: PU holds none of it (R172; log 29). -/
def execTruckConditionBegins (b : ConditionBegin) (s : State) : Out := .next (s.beginsEvent b.cls)

/-- R180: an ends event. -/
def execTruckConditionEnds (c : HandedClass) (s : State) : Out := .next (s.endsEvent c)

/-- R181: the overspeed reference against the effective speed ceiling. -/
def trailed (ref : Option Nat) (ceiling : Nat) : Nat :=
  match ref with
  | none => ceiling
  | some r => if r < ceiling then ceiling else max ceiling (r - 2)

/-- R181: the protection timer. -/
def execProtectionTimer (s : State) : Out :=
  .next (s.withPu { s.pu with osRef := some (trailed s.pu.osRef (speedCeiling s.ct).value) })

/-! ### CONFIGURE_PROTECTION (R175) -/

def configureProtectionBody (motor inverter : Nat) (s : State) : State × Answer :=
  checked s
    [ (notDisarmed s, refuseState .armed),
      (decide (motor < 80) || decide (200 < motor), refuseValue .motorWarn),
      (decide (inverter < 50) || decide (120 < inverter), refuseValue .inverterWarn) ]
    (s.withPu { s.pu with motorWarn := motor, inverterWarn := inverter, configured := true }, done (u8 motor ++ u8 inverter))

/-- R175: set the warning temperatures. -/
def execConfigureProtection (motor inverter : Nat) (s : State) : Out :=
  .next (request .configureProtection (configureProtectionBody motor inverter) s)

/-! ### CLEAR_FAULTS (R186, R187) -/

/-- R186: the station state and flags after the request. -/
def State.stationFlagBytes (s : State) (n : Station) : List Byte :=
  u8 (stationStateCode (s.station n).state) ++ u16 (s.station n).settings.flags.code

/-- R186: the answer, from the state before the request and the station after it. -/
def clearStationAnswer (before : StationState) (x : StationCtx) (payload : List Byte) : Answer :=
  if before = .tripped && x.state == .tripped then doneAlert .stillTripped payload
  else if x.settings.flags.any then doneAlert .conditionsPresent payload
  else done payload

def clearStation (n : Station) (s : State) : State × Answer :=
  let t := s.takeClear n ((s.station n).settings.flags.minus (s.puStation n).conds)
  checked s [((s.station n).state == .parked, refuseState .parked)]
    (t, clearStationAnswer (s.station n).state (t.station n) (t.stationFlagBytes n))

/-- R187: the level, the truck flags and the condition marks after the request. -/
def State.truckFlagBytes (s : State) : List Byte :=
  u8 s.pu.level.code ++ u16 s.pu.flags.code ++ u16 s.pu.conds.code

/-- R187 steps 2 and 3. -/
def State.clearTruckFlags (s : State) : State :=
  let t := s.withPu { s.pu with flags := s.pu.flags.inter s.pu.conds }
  if t.pu.level = .stoppedSafe && !stopping t.pu.flags t.pu.masks then
    (t.withPu { t.pu with level := .normal }).release .safe none
  else t

/-- R187: the answer. -/
def clearTruckAnswer (stopped started : Bool) (s : State) : Answer :=
  if stopped && stopping s.pu.flags s.pu.masks then doneAlert .stillStopped s.truckFlagBytes
  else if started then doneAlert .checkStarted s.truckFlagBytes
  else if s.pu.flags.any then doneAlert .conditionsPresent s.truckFlagBytes
  else done s.truckFlagBytes

def clearTruck (s : State) : State × Answer :=
  let g := s.gridClear
  let t := g.1.steeringClear.clearTruckFlags
  checked s [(s.pu.level == .safeStop, refuseState .moving)] (t, clearTruckAnswer (s.pu.level == .stoppedSafe) g.2 t)

/-- R186: a target byte of 0 to 3 names a station, 4 TRUCK (R204; log 34). -/
def clearFaultsBody (target : Nat) (s : State) : State × Answer :=
  match stationOf target with
  | some n => clearStation n s
  | none => if target = 4 then clearTruck s else (s, refuseValue .target)

/-- R186: clear the station flags whose conditions have gone. -/
def execClearFaultsStation (target : Nat) (s : State) : Out := .next (request .clearFaults (clearFaultsBody target) s)

/-- R187: clear the truck flags and end a completed safe stop. -/
def execClearFaultsTruck (s : State) : Out := .next (request .clearFaults clearTruck s)

/-! ### SET_MASK (R188, R189) -/

/-- R188: the mask set of a station. -/
def setStationMask (n : Station) (set : Nat) (s : State) : State × Answer :=
  let x := s.station n
  let m := (stationMaskOf set).getD x.settings.mask
  let t := s.setStation n { x with settings := { x.settings with mask := m } }
  checked s
    [ ((stationMaskOf set).isNone, refuseValue .mask),
      (x.state == .tripped, refuseState .tripped),
      (x.state == .parked, refuseState .parked) ]
    (match newlyEscalated x.settings.mask m x.settings.flags with
    | c :: _ => (t.sendRaise n c true, doneAlert .escalated [])
    | [] => (t, done []))

/-- A truck mask set written, with the PL mask handed to PM at the request when it changes (R189, R190). -/
def State.writeTruckMasks (s : State) (m : TruckSet) : State :=
  let t := s.withPu { s.pu with masks := m }
  if s.pu.masks.pl = m.pl then t else t.takePlMask m.pl

/-- R189: the classes other than PL that a request unmasks and whose flag is set. -/
def newlyStopping (old new flags : TruckSet) : Bool := stopping (flags.inter old) new

/-- R189: the mask set of the truck. -/
def setTruckMask (set : Nat) (s : State) : State × Answer :=
  let m := (truckMaskOf set).getD s.pu.masks
  let up := newlyStopping s.pu.masks m s.pu.flags
  let t := s.withPu { s.pu with masks := m }
  let u := if up then t.safeStop else t
  checked s [((truckMaskOf set).isNone, refuseValue .mask), (s.pu.level != .normal, refuseState .level)]
    (if s.pu.masks.pl = m.pl then u else u.takePlMask m.pl, if up then doneAlert .escalated [] else done [])

/-- A target byte of 0 to 3 names a station, 4 TRUCK (R204; log 34). -/
def setMaskBody (target set : Nat) (s : State) : State × Answer :=
  match stationOf target with
  | some n => setStationMask n set s
  | none => if target = 4 then setTruckMask set s else (s, refuseValue .target)

/-- R188: set a station's mask set. -/
def execSetMaskStation (target set : Nat) (s : State) : Out := .next (request .setMask (setMaskBody target set) s)

/-- R189: set the truck's mask set. -/
def execSetMaskTruck (set : Nat) (s : State) : Out := .next (request .setMask (setTruckMask set) s)

/-! ### PROTECTION_INIT and READ_PROTECTION (R190, R191) -/

def protectionInitBody (s : State) : State × Answer :=
  let t := s.withPu
    { s.pu with flags := TruckSet.none, osRef := some (speedCeiling s.ct).value, osCount := 0, osDemand := 0 }
  checked s [(s.pu.level != .normal, refuseState .level), (decide (5 ≤ s.ta.speed), refuseState .moving)]
    (t.writeTruckMasks TruckSet.defaultMasks, done [])

/-- R190: return the truck context to its defaults. -/
def execProtectionInit (s : State) : Out := .next (request .protectionInit protectionInitBody s)

/-- One station in the payload of READ_PROTECTION; SL claimed is 0 for present and 1 for absent (log 11). -/
def State.puStationBytes (s : State) (n : Station) : List Byte :=
  let p := s.puStation n
  let x := (s.station n).settings
  u8 (stationStateCode p.copy) ++ u16 x.mask.code ++ u16 x.flags.code ++ u16 p.conds.code ++ u8 p.slipCount
    ++ u8 p.clearCount ++ u16 p.threshold ++ optU16 p.mtClaimed ++ optU16 p.itClaimed ++ namedByte p.slClaimed

/-- The payload of READ_PROTECTION, in the order of R191; the FAULT line is 0 for asserted and 1 for deasserted (log 11). -/
def protectionPayload (s : State) : List Byte :=
  let p := s.pu
  u8 p.level.code ++ u8 p.stopped ++ namedByte s.faultLine ++ u16 p.masks.code ++ u16 p.flags.code ++ u16 p.conds.code
    ++ optU16 p.osRef ++ u8 p.osCount ++ u16 p.osDemand ++ Station.all.flatMap s.puStationBytes ++ u8 p.motorWarn
    ++ u8 p.inverterWarn ++ flagByte p.configured

/-- R191: read the protection context. -/
def execReadProtection (s : State) : Out := .next (request .readProtection (reading protectionPayload) s)

end Sys2Proof.Machine
end

