-- ==== Sys2Proof/Machine/Link.lean ====
section
/-! DEFINITION. The Supervisory Link's commands (10): IDENTIFY, READ_NOTICES, CANCEL, the two resets, raw frames that are
malformed or taken while the link is busy, and read transactions. -/

namespace Sys2Proof.Machine

/-! ### IDENTIFY and READ_NOTICES (R200, R201) -/

/-- R201: vendor code, part code, and the revision as one byte (log 11). -/
def identifyPayload (_s : State) : List Byte := [0x3A, 0x71, 0x44, 0x20, 0x01]

/-- R201: read the part's codes. -/
def execIdentify (s : State) : Out := .next (request .identify (reading identifyPayload) s)

/-- The notice set as two bytes (R204). -/
def NoticeSet.code (x : NoticeSet) : Nat :=
  bitValue x.routeEnded 0 + bitValue x.detourTaken 1 + bitValue x.detourDone 2 + bitValue x.segmentMark 3
    + bitValue x.holdReached 4 + bitValue x.routeFaulted 5 + bitValue x.stationTrip 6 + bitValue x.safeStop 7
    + bitValue x.bankFailed 8 + bitValue x.payloadLatched 9 + bitValue x.recordRetired 10

/-- The payload of READ_NOTICES (R204). -/
def noticesPayload (s : State) : List Byte :=
  let l := s.sl
  u16 l.notices.code ++ u8 (PerStation.code l.tripSet) ++ u8 (l.retired.length + bitValue l.overflow 7)
    ++ l.retired.flatMap handleBytes

/-- The notice set, the station set and the retired-handle list empty, and the overflow mark clear (R200). -/
def State.clearNotices (s : State) : State :=
  s.withSl { s.sl with notices := NoticeSet.none, tripSet := .fill false, retired := [], overflow := false }

/-- R200: take the pending notices and retired handles. -/
def execReadNotices (s : State) : Out :=
  .next (request .readNotices (fun t => (t.clearNotices, done (noticesPayload t))) s)

/-! ### CANCEL (R196) -/

/-- R196: a well-formed CANCEL, by what is in flight. -/
def execCancel (s : State) : Out :=
  let t := s.takeFrame
  .next
    (match s.sl.inFlight with
    | some .arm => t.cancelArm
    | some (.park n) => t.cancelPark n
    | none => t.reply (some .cancel) (refuseState .nothingInFlight))

/-! ### Resets (R202, R203, and each chapter's own rule) -/

/-- R72: the events not yet taken that outlive a reset: PU's raise and clear claims (log 3). -/
def outlivesReset : Instr → Bool
  | .raiseClaim _ _ _ | .clearClaim _ _ => true
  | _ => false

/-- R27: every slot FREE, keeping its generation. -/
def Slot.softReset (x : Slot) : Slot := { x with entry := .free }

/-- R51; READ_ALLOCATION gives the kept DRIVE group until the next pass (log 25). -/
def Ta.softReset (t : Ta) : Ta :=
  { Ta.reset with
    weights := t.weights, slew := t.slew, configured := t.configured
    lastPass := ⟨.disarmed, t.weights, t.slew, t.configured⟩ }

/-- R93: heat, the GRID values and the mark are kept, and the figures are published from what the reset leaves. -/
def Gd.softReset (g : Gd) : Gd :=
  let h : Gd :=
    { Gd.reset with
      banks := .of fun k => { BankRec.reset with heat := (g.banks.get k).heat }
      cfg := g.cfg, configured := g.configured }
  { h with published := h.figures }

/-- R117 -/
def Rs.softReset (r : Rs) : Rs := { Rs.reset with store := r.store }

/-- R159; READ_STEERING gives the kept settings until the next update (log 25). -/
def Sc.softReset (c : Sc) : Sc :=
  { Sc.reset with
    envelope := c.envelope, ratio := c.ratio, gain := c.gain, envRamp := c.envRamp, assistMax := c.assistMax
    reserve := c.reserve, assistOn := c.assistOn, assistGain := c.assistGain, configured := c.configured
    lastUpdate := c.settings }

/-- R171 -/
def Pm.softReset (p : Pm) : Pm :=
  { Pm.reset with
    emptyMass := p.emptyMass, rated := p.rated, sprung := p.sprung, over10Speed := p.over10Speed
    configured := p.configured }

/-- R192 -/
def Pu.softReset (p : Pu) : Pu :=
  { Pu.reset with motorWarn := p.motorWarn, inverterWarn := p.inverterWarn, configured := p.configured }

/-- R202: SL empties its notices and the busy-seen mark; the reply slot and the overrun mark are kept. -/
def Sl.softReset (l : Sl) : Sl :=
  { l with notices := NoticeSet.none, tripSet := .fill false, retired := [], overflow := false, busySeen := false }

/-- R202: every block takes its SOFT_RESET values. -/
def State.softReset (s : State) : State :=
  { s with
    ct := s.ct.map Slot.softReset
    ta := s.ta.softReset
    sm := .fill StationCtx.reset
    gd := s.gd.softReset
    rs := s.rs.softReset
    dg := Dg.reset
    sc := s.sc.softReset
    pm := s.pm.softReset
    pu := s.pu.softReset
    sl := s.sl.softReset
    handed := s.handed.filter outlivesReset }

def softResetBody (s : State) : State × Answer :=
  checked s [(s.ta.state.armed, refuseState .armed), (decide (5 ≤ s.ta.speed), refuseState .moving)]
    (s.softReset, done [])

/-- R202: return the part to its start values, keeping configuration. -/
def execSoftReset (s : State) : Out := .next (request .softReset softResetBody s)

/-- R203 and the reset rule of each chapter: the RESET pin. The queue of waiting commands stands outside the part. -/
def execHardReset (s : State) : Out :=
  .next { State.reset with handed := s.handed.filter outlivesReset, free := s.free, pending := s.pending }

/-! ### Write transactions (R193, R195) -/

/-- The detail of a malformed frame. -/
def frameDetail : FrameFault → Detail
  | .length => .length
  | .crc => .crc
  | .code => .code

/-- R193, R195: a write transaction's bytes. While the link is busy any frame but a well-formed CANCEL is discarded;
otherwise a malformed one is answered without being executed. A well-formed frame is the command it spells, which has
its own row: under a raw-frame row nothing is done with it (log 10). -/
def State.takeRawFrame (s : State) (frame : List Byte) (cut : Bool) : State :=
  match judgeFrame frame cut with
  | .malformed f =>
    if s.sl.inFlight.isSome then s.discardFrame else s.takeFrame.reply none ⟨.malformed, some (frameDetail f), []⟩
  | .request i => if s.sl.inFlight.isSome && i != .cancel then s.discardFrame else s

/-! ### Read transactions (R194) -/

/-- The bytes shifted out: the frame's, then free ones (log 15). -/
def shiftedOut (frame : List Byte) (clocked free : Nat) : List Byte :=
  frame.take clocked ++ (List.range (clocked - frame.length)).map (Config.freeByte free)

/-- R194: a read transaction in which `clocked` bytes are clocked after the type byte. -/
def State.readReply (s : State) (clocked : Nat) : State :=
  match s.sl.slot with
  | none => s.withSl { s.sl with shifted := List.replicate clocked 0xFF }
  | some r =>
    let frame := r.frame
    let t := s.withSl
      { s.sl with
        shifted := shiftedOut frame clocked s.free
        slot := if frame.length ≤ clocked then none else s.sl.slot }
    if frame.length < clocked then t.withFree (s.free + 1) else t

/-- R194: the reply slot read. -/
def execReplyRead (clocked : Nat) (s : State) : Out := .next (s.readReply clocked)

/-! ### Transactions by their first byte (R193) -/

/-- R193: what a transaction is, by its type byte, with the bytes that follow it. -/
inductive Transaction where
  | write (frame : List Byte)
  | read (clocked : Nat)
  | disregarded
  deriving DecidableEq, Repr

/-- R193: the type byte read. A transaction in which no whole byte was clocked has none, and is disregarded (log 10). -/
def transactionOf : List Byte → Transaction
  | 0x5A#8 :: frame => .write frame
  | 0xA5#8 :: rest => .read rest.length
  | _ => .disregarded

/-- R193: a transaction; one that is disregarded changes nothing. -/
def State.takeTransaction (s : State) (bytes : List Byte) (cut : Bool) : State :=
  match transactionOf bytes with
  | .write frame => s.takeRawFrame frame cut
  | .read clocked => s.readReply clocked
  | .disregarded => s

/-- R193: a transaction that does not carry a request to execute. -/
def execMalformedFrame (bytes : List Byte) (cut : Bool) (s : State) : Out := .next (s.takeTransaction bytes cut)

/-- R195: the same, taken while the link is busy. -/
def execFrameDiscardedBusy (bytes : List Byte) (cut : Bool) (s : State) : Out := .next (s.takeTransaction bytes cut)

end Sys2Proof.Machine
end

