-- ==== Sys2Proof/Machine/Dispatch.lean ====
section
/-! DEFINITION. One arm for each command: the meaning it runs. -/

namespace Sys2Proof.Machine

def exec (i : Instr) (s : State) : Host.Outcome State Fault Refusal :=
  match i with
  | .identify => Sys2Proof.Machine.execIdentify s
  | .readNotices => Sys2Proof.Machine.execReadNotices s
  | .cancel => Sys2Proof.Machine.execCancel s
  | .softReset => Sys2Proof.Machine.execSoftReset s
  | .hardReset => Sys2Proof.Machine.execHardReset s
  | .malformedFrame bytes cut => Sys2Proof.Machine.execMalformedFrame bytes cut s
  | .frameDiscardedBusy bytes cut => Sys2Proof.Machine.execFrameDiscardedBusy bytes cut s
  | .replyRead clocked => Sys2Proof.Machine.execReplyRead clocked s
  | .placeCeiling r => Sys2Proof.Machine.execPlaceCeiling r s
  | .amendCeiling r => Sys2Proof.Machine.execAmendCeiling r s
  | .retireCeiling slot gen => Sys2Proof.Machine.execRetireCeiling slot gen s
  | .queryCeiling slot gen => Sys2Proof.Machine.execQueryCeiling slot gen s
  | .listCeilings filter start => Sys2Proof.Machine.execListCeilings filter start s
  | .readEffective => Sys2Proof.Machine.execReadEffective s
  | .configureDrive weights slew => Sys2Proof.Machine.execConfigureDrive weights slew s
  | .arm => Sys2Proof.Machine.execArm s
  | .disarm => Sys2Proof.Machine.execDisarm s
  | .readAllocation => Sys2Proof.Machine.execReadAllocation s
  | .parkStation station => Sys2Proof.Machine.execParkStation station s
  | .restoreStation station => Sys2Proof.Machine.execRestoreStation station s
  | .rearmStation station => Sys2Proof.Machine.execRearmStation station s
  | .readStationContext station => Sys2Proof.Machine.execReadStationContext station s
  | .writeParkedContext r => Sys2Proof.Machine.execWriteParkedContext r s
  | .configureGrid r => Sys2Proof.Machine.execConfigureGrid r s
  | .setBankOrder order => Sys2Proof.Machine.execSetBankOrder order s
  | .readGrid => Sys2Proof.Machine.execReadGrid s
  | .profileWrite group d0 d1 d2 d3 => Sys2Proof.Machine.execProfileWrite group d0 d1 d2 d3 s
  | .profileRead group => Sys2Proof.Machine.execProfileRead group s
  | .routeStart group first offset => Sys2Proof.Machine.execRouteStart group first offset s
  | .routeStop => Sys2Proof.Machine.execRouteStop s
  | .insertDetour group => Sys2Proof.Machine.execInsertDetour group s
  | .abortDetour => Sys2Proof.Machine.execAbortDetour s
  | .resume => Sys2Proof.Machine.execResume s
  | .readRoute => Sys2Proof.Machine.execReadRoute s
  | .governorMode mode => Sys2Proof.Machine.execGovernorMode mode s
  | .forecast apply => Sys2Proof.Machine.execForecast apply s
  | .forecastContinue => Sys2Proof.Machine.execForecastContinue s
  | .readGovernor => Sys2Proof.Machine.execReadGovernor s
  | .configureSteering ratio gain ramp assistMax reserve => Sys2Proof.Machine.execConfigureSteering ratio gain ramp assistMax reserve s
  | .steerEnvelope table => Sys2Proof.Machine.execSteerEnvelope table s
  | .setAssist enable gain => Sys2Proof.Machine.execSetAssist enable gain s
  | .readSteering => Sys2Proof.Machine.execReadSteering s
  | .configurePayload emptyMass rated sprung over10 => Sys2Proof.Machine.execConfigurePayload emptyMass rated sprung over10 s
  | .readPayload => Sys2Proof.Machine.execReadPayload s
  | .configureProtection motorWarn inverterWarn => Sys2Proof.Machine.execConfigureProtection motorWarn inverterWarn s
  | .clearFaultsStation target => Sys2Proof.Machine.execClearFaultsStation target s
  | .clearFaultsTruck => Sys2Proof.Machine.execClearFaultsTruck s
  | .setMaskStation target mask => Sys2Proof.Machine.execSetMaskStation target mask s
  | .setMaskTruck mask => Sys2Proof.Machine.execSetMaskTruck mask s
  | .protectionInit => Sys2Proof.Machine.execProtectionInit s
  | .readProtection => Sys2Proof.Machine.execReadProtection s
  | .allocationPass ports => Sys2Proof.Machine.execAllocationPass ports s
  | .grantHandover hands travel => Sys2Proof.Machine.execGrantHandover hands travel s
  | .powerArrival power dcLink => Sys2Proof.Machine.execPowerArrival power dcLink s
  | .passArrival marks speed => Sys2Proof.Machine.execPassArrival marks speed s
  | .forwardMetreEvent => Sys2Proof.Machine.execForwardMetreEvent s
  | .reverseMetreEvent => Sys2Proof.Machine.execReverseMetreEvent s
  | .distanceExpiryCount dir => Sys2Proof.Machine.execDistanceExpiryCount dir s
  | .windowMetre dir => Sys2Proof.Machine.execWindowMetre dir s
  | .tableTimer => Sys2Proof.Machine.execTableTimer s
  | .recordExpiry slot => Sys2Proof.Machine.execRecordExpiry slot s
  | .setClaim key value ramp expiry => Sys2Proof.Machine.execSetClaim key value ramp expiry s
  | .retireClaim key ramp => Sys2Proof.Machine.execRetireClaim key ramp s
  | .gridTimer ports => Sys2Proof.Machine.execGridTimer ports s
  | .bankCurrentSeen bank => Sys2Proof.Machine.execBankCurrentSeen bank s
  | .checkTimerExpiry bank => Sys2Proof.Machine.execCheckTimerExpiry bank s
  | .armingEvent => Sys2Proof.Machine.execArmingEvent s
  | .reportFrame link bytes => Sys2Proof.Machine.execReportFrame link bytes s
  | .reportDeadlineExpiry station => Sys2Proof.Machine.execReportDeadlineExpiry station s
  | .parkTimerExpiry station => Sys2Proof.Machine.execParkTimerExpiry station s
  | .reportJudgement station carried report => Sys2Proof.Machine.execReportJudgement station carried report s
  | .linkLostEvent station carried => Sys2Proof.Machine.execLinkLostEvent station carried s
  | .raiseClaim station cls trips => Sys2Proof.Machine.execRaiseClaim station cls trips s
  | .clearClaim station flags => Sys2Proof.Machine.execClearClaim station flags s
  | .truckConditionBegins cls => Sys2Proof.Machine.execTruckConditionBegins cls s
  | .truckConditionEnds cls => Sys2Proof.Machine.execTruckConditionEnds cls s
  | .protectionTimer => Sys2Proof.Machine.execProtectionTimer s
  | .governorUpdate => Sys2Proof.Machine.execGovernorUpdate s
  | .holdReachedAtDg kind => Sys2Proof.Machine.execHoldReachedAtDg kind s
  | .holdLeftAtDg kind cause => Sys2Proof.Machine.execHoldLeftAtDg kind cause s
  | .routeEditEvent => Sys2Proof.Machine.execRouteEditEvent s
  | .latchEvent => Sys2Proof.Machine.execLatchEvent s
  | .steeringUpdate ports => Sys2Proof.Machine.execSteeringUpdate ports s
  | .payloadSample ports => Sys2Proof.Machine.execPayloadSample ports s
  | .holdReachedAtPm kind => Sys2Proof.Machine.execHoldReachedAtPm kind s
  | .holdLeftAtPm kind cause => Sys2Proof.Machine.execHoldLeftAtPm kind cause s
  | .plMaskEvent masked => Sys2Proof.Machine.execPlMaskEvent masked s

end Sys2Proof.Machine
end

