-- ==== Sys2Proof/Safety.lean ====
section
/-! DEFINITION. What the statements speak of: the state after a reply, the blocks a command may change, and the invariants
that every step keeps. -/

namespace Sys2Proof.Machine

/-! ### Replies -/

/-- No request is in flight, so the link takes frames (R195). -/
def State.linkFree (s : State) : Prop := s.sl.inFlight = none

/-- R194: `u` with a reply placed whose header has the given busy and overrun flags. -/
def placed (u : State) (busy overrun : Bool) (q : Option Req) (a : Answer) : State :=
  { u with
    sl :=
      { u.sl with
        slot := some
          { req := q, cls := a.cls, detail := a.detail, attn := u.attn, busy := busy, overrun := overrun
            level := u.pu.level, payload := a.payload }
        busySeen := false, overrun := false } }

/-- R193, R194: the request's frame was taken in `s`, its effects gave `u`, and its answer is placed. -/
def replied (s u : State) (q : Req) (a : Answer) : State :=
  placed { u with sl := { u.sl with receiving := [] } } s.sl.busySeen (s.sl.overrun || s.sl.slot.isSome) (some q) a

/-- R194, R195: the request in flight in `s` is answered after the effects that gave `u`. -/
def answered (s u : State) (q : Req) (a : Answer) : State :=
  placed { u with sl := { u.sl with inFlight := none } } s.sl.busySeen s.sl.overrun (some q) a

/-! ### Blocks -/

/-- The ten blocks. -/
inductive Block where
  | ct | ta | sm | gd | rs | dg | sc | pm | pu | sl
  deriving DecidableEq, Repr

/-- The blocks whose state a command may change. -/
def touched : Instr → List Block
  | .softReset | .hardReset => [.ct, .ta, .sm, .gd, .rs, .dg, .sc, .pm, .pu, .sl]
  | .cancel => [.ta, .sm, .pu, .sl]
  | .placeCeiling _ | .amendCeiling _ | .retireCeiling _ _ | .distanceExpiryCount _ | .tableTimer | .recordExpiry _ =>
    [.ct, .sl]
  | .setClaim _ _ _ _ | .retireClaim _ _ => [.ct]
  | .configureDrive _ _ => [.ta, .sl]
  | .arm => [.ct, .ta, .gd, .sl]
  | .disarm => [.ta, .sm, .pu, .sl]
  | .parkStation _ | .restoreStation _ | .rearmStation _ => [.sm, .pu, .sl]
  | .writeParkedContext _ => [.sm, .sl]
  | .configureGrid _ | .setBankOrder _ => [.gd, .sl]
  | .profileWrite _ _ _ _ _ | .routeStart _ _ _ | .routeStop | .insertDetour _ | .abortDetour | .resume
  | .forwardMetreEvent | .reverseMetreEvent => [.rs, .sl]
  | .governorMode _ | .forecast _ | .forecastContinue => [.ct, .dg, .sl]
  | .configureSteering _ _ _ _ _ | .steerEnvelope _ | .setAssist _ _ => [.sc, .sl]
  | .configurePayload _ _ _ _ => [.pm, .sl]
  | .configureProtection _ _ => [.pu, .sl]
  | .clearFaultsStation _ => [.ct, .sm, .gd, .sc, .pu, .sl]
  | .clearFaultsTruck => [.ct, .gd, .sc, .pu, .sl]
  | .setMaskStation _ _ => [.ct, .sm, .pm, .pu, .sl]
  | .setMaskTruck _ | .protectionInit => [.ct, .pm, .pu, .sl]
  | .allocationPass _ => [.ta, .sm, .gd]
  | .grantHandover _ _ | .armingEvent | .clearClaim _ _ => [.sm, .pu]
  | .powerArrival _ _ | .gridTimer _ => [.ct, .gd]
  | .bankCurrentSeen _ | .checkTimerExpiry _ => [.ct, .ta, .gd, .sl]
  | .passArrival _ _ | .reportJudgement _ _ _ | .truckConditionBegins _ => [.ct, .pu, .sl]
  | .reportFrame _ _ | .parkTimerExpiry _ | .raiseClaim _ _ _ => [.ct, .sm, .pu, .sl]
  | .reportDeadlineExpiry _ => [.sm]
  | .linkLostEvent _ _ => [.pu, .sl]
  | .truckConditionEnds _ | .protectionTimer => [.pu]
  | .governorUpdate | .holdReachedAtDg _ => [.ct, .dg]
  | .holdLeftAtDg _ _ => []
  | .routeEditEvent | .latchEvent => [.dg]
  | .steeringUpdate _ => [.ct, .sc]
  | .windowMetre _ | .payloadSample _ => [.ct, .pm, .sl]
  | .holdReachedAtPm _ | .holdLeftAtPm _ _ => [.pm]
  | .plMaskEvent _ => [.ct, .pm]
  | .identify | .readNotices | .malformedFrame _ _ | .frameDiscardedBusy _ _ | .replyRead _ | .queryCeiling _ _
  | .listCeilings _ _ | .readEffective | .readAllocation | .readStationContext _ | .readGrid | .profileRead _
  | .readRoute | .readGovernor | .readSteering | .readPayload | .readProtection => [.sl]

/-- A block's state is the same in both. -/
def sameBlock (b : Block) (s t : State) : Prop :=
  match b with
  | .ct => t.ct = s.ct
  | .ta => t.ta = s.ta
  | .sm => t.sm = s.sm
  | .gd => t.gd = s.gd
  | .rs => t.rs = s.rs
  | .dg => t.dg = s.dg
  | .sc => t.sc = s.sc
  | .pm => t.pm = s.pm
  | .pu => t.pu = s.pu
  | .sl => t.sl = s.sl

/-- The commands that act on a supervisor's record where it stands: an amendment or a retirement, a ramp step or a
countdown, an expiry, a reset. -/
def actsOnSupervisorRecords : Instr → Bool
  | .amendCeiling _ | .retireCeiling _ _ | .tableTimer | .distanceExpiryCount _ | .recordExpiry _ | .softReset
  | .hardReset => true
  | _ => false

/-! ### The ceiling table (R3 to R6) -/

/-- The record a slot keeps meets R5 and R6, and R11 when it is FADING. -/
def CeilingRecord.legal (r : CeilingRecord) (fading : Bool) : Prop :=
  r.current ≤ r.target ∧ r.target ≤ r.limit.maximum ∧
  (∀ k, r.holder = .internal k → r.limit = keyLimit k ∧ r.reason = keyReason k ∧ r.notify = false) ∧
  (fading = true → r.ramp ≠ none ∧ r.target = r.limit.maximum ∧ r.current < r.limit.maximum ∧ r.expiry = none)

/-- A slot's generation is within its range, and never 0 under a record (R3, R4). -/
def Slot.legal (x : Slot) : Prop :=
  x.gen ≤ 255 ∧
  match x.entry with
  | .free => True
  | .live r => 1 ≤ x.gen ∧ r.legal false
  | .fading r => 1 ≤ x.gen ∧ r.legal true

/-- R4: a handle that names no LIVE or FADING record. -/
def namesNoRecord (t : List Slot) (slot gen : Nat) : Prop :=
  ∀ e r, 1 ≤ gen → t[slot]? = some ⟨gen, e⟩ → e.held ≠ some r

/-- R3 to R6: 48 slots, each legal, one record a key, and the supervisor within its quota. -/
def tableLegal (t : List Slot) : Prop :=
  t.length = 48 ∧ (∀ x ∈ t, x.legal) ∧ (∀ k, (t.filter fun x => x.holdsKey k).length ≤ 1) ∧ supervisorCount t ≤ 24

/-- R10 to R12: a slot after one countdown of the counters of a kind; a LIVE record whose counter reaches 0 is retired. -/
def Slot.counted (kind : ExpiryKind) (x : Slot) : Slot :=
  match x.entry with
  | .live r =>
    match r.expiry with
    | some e =>
      if e.kind = kind then
        if e.counter ≤ 1 then { x with entry := r.retired }
        else { x with entry := .live { r with expiry := some { e with counter := e.counter - 1 } } }
      else x
    | none => x
  | _ => x

/-- A LIVE record with its notify flag set whose counter of a kind the next countdown brings to 0. -/
def Slot.tellsExpiry (kind : ExpiryKind) (x : Slot) : Prop :=
  ∃ r e, x.entry = .live r ∧ r.expiry = some e ∧ e.kind = kind ∧ e.counter ≤ 1 ∧ r.notify = true

/-! ### Stations and the link (R52, R53, R172, R194, R195) -/

/-- R53 and R52's park fields: a station's slot, custody, origin, timer and the in-flight mark agree with its state. -/
def custodyAgrees (s : State) : Prop :=
  ∀ n, ((s.station n).parkSlot.isSome ↔ (s.station n).state = .parked) ∧
    ((s.station n).custody = .supervisor ↔ (s.station n).state = .parked) ∧
    ((s.station n).parkOrigin.isSome ↔ (s.station n).state = .parking) ∧
    ((s.station n).parkTimer.isSome ↔ (s.station n).state = .parking) ∧
    (s.sl.inFlight = some (.park n) ↔ (s.station n).state = .parking)

/-- R172: PU's copy of each station's state is the state SM holds. -/
def copiesAgree (s : State) : Prop := ∀ n, (s.puStation n).copy = (s.station n).state

/-- R45, R194, R195: TA is ARMING exactly while ARM is in flight; a LIVE or RESTORING station means an armed TA; the reply
slot is empty while a request is in flight; and an ARM in flight has a check still to end. -/
def armingAgrees (s : State) : Prop :=
  (s.sl.inFlight = some .arm ↔ s.ta.state = .arming) ∧ (s.sl.inFlight ≠ none → s.sl.slot = none) ∧
  (s.sl.inFlight = some .arm → s.checkingAny = true) ∧
  ∀ n, (s.station n).state.driven = true → s.ta.state.armed = true

/-! ### A completed park (R62, R179) -/

/-- A station's context after a GRANT frame with grant 0 and DISABLE has been sent on its link (R57); the frame's travel
is free (log 14). -/
def sentDisable (n : Station) (x y : StationCtx) : Prop :=
  ∃ travel,
    y = { x with
      frame := some { id := n.num, enable := false, travel := travel, counter := x.roll, grant := 0 }
      lastGrant := 0, lastEnable := false
      lastTwo := (x.lastTwo ++ [x.roll]).drop (x.lastTwo.length - 1), roll := (x.roll + 1) % 16 }

/-- R179: the table after a retire claim on each of a station's four keys. -/
def stationKeysRetired (t : List Slot) (n : Station) : List Slot :=
  [Key.oc n, .mt n, .it n, .sl n].foldl (fun u k => claimRetire u k none) t

/-- R62 and R179: the park of station `n`, whose context is `x`, completes from `s` to `t` with an answer's class and
detail: context, park slot, custody, PU's judging state, the DISABLE frame and the answer; a retire claim on each of the
station's four keys, the records of PU's other keys and of the other owners being left. -/
def parkCompleted (s t : State) (n : Station) (x : StationCtx) (cls : ReplyClass) (d : Option Detail) : Prop :=
  sentDisable n
    { x with
      state := .parked, custody := .supervisor, parkSlot := some x.settings, parkTimer := none, parkOrigin := none
      settings := ⟨⟨true, true, true, true⟩, ⟨false, false, false, false, false, false⟩, 0, 100⟩ }
    (t.station n) ∧
  (∀ m, m ≠ n → t.station m = s.station m) ∧
  t.pu = { s.pu with
    stations := s.pu.stations.set n { PuStation.reset with copy := .parked, threshold := (s.puStation n).threshold } } ∧
  t.ct = stationKeysRetired s.ct n ∧
  (∀ (i : Nat) (y : Slot), s.ct[i]? = some y → (∀ k ∈ [Key.oc n, .mt n, .it n, .sl n], y.holdsKey k = false) →
    t.ct[i]? = some y) ∧
  t = { s with ct := t.ct, sm := t.sm, pu := t.pu, sl := t.sl, free := s.free + 1, handed := t.handed } ∧
  (s.sl.inFlight ≠ some (.park n) → t.sl = s.sl) ∧
  (s.sl.inFlight = some (.park n) → t.sl.inFlight = none ∧
    ∃ r, t.sl.slot = some r ∧ r.req = some .parkStation ∧ r.cls = cls ∧ r.detail = d ∧
      r.payload = settingsBytes x.settings ++ x.torqueBytes)

/-! ### Banks (R77, R81) -/

/-- R77's table, and the check timer that runs exactly while a bank is CHECKING (R78, R79). -/
def BankRec.legal (b : BankRec) : Prop :=
  (b.checkTimer.isSome ↔ b.state = .checking) ∧
  match b.state with
  | .offline | .failed => b.chopper = 0 ∧ b.avail = 0
  | .checking => b.chopper = 200 ∧ b.avail = 0
  | .ready => b.chopper = 0
  | .dissipating => True

/-- R77, R81: both banks are legal, a FAILED bank is never lead, and there is no lead only when both are FAILED. -/
def banksLegal (g : Gd) : Prop :=
  g.banks.a.legal ∧ g.banks.b.legal ∧ (∀ k, g.lead = some k → (g.banks.get k).state ≠ .failed) ∧
  (g.lead = none → ∀ k, (g.banks.get k).state = .failed)

/-- R86's table: the GRID value and the ceiling table after an evaluation. -/
def gridEvaluated (t : List Slot) (held : Option Nat) (holds : Bool) (v : Nat) : Option Nat × List Slot :=
  match held, holds with
  | none, true => (some v, claimSet t .grid v (some 10) none)
  | some w, true => if 10 ≤ gap v w then (some v, claimSet t .grid v (some 10) none) else (some w, t)
  | some _, false => (none, claimRetire t .grid none)
  | none, false => (none, t)

/-! ### The route (R94, R98, R108) -/

/-- A descriptor within the ranges of R94. -/
def Desc.legal : Desc → Prop
  | .span len grade limit _ _ => len ≤ 4095 ∧ -250 ≤ grade ∧ grade ≤ 250 ∧ limit ≤ 700
  | .jump g => g ≤ 63
  | .stop | .hold _ => True

def Group.legal (x : Group) : Prop := x.d0.legal ∧ x.d1.legal ∧ x.d2.legal ∧ x.d3.legal

/-- R94: the store is canonical, holds groups 0 to 63 only, and its descriptors are within their ranges. -/
def storeLegal (store : List (Nat × Group)) : Prop :=
  storeWf store = true ∧ ∀ p ∈ store, p.1 ≤ 63 ∧ p.2.legal

/-- R98: the valid entries form an unbroken run from C0. -/
def RoutePos.unbroken (p : RoutePos) : Prop :=
  (p.c1.isSome → p.c0.isSome) ∧ (p.c2.isSome → p.c1.isSome) ∧ (p.c3.isSome → p.c2.isSome)

/-- R98, R99: what C0 is, and where the index stands in it, while the route is RUNNING or HOLDING. -/
def routeStands (r : Rs) : Prop :=
  match r.state with
  | .running =>
    ∃ e, r.pos.c0 = some e ∧ r.index < e.desc.length ∧ ∃ l g m u b, e.desc = Desc.span l g m u b
  | .holding => ∃ e, r.pos.c0 = some e ∧ r.index = 0 ∧ ∃ k, e.desc = Desc.hold k
  | .idle => r.pos.c0 = none ∧ r.pos.c1 = none ∧ r.pos.c2 = none ∧ r.pos.c3 = none
  | .ended => ∃ e, r.pos.c0 = some e ∧ e.desc = Desc.stop
  | .faulted => True

/-- The detour status is ACTIVE. -/
def Detour.isActive : Detour → Bool
  | .active _ => true
  | _ => false

/-- R98, R108: the route record is as its state says, a detour stands only on a running or holding route, and the
continuation is present exactly while it is ACTIVE, its saved entries being an unbroken run. -/
def routeLegal (r : Rs) : Prop :=
  routeStands r ∧ r.pos.unbroken ∧ (r.pos.cont.isSome ↔ r.pos.detour.isActive = true) ∧
  (r.fault.isSome ↔ r.state = .faulted) ∧ (r.pos.detour ≠ .none → r.state.counts = true) ∧
  (∀ k, r.pos.cont = some k → (k.e1.isSome → k.e0.isSome) ∧ (k.e2.isSome → k.e1.isSome))

/-! ### What a resolution leaves (R103 to R106) -/

/-- R103's first two lines, with R97: the fetch that C0 calls for when it is invalid or a JUMP. -/
def fetchCalled (store : List (Nat × Group)) (p : RoutePos) : Option RoutePos :=
  let taken (g : Nat) : RoutePos :=
    let x := readGroup store g
    { p with
      c0 := some ⟨x.d0, g, 0⟩, c1 := some ⟨x.d1, g, 1⟩, c2 := some ⟨x.d2, g, 2⟩, c3 := some ⟨x.d3, g, 3⟩
      next := (g + 1) % 64 }
  match p.c0 with
  | none => some (taken p.next)
  | some e =>
    match e.desc with
    | .jump g => some (taken g)
    | .stop | .hold _ | .span _ _ _ _ _ => none

/-- The position after a number of such fetches in a row. -/
def fetchesCalled (store : List (Nat × Group)) : Nat → RoutePos → Option RoutePos
  | 0, p => some p
  | n + 1, p => (fetchCalled store p).bind (fetchesCalled store n)

/-- The lines of R103 that end a resolution. -/
def standsAt (p : RoutePos) : Option Ending :=
  match p.c0.map Entry.desc with
  | some (.span _ _ _ _ _) => some .span
  | some (.hold k) => some (.hold k)
  | some .stop => if p.detour.isActive then none else some .stop
  | some (.jump _) | none => none

/-- The route, the notices and the handed events of `t` are those of the resolution `r` of the real route. -/
def resolvedTo (r : Resolved) (t : State) : Prop :=
  (r.returned = true → t.sl.notices.detourDone = true ∧ .routeEditEvent ∈ t.handed) ∧
  match r.ending with
  | .span => t.rs.state = .running ∧ t.rs.pos = r.pos
  | .hold k => t.rs.state = .holding ∧ t.rs.pos = r.pos ∧ t.sl.notices.holdReached = true ∧
    .holdReachedAtPm k ∈ t.handed ∧ .holdReachedAtDg k ∈ t.handed
  | .stop => t.rs.state = .ended ∧ t.rs.pos = r.pos ∧ t.sl.notices.routeEnded = true
  | .loop => t.rs.state = .faulted ∧ t.rs.pos = { r.pos with detour := .none, cont := none } ∧
    t.rs.fault = some .jumpLoop ∧ .truckConditionBegins ⟨.pr, some .jumpLoop⟩ ∈ t.handed

/-- R106: the hold-left events that a route leaving `r` hands PM and DG. -/
def holdLeft (r : Rs) (cause : HoldCause) : List Instr :=
  match r.state, r.pos.c0.map Entry.desc with
  | .holding, some (.hold k) => [.holdLeftAtPm k cause, .holdLeftAtDg k cause]
  | _, _ => []

/-! ### A slice of the forecast walk (R134, R137) -/

/-- R134 and R137: the end `w` of a slice, walked from a request in `s`, leaves `u` and gives the class and detail of the
answer; `clear` is the detail of a walk that found no problem. -/
def sliceEnded (s u : State) (w : Cursor × WalkEnd) (clear : Option Detail) (a : Answer) : Prop :=
  a.payload = walkPayload w.2 w.1 s ∧
  u = { s with ct := u.ct, dg := { s.dg with cursor := u.dg.cursor, lastApply := u.dg.lastApply } } ∧
  match w.2 with
  | .slice =>
    a.cls = .partly ∧ a.detail = some .more ∧ u.dg.cursor = .opened w.1 ∧ u.ct = s.ct ∧ u.dg.lastApply = s.dg.lastApply
  | .loop =>
    a.cls = .doneAlert ∧ a.detail = some .routeLoop ∧ u.dg.cursor = .absent ∧ u.ct = s.ct ∧
    u.dg.lastApply = s.dg.lastApply
  | .hold _ _ | .stop =>
    a.cls = .done ∧ a.detail = clear ∧ u.dg.cursor = .absent ∧
    u.ct = (if w.1.apply then claimRetire s.ct .governorForecast none else s.ct) ∧
    u.dg.lastApply = (if w.1.apply then none else s.dg.lastApply)
  | .problem p =>
    let moved := (s.rs.advance + 4294967296 - w.1.advance) % 4294967296
    let left := p.distance + p.length - moved
    a.cls = .doneAlert ∧ u.dg.cursor = .absent ∧
    if w.1.apply = true ∧ s.dg.state.active = true ∧ 0 < left then
      a.detail = some .applied ∧
      u.ct = claimSet s.ct .governorForecast p.speed none (some ⟨.distance, min 65535 left⟩) ∧
      u.dg.lastApply = some ⟨p.speed, min 65535 left, s.rs.advance⟩
    else
      u.ct = s.ct ∧ u.dg.lastApply = s.dg.lastApply ∧
      a.detail =
        (if w.1.apply = false then some .problem
        else if s.dg.state.active = false then some .notApplied else some .tooLate)

/-! ### A latched payload (R167, R168) -/

/-- R168: the ceiling table after the claim one key calls for, of the value called for against the value last claimed. -/
def keyClaimed (t : List Slot) (k : Key) (want claimed : Option Nat) : List Slot :=
  match want with
  | some v => if claimed = some v then t else claimSet t k v none none
  | none => if claimed.isSome then claimRetire t k (some 20) else t

/-- R168: the values a class calls for on the SPEED and the PROPEL key. -/
def payloadWanted (over10Speed : Nat) (masked : Bool) : Option PayloadClass → Option Nat × Option Nat
  | some .over10 => (some over10Speed, none)
  | some .over20 => (some 200, some 700)
  | some .overmax => (some 100, some (if masked then 300 else 0))
  | some .empty | some .carry | none => (none, none)

/-- R167: the mean of a run or a window latched from `s` to `t`, held to the range of the latched payload (R160). -/
def latchedFrom (s t : State) (mean : Nat) : Prop :=
  let m := min 1200 mean
  let cls := payloadClass s.pm.rated m
  let heavy : Bool := cls == .over10 || cls == .over20 || cls == .overmax
  let want := payloadWanted s.pm.over10Speed s.pm.plMasked (some cls)
  t.pm.latched = some m ∧ t.pm.cls = some cls ∧ t.pm.state = (if cls = .empty then .empty else .latched) ∧
  t.pm.winSum = 0 ∧ t.pm.winCount = 0 ∧ t.pm.winMetres = 0 ∧ t.pm.stillSum = 0 ∧ t.pm.stillCount = 0 ∧
  t.pm.plCond = heavy ∧ t.pm.speedClaimed = want.1 ∧ t.pm.propelClaimed = want.2 ∧
  t.ct = keyClaimed (keyClaimed s.ct .payloadSpeed want.1 s.pm.speedClaimed) .payloadPropel want.2 s.pm.propelClaimed ∧
  t.sl = (if cls = .empty then s.sl else { s.sl with notices := { s.sl.notices with payloadLatched := true } }) ∧
  t.handed = s.handed
    ++ (if heavy && !s.pm.plCond then [.truckConditionBegins ⟨.pl, none⟩]
      else if s.pm.plCond && !heavy then [.truckConditionEnds .pl] else [])
    ++ [.latchEvent] ∧
  t = { s with ct := t.ct, pm := t.pm, sl := t.sl, handed := t.handed }

/-- The event that tells PU of a condition changed from `was` to `now` (R87, R151). -/
def told (c : HandedClass) (was now : Bool) : List Instr :=
  if now && !was then [.truckConditionBegins ⟨c, none⟩] else if was && !now then [.truckConditionEnds c] else []

/-! ### The judgement of a report (R176, R179) -/

/-- R179: of the classes begun at one report, the first that escalates is claimed as tripping, the others flag only. -/
def tagFirst (escalates : StationClass → Bool) : List StationClass → List (StationClass × Bool)
  | [] => []
  | c :: rest => if escalates c then (c, true) :: rest.map fun d => (d, false) else (c, false) :: tagFirst escalates rest

/-- R176: a temperature condition after a reading, against its warning. -/
def tempHolds (was : Bool) (reading : Int) (warn : Nat) : Bool :=
  decide ((warn : Int) ≤ reading) || (was && decide ((warn : Int) - 5 ≤ reading))

/-- R176: the value of a temperature record. -/
def tempRecord (reading : Int) (warn : Nat) : Nat := (max 0 (min 1000 (1000 - 25 * (reading - warn)))).toNat

/-- R176: the value last claimed and the table after a reading judged for a temperature key. -/
def tempClaim (t : List Slot) (k : Key) (was : Bool) (claimed : Option Nat) (reading : Int) (warn : Nat) :
    Option Nat × List Slot :=
  if tempHolds was reading warn then
    (some (tempRecord reading warn),
      if claimed = some (tempRecord reading warn) then t else claimSet t k (tempRecord reading warn) (some 10) none)
  else if was then (none, claimRetire t k none) else (claimed, t)

/-! ### The response level and the counters (R183, R184) -/

/-- R183, R184: outside NORMAL an unmasked truck flag other than PL is set, and outside SAFE_STOP nothing is counted. -/
def levelHeld (p : Pu) : Prop :=
  (p.level ≠ .normal → stopping p.flags p.masks = true) ∧ (p.level ≠ .safeStop → p.stopped = 0) ∧ p.stopped ≤ 99

/-- R35, R37, R38, R46 to R48: TA's figures. -/
def allocationInRange (t : Ta) : Prop :=
  t.speed ≤ 700 ∧ t.accum ≤ 3599 ∧ t.fallCount ≤ 4 ∧ (∀ r, t.safeRef = some r → r ≤ 700) ∧ t.shortfall ≤ 4000 ∧
  t.blend ≤ 1000 ∧ t.power ≤ 12000

/-- R52: a station's torque trim and slip scale. -/
def Settings.inRange (x : Settings) : Prop := -50 ≤ x.trim ∧ x.trim ≤ 50 ∧ 50 ≤ x.slip ∧ x.slip ≤ 200

/-- R52: SM's counters and timers of a station, with both copies of its settings. -/
def stationInRange (x : StationCtx) : Prop :=
  x.roll ≤ 15 ∧ x.lastTwo.length ≤ 2 ∧ (∀ c ∈ x.lastTwo, c ≤ 15) ∧ (∀ d, x.deadline = some d → d ≤ 50) ∧
  (∀ d, x.parkTimer = some d → d ≤ 3000) ∧ x.settings.inRange ∧ ∀ p, x.parkSlot = some p → p.inRange

/-- R74: a bank's figures against its capacity. -/
def BankRec.inRange (b : BankRec) (capacity : Nat) : Prop :=
  b.heat ≤ capacity ∧ b.chopper ≤ 1000 ∧ b.blowerSpeed ≤ 100 ∧ b.blowerCount ≤ 20 ∧ b.openCount ≤ 3 ∧
  (∀ d, b.checkTimer = some d → d ≤ 200) ∧ b.leadEnergy ≤ 1000 ∧ b.leadRem ≤ 99

/-- R74, R88: GD's figures; the lead energy of a bank that is not lead is 0, and a DV value stands exactly at the count 2. -/
def gridInRange (g : Gd) : Prop :=
  (∀ k, (g.banks.get k).inRange (g.cfg.capacity.get k) ∧
    (g.lead ≠ some k → (g.banks.get k).leadEnergy = 0 ∧ (g.banks.get k).leadRem = 0)) ∧
  g.unabsorbed ≤ 12000 ∧ g.dcLink ≤ 4000 ∧ g.ovCount ≤ 2 ∧ (g.dvValue.isSome ↔ g.ovCount = 2) ∧
  (∀ v, g.dvValue = some v → 200 ≤ v ∧ v ≤ 900) ∧ ∀ v, g.gridValue = some v → v ≤ 1000

/-- R98: RS's counters, pointers and route start. -/
def routeInRange (r : Rs) : Prop :=
  r.startGroup ≤ 63 ∧ r.startFirst ≤ 3 ∧
  r.index ≤ 4095 ∧ r.debt ≤ 255 ∧ r.pos.next ≤ 63 ∧ (∀ k, r.pos.cont = some k → k.next ≤ 63) ∧ r.advance < 4294967296

/-- R118: DG's speeds, shortfall figures and retard demand. -/
def governorInRange (d : Dg) : Prop :=
  50 ≤ d.shortCap ∧ d.shortCap ≤ 700 ∧ d.shortLast ≤ 4000 ∧ d.demand ≤ 1000 ∧ (∀ v, d.sustainable = some v → v ≤ 700) ∧
  (∀ v, d.approach = some v → v ∈ [50, 100, 150, 250]) ∧ (∀ v, d.target = some v → v ≤ 700) ∧
  ∀ v, d.claimed = some v → v ≤ 700

/-- R141, R142, R152: SC's counts, angles, commands and table. -/
def steeringInRange (c : Sc) : Prop :=
  c.envelope.ordered = true ∧ (∀ r ∈ c.envelope.rows, r.speed ≤ 700 ∧ r.angle ≤ 450) ∧ c.assistMax ≤ 150 ∧
  c.agreement ≤ 5 ∧ c.sensorFault ≤ 5 ∧ c.following ≤ 25 ∧ c.lowCount ≤ 3 ∧ c.goodCount ≤ 3 ∧
  (∀ a ∈ [c.sensorA, c.sensorB, c.measured], ∀ v, a = some v → mag v ≤ 450) ∧ (∀ v, c.wheel = some v → mag v ≤ 6000) ∧
  (∀ v, c.pressure = some v → v ≤ 350) ∧ mag c.demanded ≤ 450 ∧ mag c.clamped ≤ 450 ∧ mag c.valve ≤ 1000 ∧
  c.envAngle ≤ 450 ∧ c.allowed ≤ 700 ∧ (∀ v, c.claimed = some v → v ≤ 700) ∧ mag c.aim ≤ 150 ∧ mag c.bias ≤ 150

/-- R160: PM's figures, runs and window; a sample that completes a still run restarts it. -/
def payloadInRange (p : Pm) : Prop :=
  (∀ m, p.latched = some m → m ≤ 1200) ∧ p.live ≤ 1200 ∧ p.winSum ≤ 4294967295 ∧ p.winCount ≤ 65535 ∧
  p.winMetres ≤ 100 ∧ p.stillCount ≤ 39 ∧ p.stillSum ≤ 1200 * p.stillCount

/-- R172: PU's figures of one station; R179: nothing is judged of a PARKED one. -/
def PuStation.inRange (p : PuStation) : Prop :=
  p.slipCount ≤ 3 ∧ p.clearCount ≤ 10 ∧ 10 ≤ p.threshold ∧ (∀ v, p.mtClaimed = some v → v ≤ 1000) ∧
  (∀ v, p.itClaimed = some v → v ≤ 1000) ∧
  (p.copy = .parked → p.conds = ⟨false, false, false, false, false, false⟩ ∧ p.mtClaimed = none ∧ p.itClaimed = none ∧
    p.slClaimed = false)

/-- R172: PU's counts. -/
def protectionInRange (p : Pu) : Prop :=
  (p.osDemand = 0 ∨ p.osDemand = 1000) ∧ p.osCount ≤ 5 ∧ ∀ n, (p.stations.get n).inRange

/-- The counts and figures that the state tables bound, block by block, with the speed of a pass arrival handed on (R35)
and the retired-handle list (R198). -/
def fieldsInRange (s : State) : Prop :=
  allocationInRange s.ta ∧ (∀ n, stationInRange (s.station n)) ∧ gridInRange s.gd ∧ routeInRange s.rs ∧
  governorInRange s.dg ∧ steeringInRange s.sc ∧ payloadInRange s.pm ∧ protectionInRange s.pu ∧
  (∀ marks v, Instr.passArrival marks v ∈ s.handed → v ≤ 700) ∧ s.sl.retired.length ≤ 8 ∧ s.sl.retired.Nodup

/-- R172: the upper bound of the slip thresholds. -/
def thresholdsInRange (p : Pu) : Prop := ∀ n, (p.stations.get n).threshold ≤ 700

/-- The figures that a legal table's ceilings bound: R52's last grants sent, the grants of R45 that wait to be handed over,
and R172's overspeed reference. -/
def ceilingsHold (s : State) : Prop :=
  (∀ n, mag (s.station n).lastGrant ≤ 1000) ∧
  (∀ hands travel, Instr.grantHandover hands travel ∈ s.handed → ∀ n, mag (PerStation.get hands n).grant ≤ 1000) ∧
  ∀ r, s.pu.osRef = some r → r ≤ 700

end Sys2Proof.Machine
end

