-- ==== Sys2Proof/Certificates/Slice0/Obligations.lean ====
section
/-! DEFINITION. The statements for the provers, chapter by chapter: what each command does, the frames, and the invariants
that every step keeps. -/

section

open Sys2Proof Sys2Proof.Machine

/-! ### The step and the dispatch -/

/-- Each step runs the command at the front of the queue on the queue's rest; with nothing waiting it takes the oldest
handed event (log 1), and with neither it idles (log 4): the queues are the model's choice. -/
def Obligations.StepRunsFrontCommandThenHandedEvents : Prop :=
  (∀ (c : Instr) (s : State) (rest : List Instr), s.pending = c :: rest → step s = exec c { s with pending := rest }) ∧
  (∀ (c : Instr) (s : State), step { s with pending := c :: s.pending } = exec c s) ∧
  (∀ (e : Instr) (s : State) (rest : List Instr), s.pending = [] → s.handed = e :: rest →
    step s = exec e { s with handed := rest }) ∧
  ∀ s : State, s.pending = [] → s.handed = [] → step s = .next s

/-- No command faults or is refused by the model, and none touches the queue of waiting commands, which is the model's own
(log 1). -/
def Obligations.EveryCommandAnswersNextState : Prop :=
  ∀ (c : Instr) (s : State), ∃ t, exec c s = .next t ∧ t.pending = s.pending

/-- The frame of every command: a block it does not act on is unchanged, and a supervisor's record stands where only the
internal owners' claims, or a placement, change the ceiling table. -/
def Obligations.CommandsChangeOnlyTheirBlocks : Prop :=
  ∀ (c : Instr) (s t : State), exec c s = .next t →
    (∀ b, b ∉ touched c → sameBlock b s t) ∧
    ∀ (i : Nat) (x : Slot) (r : CeilingRecord), actsOnSupervisorRecords c = false → s.ct[i]? = some x →
      x.entry.held = some r → r.holder = .supervisor → t.ct[i]? = some x

/-- A request answered REFUSED_STATE, REFUSED_VALUE or STALE changes nothing but the link's reply. -/
def Obligations.RefusedRequestsChangeNothing : Prop :=
  ∀ (c : Instr) (s t : State) (r : Reply), s.linkFree → (encodeRequest c).isSome = true → exec c s = .next t →
    t.sl.slot = some r → r.cls = .refusedState ∨ r.cls = .refusedValue ∨ r.cls = .stale →
    t = { s with sl := { s.sl with receiving := [], slot := some r, busySeen := false, overrun := false } }

/-! ### The supervisory link (chapter 10) -/

/-- R201; that the revision is sent as one byte is log 11. -/
def Obligations.IdentifyGivesPartCodes : Prop :=
  ∀ s : State, s.linkFree →
    exec .identify s = .next (replied s s .identify (done [0x3A, 0x71, 0x44, 0x20, 0x01]))

/-- R200: the copy in the reply, the emptying, and ATTN_PENDING as it stands after the emptying. -/
def Obligations.ReadNoticesTakesNoticesAndHandles : Prop :=
  ∀ s : State, s.linkFree →
    let u : State :=
      { s with
        sl := { s.sl with notices := NoticeSet.none, tripSet := .fill false, retired := [], overflow := false } }
    exec .readNotices s =
      .next (replied s u .readNotices
        (done (u16 s.sl.notices.code ++ u8 (PerStation.code s.sl.tripSet)
          ++ u8 (s.sl.retired.length + if s.sl.overflow then 128 else 0) ++ s.sl.retired.flatMap handleBytes))) ∧
    u.attn = (s.pu.anyTripped || s.pu.level != .normal)

/-- R196 with R32 and R67: what a well-formed CANCEL ends, and its refusal when nothing is in flight. -/
def Obligations.CancelEndsRequestInFlight : Prop :=
  ∀ s : State,
    (s.sl.inFlight = none →
      exec .cancel s = .next (replied s s .cancel (refuseState .nothingInFlight))) ∧
    (s.sl.inFlight = some .arm → s.sl.slot = none →
      exec .cancel s = .next (answered s
        { s with ta := { s.ta with state := .disarmed }, sl := { s.sl with receiving := [] } } .arm
        ⟨.abandoned, some .cancelled, []⟩)) ∧
    ∀ n, s.sl.inFlight = some (.park n) → s.sl.slot = none →
      let x := s.station n
      let st : StationState :=
        if x.settings.tripping then .tripped
        else if (x.parkOrigin = some .live ∨ x.parkOrigin = some .restoring) ∧ s.ta.state.armed = true then .live
        else .standby
      exec .cancel s = .next (answered s
        { s with
          sm := s.sm.set n { x with state := st, parkTimer := none, parkOrigin := none }
          pu := { s.pu with stations := s.pu.stations.set n { s.puStation n with copy := st } }
          sl := { s.sl with receiving := [] } }
        .parkStation ⟨.abandoned, some .cancelled, []⟩)

/-- R202 with R27, R51, R73, R93, R117, R139, R159, R171 and R192: what SOFT_RESET keeps and resets. Which events in
transit outlive it is R72 and log 3; what READ_ALLOCATION shows before the next pass, and READ_STEERING before the next
update, is log 25; the figures to which the spec gives no reset value, and the bytes last shifted out, which stand, are
log 17. -/
def Obligations.SoftResetKeepsConfiguration : Prop :=
  (∀ s : State, s.linkFree →
    (s.ta.state.armed = true → exec .softReset s = .next (replied s s .softReset (refuseState .armed))) ∧
    (s.ta.state.armed = false → 5 ≤ s.ta.speed →
      exec .softReset s = .next (replied s s .softReset (refuseState .moving)))) ∧
  ∀ s : State, s.linkFree → s.ta.state = .disarmed → s.ta.speed < 5 →
    ∃ t, exec .softReset s = .next t ∧
      t.ct = s.ct.map (fun x => { x with entry := .free }) ∧
      t.ta = { Ta.reset with
        weights := s.ta.weights, slew := s.ta.slew, configured := s.ta.configured
        lastPass := ⟨.disarmed, s.ta.weights, s.ta.slew, s.ta.configured⟩ } ∧
      t.sm = .fill StationCtx.reset ∧
      (∀ k, t.bank k = { BankRec.reset with heat := (s.bank k).heat }) ∧
      t.gd.order = .fixedA ∧ t.gd.lead = some .a ∧ t.gd.unabsorbed = 0 ∧ t.gd.dcLink = 0 ∧ t.gd.ovCount = 0 ∧
      t.gd.gt = false ∧ t.gd.gf = false ∧ t.gd.dvValue = none ∧ t.gd.gridValue = none ∧
      t.gd.cfg = s.gd.cfg ∧ t.gd.configured = s.gd.configured ∧ t.gd.published = t.gd.figures ∧
      t.rs = { Rs.reset with store := s.rs.store } ∧ t.dg = Dg.reset ∧
      t.sc = { Sc.reset with
        envelope := s.sc.envelope, ratio := s.sc.ratio, gain := s.sc.gain, envRamp := s.sc.envRamp
        assistMax := s.sc.assistMax, reserve := s.sc.reserve, assistOn := s.sc.assistOn
        assistGain := s.sc.assistGain, configured := s.sc.configured
        lastUpdate := ⟨s.sc.envelope, s.sc.ratio, s.sc.gain, s.sc.envRamp, s.sc.assistMax, s.sc.reserve, s.sc.assistOn,
          s.sc.assistGain, s.sc.configured⟩ } ∧
      t.pm = { Pm.reset with
        emptyMass := s.pm.emptyMass, rated := s.pm.rated, sprung := s.pm.sprung, over10Speed := s.pm.over10Speed
        configured := s.pm.configured } ∧
      t.pu = { Pu.reset with
        motorWarn := s.pu.motorWarn, inverterWarn := s.pu.inverterWarn, configured := s.pu.configured } ∧
      t.sl = { Sl.reset with
        shifted := s.sl.shifted
        slot := some
          { req := some .softReset, cls := .done, detail := none, attn := false, busy := false
            overrun := s.sl.overrun || s.sl.slot.isSome, level := .normal, payload := [] } } ∧
      t.handed = s.handed.filter outlivesReset ∧ t.pending = s.pending

/-- R203 with R26, R50, R72, R92, R116, R139, R158, R170 and R192: the RESET pin from any state, and values the spec gives
the machine it leaves. That raise and clear claims stay handed is R72 and log 3; the figures to which the spec gives no reset
value are log 17, and the counter of free values is the model's own (log 16). -/
def Obligations.HardResetGivesResetValues : Prop :=
  (∀ s : State, ∃ t, exec .hardReset s = .next t ∧
    { t with handed := [], pending := [], free := 0 } = State.reset ∧
    t.handed = s.handed.filter outlivesReset ∧ t.pending = s.pending ∧ t.free = s.free) ∧
  State.reset.ct = List.replicate 48 ⟨0, .free⟩ ∧
  State.reset.ta.state = .disarmed ∧ State.reset.ta.speed = 0 ∧ State.reset.ta.wheelSign = .forward ∧
  State.reset.ta.safeRef = none ∧ State.reset.ta.weights = .fill 1000 ∧ State.reset.ta.slew = 50 ∧
  (∀ n, (State.reset.station n).state = .absent ∧ (State.reset.station n).custody = .part ∧
    (State.reset.station n).settings = ⟨⟨true, true, true, true⟩, ⟨false, false, false, false, false, false⟩, 0, 100⟩ ∧
    (State.reset.station n).parkSlot = none ∧ (State.reset.station n).link = .lost ∧
    (State.reset.station n).lastTwo = [] ∧ (State.reset.station n).lastGrant = 0 ∧
    (State.reset.station n).lastEnable = false) ∧
  (∀ k, (State.reset.bank k).state = .offline ∧ (State.reset.bank k).heat = 0 ∧
    (State.reset.bank k).checkTimer = none) ∧
  State.reset.gd.lead = some .a ∧ State.reset.gd.published.capacity = 120000 ∧
  State.reset.gd.published.cooling = 1200 ∧
  (∀ g, readGroup State.reset.rs.store g = ⟨.stop, .stop, .stop, .stop⟩) ∧ State.reset.rs.state = .idle ∧
  State.reset.dg.enabled = true ∧ State.reset.dg.state = .standby ∧ State.reset.dg.shortCap = 700 ∧
  State.reset.sc.state = .align ∧ State.reset.steerDirect = true ∧
  State.reset.pm.state = .unknown ∧ State.reset.pm.plMasked = true ∧
  State.reset.pu.level = .normal ∧ State.reset.pu.osRef = none ∧ State.reset.faultLine = false ∧
  State.reset.sl.slot = none ∧ State.reset.sl.inFlight = none ∧ State.reset.attn = false ∧ State.reset.rdy = false

/-- R193 and R195: a transaction is a write, a read or disregarded by its first byte. A frame that fails a check is answered
MALFORMED on a free link; on a busy link every frame but a well-formed CANCEL is discarded, neither executed nor answered.
That either raw-frame row takes its transaction alike, and disregards one without a whole byte, is log 10. -/
def Obligations.BadAndBusyFramesAreNotExecuted : Prop :=
  (∀ (s : State) (frame : List Byte) (cut : Bool) (f : FrameFault),
    s.linkFree → judgeFrame frame cut = .malformed f →
    let a : Answer := ⟨.malformed, some (frameDetail f), []⟩
    let u : State := { s with sl := { s.sl with receiving := [] } }
    let t := placed u s.sl.busySeen (s.sl.overrun || s.sl.slot.isSome) none a
    exec (.malformedFrame (0x5A :: frame) cut) s = .next t ∧ exec (.frameDiscardedBusy (0x5A :: frame) cut) s = .next t) ∧
  (∀ (s : State) (frame : List Byte) (cut : Bool),
    s.sl.inFlight ≠ none → judgeFrame frame cut ≠ .request .cancel →
    let t : State := { s with sl := { s.sl with receiving := [], busySeen := true } }
    exec (.frameDiscardedBusy (0x5A :: frame) cut) s = .next t ∧ exec (.malformedFrame (0x5A :: frame) cut) s = .next t) ∧
  (∀ (s : State) (rest : List Byte) (cut : Bool),
    exec (.malformedFrame (0xA5 :: rest) cut) s = exec (.replyRead rest.length) s ∧
    exec (.frameDiscardedBusy (0xA5 :: rest) cut) s = exec (.replyRead rest.length) s) ∧
  (∀ (s : State) (bytes : List Byte) (cut : Bool), (∀ b ∈ bytes.head?, b ≠ 0x5A ∧ b ≠ 0xA5) →
    exec (.malformedFrame bytes cut) s = .next s ∧ exec (.frameDiscardedBusy bytes cut) s = .next s) ∧
  ∀ (s : State) (c : Instr), s.sl.inFlight ≠ none → (encodeRequest c).isSome = true → c ≠ .cancel →
    exec c s = .next { s with sl := { s.sl with receiving := [], busySeen := true } }

/-- R194's read transaction: an empty slot shifts out FF, a whole read empties the slot, a shorter one leaves it. What is
shifted out past the last CRC byte is free (log 15). -/
def Obligations.ReplyReadShiftsOutSlot : Prop :=
  (∀ (s : State) (n : Nat), s.sl.slot = none →
    exec (.replyRead n) s = .next { s with sl := { s.sl with shifted := List.replicate n 0xFF } }) ∧
  (∀ (s : State) (n : Nat) (r : Reply), s.sl.slot = some r → n < r.frame.length →
    exec (.replyRead n) s = .next { s with sl := { s.sl with shifted := r.frame.take n } }) ∧
  (∀ (s : State) (r : Reply), s.sl.slot = some r →
    exec (.replyRead r.frame.length) s = .next { s with sl := { s.sl with shifted := r.frame, slot := none } }) ∧
  ∀ (s : State) (n : Nat) (r : Reply), s.sl.slot = some r → r.frame.length < n →
    ∃ tail, tail.length = n - r.frame.length ∧
      exec (.replyRead n) s =
        .next { s with sl := { s.sl with shifted := r.frame ++ tail, slot := none }, free := s.free + 1 }

/-- R193 and R204: the frame that carries a well-formed request is judged to be that request, with every field as it was
sent (a target byte of 4 names the truck). The order of fields, and the value byte of AMEND_CEILING's notify field, are log 12. -/
def Obligations.WellFormedFrameIsItsRequest : Prop :=
  ∀ (i : Instr) (code : Nat) (p : List Byte), i.wf = true → encodeRequest i = some (code, p) →
    judgeFrame (requestFrame (BitVec.ofNat 8 code) p) false = .request i.targeted

/-- R204's CRC, REPORT frame and descriptor word: every field comes back as it was sent; the samples fix the bytes. -/
def Obligations.FramesAndWordsDecodeToTheirFields : Prop :=
  (∀ f : ReportFrame, f.id ≤ 3 → f.echo ≤ 15 → mag f.report.torque ≤ 1000 → mag f.report.wheel ≤ 700 →
    mag f.report.motor ≤ 32767 → mag f.report.inverter ≤ 32767 → f.report.regen ≤ 3000 →
    parseReport (encodeReport f) = some f) ∧
  (∀ d : Desc, d.legal → wordFault (descWord d) = none ∧ descOf (descWord d) = d) ∧
  crc16 [0x31, 0x32, 0x33, 0x34, 0x35, 0x36, 0x37, 0x38, 0x39] = 0x29B1#16 ∧
  judgeFrame [0x01, 0x00, 0x2E, 0x3E] false = .request .identify ∧
  judgeFrame [0x01, 0x00, 0x2E, 0x3E] true = .malformed .length ∧
  judgeFrame [0x01, 0x00, 0x2E, 0x00] false = .malformed .crc ∧
  judgeFrame [0x01, 0x01, 0x2E, 0x3E] false = .malformed .length ∧
  judgeFrame [0x05, 0x00, 0xE2, 0xFA] false = .malformed .code ∧
  descOf 0x00C9CC4B08#40 = .span 100 (-52) 300 .dry true

/-- R185 and R199: the FAULT line and ATTN. -/
def Obligations.LinesFollowTripsLevelAndNotices : Prop :=
  ∀ s : State,
    (s.faultLine = true ↔ (∃ n, (s.puStation n).copy = .tripped) ∨ s.pu.level ≠ .normal) ∧
    (s.attn = true ↔ s.sl.notices ≠ NoticeSet.none ∨ (∃ n, (s.puStation n).copy = .tripped) ∨ s.pu.level ≠ .normal)

/-- R21, R22, R23, R49, R70, R91, R96, R115, R138, R157, R169 and R191: every request that only reads answers DONE (or
PARTIAL for a longer list) and changes nothing else; and the refusals. The order of payload fields, and the codes
that the spec leaves open, are log 11, the order of GRID's bank values log 12, what READ_ALLOCATION gives before the first pass and READ_STEERING before the first
update log 25. -/
def Obligations.ReadRequestsAnswerAndChangeNothing : Prop :=
  ∀ s : State, s.linkFree →
    exec .readEffective s =
      .next (replied s s .readEffective
        (done ((effectiveNine s.ct).flatMap fun c => u16 c.value ++ optHandle c.binding))) ∧
    exec .readAllocation s = .next (replied s s .readAllocation (done (allocationPayload s))) ∧
    (∀ n : Station, exec (.readStationContext n.num) s =
      .next (replied s s .readStationContext (done (s.station n).bytes))) ∧
    exec .readGrid s = .next (replied s s .readGrid (done (gridPayload s))) ∧
    (∀ g, g ≤ 63 → exec (.profileRead g) s =
      .next (replied s s .profileRead (done (readGroup s.rs.store g).bytes))) ∧
    exec .readRoute s = .next (replied s s .readRoute (done (routePayload s))) ∧
    exec .readGovernor s = .next (replied s s .readGovernor (done (governorPayload s))) ∧
    exec .readSteering s = .next (replied s s .readSteering (done (steeringPayload s))) ∧
    exec .readPayload s = .next (replied s s .readPayload (done (payloadPayload s))) ∧
    exec .readProtection s = .next (replied s s .readProtection (done (protectionPayload s))) ∧
    (∀ slot gen e r, slot ≤ 47 → 1 ≤ gen → s.ct[slot]? = some ⟨gen, e⟩ → e.held = some r →
      exec (.queryCeiling slot gen) s =
        .next (replied s s .queryCeiling (done (queryPayload s.ct ⟨slot, gen⟩ e r)))) ∧
    (∀ filter start, filter ≤ 5 → start ≤ 47 →
      let l := listed s.ct filter start
      (l.length ≤ 12 → exec (.listCeilings filter start) s =
        .next (replied s s .listCeilings
          (done (u8 l.length ++ u8 255 ++ l.flatMap fun p => summaryBytes p.1 p.2.1 p.2.2)))) ∧
      ∀ p, 12 < l.length → l[11]? = some p → exec (.listCeilings filter start) s =
        .next (replied s s .listCeilings
          ⟨.partly, some .more,
            u8 12 ++ u8 (p.1 + 1) ++ (l.take 12).flatMap fun p => summaryBytes p.1 p.2.1 p.2.2⟩)) ∧
    (∀ slot gen, 47 < slot →
      exec (.queryCeiling slot gen) s = .next (replied s s .queryCeiling (refuseValue .handle))) ∧
    (∀ slot gen, slot ≤ 47 → namesNoRecord s.ct slot gen →
      exec (.queryCeiling slot gen) s = .next (replied s s .queryCeiling (staleAnswer .noRecord))) ∧
    (∀ filter start, 5 < filter →
      exec (.listCeilings filter start) s = .next (replied s s .listCeilings (refuseValue .filter))) ∧
    (∀ filter start, filter ≤ 5 → 47 < start →
      exec (.listCeilings filter start) s = .next (replied s s .listCeilings (refuseValue .start))) ∧
    (∀ n, 4 ≤ n →
      exec (.readStationContext n) s = .next (replied s s .readStationContext (refuseValue .station))) ∧
    ∀ g, 63 < g → exec (.profileRead g) s = .next (replied s s .profileRead (refuseValue .group))

end

section

open Sys2Proof Sys2Proof.Machine

/-! ### The ceiling table (chapter 1) -/

/-- R8's three cases, and its comparison when an amendment removes or replaces the ramp. -/
def Obligations.TargetIsSetByThreeCases : Prop :=
  (∀ (r : CeilingRecord) (t : Nat), t ≤ r.current → r.setTarget t = { r with target := t, current := t }) ∧
  (∀ (r : CeilingRecord) (t k : Nat), r.current < t → r.ramp = some k → r.setTarget t = { r with target := t }) ∧
  (∀ (r : CeilingRecord) (t : Nat), r.current < t → r.ramp = none →
    r.setTarget t = { r with target := t, current := t }) ∧
  (∀ (r : CeilingRecord) (a : AmendReq), a.ramp = .remove → a.target = none → r.current < r.target →
    (r.amended a).current = r.target) ∧
  ∀ (r : CeilingRecord) (a : AmendReq) (k : Nat), a.ramp = .replace k → a.target = none → r.current < r.target →
    (r.amended a).current = r.current ∧ (r.amended a).ramp = some k

/-- R7, R18: an accepted placement takes the lowest-numbered FREE slot, renews its generation, and is in force at its
target; any other is refused by the first row of R18's table that calls for it. A notify byte other than 0 and 1 writes a
free value (log 13), and a scope byte above 15 is refused as an empty one is (log 24). -/
def Obligations.PlaceCeilingTakesLowestFreeSlot : Prop :=
  (∀ (s : State) (r : PlaceReq) (a : Answer), s.linkFree →
    let most := if r.kind = 0 then 1000 else 700
    let rows : List (Bool × Answer) :=
      [ (decide (1 < r.kind), refuseValue .kind),
        (decide (r.kind = 1) && (r.scope.isSome || r.direction.isSome), refuseValue .speedFields),
        (decide (r.kind = 0) && !(r.scope.any fun n => decide (1 ≤ n ∧ n ≤ 15)), refuseValue .scope),
        (decide (r.kind = 0) && !(r.direction.any fun d => decide (d ≤ 2)), refuseValue .direction),
        (decide (most < r.target), refuseValue .target),
        (r.ramp.any fun k => decide (k = 0 ∨ most < k), refuseValue .ramp),
        (r.expiry.any fun e => decide (1 < e.1 ∨ e.2 = 0), refuseValue .expiry),
        (decide (24 ≤ supervisorCount s.ct), refuseState .quota) ]
    (rows.find? Prod.fst).map Prod.snd = some a →
    exec (.placeCeiling r) s = .next (replied s s .placeCeiling a)) ∧
  ∀ (s : State) (r : PlaceReq) (i g : Nat) (limit : Limit),
    s.linkFree → supervisorCount s.ct < 24 →
    s.ct[i]? = some ⟨g, .free⟩ → (∀ (j : Nat) (x : Slot), j < i → s.ct[j]? = some x → x.entry ≠ .free) →
    ((r.kind = 0 ∧ ∃ n c scope dir, r.scope = some n ∧ scopeOf n = some scope ∧ r.direction = some c ∧
        directionOf c = some dir ∧ limit = .torque scope dir) ∨
      (r.kind = 1 ∧ r.scope = none ∧ r.direction = none ∧ limit = .speed)) →
    r.target ≤ limit.maximum → (∀ k, r.ramp = some k → 1 ≤ k ∧ k ≤ limit.maximum) →
    (∀ e, r.expiry = some e → e.1 ≤ 1 ∧ 1 ≤ e.2) →
    let gen := if g = 255 then 1 else g + 1
    exec (.placeCeiling r) s = .next (replied s
      { s with
        ct := s.ct.set i ⟨gen, .live
          { holder := .supervisor, limit := limit, target := r.target, current := r.target, ramp := r.ramp
            expiry := r.expiry.map fun e => ⟨if e.1 = 0 then .time else .distance, e.2, e.2⟩
            reason := r.reason
            notify := if r.notify = 0 then false else if r.notify = 1 then true else Config.freeNotify s.free }⟩
        free := if r.notify ≤ 1 then s.free else s.free + 1 }
      .placeCeiling (done [BitVec.ofNat 8 i, BitVec.ofNat 8 gen]))

/-- R19, R20, with R8 and R11: an amendment of a LIVE supervisor record, ramp and notify flag first, then the expiry with its
counter reloaded, then the target; and a retirement, to FADING with a ramp and room to rise, to FREE otherwise, with no
change to a record already FADING; and the refusals of either, by the first row of its table that calls for one. The payload
bytes of a retirement, and none for a record already FADING, are log 11; that a scope byte above 15 differs from any
record's is log 24. -/
def Obligations.AmendAndRetireActOnTheirRecord : Prop :=
  (∀ (s : State) (slot gen : Nat), s.linkFree →
    (47 < slot →
      exec (.retireCeiling slot gen) s = .next (replied s s .retireCeiling (refuseValue .handle)) ∧
      ∀ a : AmendReq, a.slot = slot →
        exec (.amendCeiling a) s = .next (replied s s .amendCeiling (refuseValue .handle))) ∧
    (slot ≤ 47 → namesNoRecord s.ct slot gen →
      exec (.retireCeiling slot gen) s = .next (replied s s .retireCeiling (staleAnswer .noRecord)) ∧
      ∀ a : AmendReq, a.slot = slot → a.gen = gen →
        exec (.amendCeiling a) s = .next (replied s s .amendCeiling (staleAnswer .noRecord))) ∧
    ∀ (e : SlotEntry) (r : CeilingRecord), slot ≤ 47 → 1 ≤ gen → s.ct[slot]? = some ⟨gen, e⟩ → e.held = some r →
      (r.holder ≠ .supervisor →
        exec (.retireCeiling slot gen) s = .next (replied s s .retireCeiling (refuseState .notOwner))) ∧
      ∀ (a : AmendReq) (x : Answer), a.slot = slot → a.gen = gen →
        let rows : List (Bool × Answer) :=
          [ (decide (r.holder ≠ .supervisor), refuseState .notOwner),
            (decide (e = .fading r), refuseState .fading),
            ((a.kind.any fun k => decide (k ≠ r.limit.kindCode))
              || (a.scope.any fun n => decide (r.limit.scopeCode ≠ some n))
              || (a.direction.any fun d => decide (r.limit.directionCode ≠ some d)), refuseValue .fixedField),
            (a.target.any fun t => decide (r.limit.maximum < t), refuseValue .target),
            (match a.ramp with
              | .replace k => decide (k = 0 ∨ r.limit.maximum < k)
              | .leave | .remove => false, refuseValue .ramp),
            (match a.expiry with
              | .replace y => decide (1 < y.1 ∨ y.2 = 0)
              | .leave | .remove => false, refuseValue .expiry) ]
        (rows.find? Prod.fst).map Prod.snd = some x →
        exec (.amendCeiling a) s = .next (replied s s .amendCeiling x)) ∧
  (∀ (s : State) (a : AmendReq) (r : CeilingRecord),
    s.linkFree → a.slot ≤ 47 → 1 ≤ a.gen → s.ct[a.slot]? = some ⟨a.gen, .live r⟩ → r.holder = .supervisor →
    (∀ k, a.kind = some k → k = r.limit.kindCode) → (∀ n, a.scope = some n → r.limit.scopeCode = some n) →
    (∀ d, a.direction = some d → r.limit.directionCode = some d) →
    (∀ t, a.target = some t → t ≤ r.limit.maximum) →
    (∀ k, a.ramp = .replace k → 1 ≤ k ∧ k ≤ r.limit.maximum) →
    (∀ e, a.expiry = .replace e → e.1 ≤ 1 ∧ 1 ≤ e.2) →
    let q := CeilingRecord.setTarget
      { r with
        ramp := match a.ramp with
          | .leave => r.ramp
          | .replace k => some k
          | .remove => none
        notify := a.notify.getD r.notify
        expiry := match a.expiry with
          | .leave => r.expiry.map fun e => { e with counter := e.full }
          | .replace e => some ⟨if e.1 = 0 then .time else .distance, e.2, e.2⟩
          | .remove => none }
      (a.target.getD r.target)
    exec (.amendCeiling a) s =
      .next (replied s { s with ct := s.ct.set a.slot ⟨a.gen, .live q⟩ } .amendCeiling
        (done (u16 q.target ++ u16 q.current ++ optU16 (q.expiry.map Countdown.counter))))) ∧
  ∀ (s : State) (slot gen : Nat) (r : CeilingRecord),
    s.linkFree → slot ≤ 47 → 1 ≤ gen → r.holder = .supervisor →
    (s.ct[slot]? = some ⟨gen, .live r⟩ → r.ramp ≠ none → r.current < r.limit.maximum →
      exec (.retireCeiling slot gen) s = .next (replied s
        { s with ct := s.ct.set slot ⟨gen, .fading { r with target := r.limit.maximum, expiry := none }⟩ }
        .retireCeiling (done [0]))) ∧
    (s.ct[slot]? = some ⟨gen, .live r⟩ → r.ramp = none ∨ r.limit.maximum ≤ r.current →
      exec (.retireCeiling slot gen) s =
        .next (replied s { s with ct := s.ct.set slot ⟨gen, .free⟩ } .retireCeiling (done [1]))) ∧
    (s.ct[slot]? = some ⟨gen, .fading r⟩ →
      exec (.retireCeiling slot gen) s = .next (replied s s .retireCeiling (doneAlert .alreadyFading [])))

/-- R9: the ramp step of one slot. -/
def Obligations.RampStepRisesTowardTarget : Prop :=
  (∀ (g k : Nat) (r : CeilingRecord), r.current < r.target → r.ramp = some k →
    Slot.rampStep ⟨g, .live r⟩ = ⟨g, .live { r with current := min (r.current + k) r.target }⟩) ∧
  (∀ (g k : Nat) (r : CeilingRecord), r.current < r.target → r.target = r.limit.maximum → r.ramp = some k →
    Slot.rampStep ⟨g, .fading r⟩ =
      if r.target ≤ r.current + k then ⟨g, .free⟩ else ⟨g, .fading { r with current := r.current + k }⟩) ∧
  ∀ (x : Slot) (r : CeilingRecord), x.entry.held = some r → r.target ≤ r.current → x.rampStep = x

/-- R9 to R12, R198: the table timer takes the ramp step and then the TIME countdown of every slot, a metre event the
DISTANCE countdown; a counter that stands at 0 retires its record at RECORD_EXPIRY (log 8: elsewhere that row does
nothing). The handles of notifying records that expire go to the retired-handle list, once each, while it has room. That a
counter of full value 1 reaches 0 at the next countdown after a claim has reloaded it is log 45. -/
def Obligations.CountdownsRetireExpiredRecords : Prop :=
  (∀ (s : State) (kind : ExpiryKind) (c : Instr) (before : List Slot),
    (c = .tableTimer ∧ kind = .time ∧ before = s.ct.map Slot.rampStep) ∨
      ((∃ d, c = .distanceExpiryCount d) ∧ kind = .distance ∧ before = s.ct) →
    ∃ t, exec c s = .next t ∧ t.ct = before.map (Slot.counted kind) ∧
      t = { s with ct := t.ct, sl := t.sl } ∧
      t.sl = { s.sl with notices := t.sl.notices, retired := t.sl.retired, overflow := t.sl.overflow } ∧
      ((∀ x ∈ before, ¬ x.tellsExpiry kind) → t.sl = s.sl) ∧
      ∀ i x, before[i]? = some x → x.tellsExpiry kind →
        t.sl.notices.recordRetired = true ∧ (⟨i, x.gen⟩ ∈ t.sl.retired ∨ t.sl.overflow = true)) ∧
  (∀ (s : State) (slot g : Nat) (r : CeilingRecord) (e : Countdown),
    s.ct[slot]? = some ⟨g, .live r⟩ → r.expiry = some e →
    (e.counter = 0 → r.notify = false →
      exec (.recordExpiry slot) s = .next { s with ct := s.ct.set slot ⟨g, r.retired⟩ }) ∧
    (e.counter = 0 → r.notify = true → s.sl.retired.length < 8 → ⟨slot, g⟩ ∉ s.sl.retired →
      exec (.recordExpiry slot) s = .next
        { s with
          ct := s.ct.set slot ⟨g, r.retired⟩
          sl := { s.sl with
            notices := { s.sl.notices with recordRetired := true }
            retired := s.sl.retired ++ [⟨slot, g⟩] } }) ∧
    (e.counter = 0 → r.notify = true → ⟨slot, g⟩ ∈ s.sl.retired →
      exec (.recordExpiry slot) s = .next
        { s with
          ct := s.ct.set slot ⟨g, r.retired⟩
          sl := { s.sl with notices := { s.sl.notices with recordRetired := true } } }) ∧
    (e.counter = 0 → r.notify = true → 8 ≤ s.sl.retired.length → ⟨slot, g⟩ ∉ s.sl.retired →
      exec (.recordExpiry slot) s = .next
        { s with
          ct := s.ct.set slot ⟨g, r.retired⟩
          sl := { s.sl with notices := { s.sl.notices with recordRetired := true }, overflow := true } }) ∧
    (0 < e.counter → exec (.recordExpiry slot) s = .next s)) ∧
  ∀ (s : State) (slot : Nat),
    (∀ g r e, s.ct[slot]? = some ⟨g, .live r⟩ → r.expiry = some e → 0 < e.counter) →
    exec (.recordExpiry slot) s = .next s

/-- R13, R14, R15: the claims of an internal key, by the state of the key's record. That a ramp or an expiry outside R5's ranges
is taken as it is given is log 33. -/
def Obligations.InternalClaimsSetAndRetireTheirRecord : Prop :=
  ∀ (s : State) (k : Key) (v : Int) (ramp : Option Nat) (expiry : Option Expiry) (i g : Nat),
    let value := (hold 0 ((keyLimit k).maximum : Nat) v).toNat
    let counted := expiry.map fun e => (⟨e.kind, e.full, e.full⟩ : Countdown)
    ((∀ x ∈ s.ct, x.holdsKey k = false) →
      s.ct[i]? = some ⟨g, .free⟩ → (∀ (j : Nat) (x : Slot), j < i → s.ct[j]? = some x → x.entry ≠ .free) →
      exec (.setClaim k v ramp expiry) s = .next
        { s with
          ct := s.ct.set i ⟨if g = 255 then 1 else g + 1, .live
            { holder := .internal k, limit := keyLimit k, target := value, current := value, ramp := ramp
              expiry := counted, reason := keyReason k, notify := false }⟩ } ∧
      exec (.retireClaim k ramp) s = .next s) ∧
    ∀ r : CeilingRecord, r.holder = .internal k →
      (∀ (j : Nat) (x : Slot), j < i → s.ct[j]? = some x → x.holdsKey k = false) →
      (s.ct[i]? = some ⟨g, .live r⟩ ∨ s.ct[i]? = some ⟨g, .fading r⟩ →
        exec (.setClaim k v ramp expiry) s = .next
          { s with
            ct := s.ct.set i ⟨g, .live (CeilingRecord.setTarget { r with ramp := ramp, expiry := counted } value)⟩ }) ∧
      (s.ct[i]? = some ⟨g, .live r⟩ →
        exec (.retireClaim k ramp) s = .next
          { s with
            ct := s.ct.set i ⟨g, CeilingRecord.retired
              { r with ramp := match ramp with
                | some p => some p
                | none => r.ramp }⟩ }) ∧
      (s.ct[i]? = some ⟨g, .fading r⟩ → exec (.retireClaim k ramp) s = .next s)

/-- R17: an effective ceiling is the lowest current value of the records that match, held by the lowest-numbered slot with
that value, and the maximum where none matches. -/
def Obligations.EffectiveCeilingIsLowestMatch : Prop :=
  ∀ (t : List Slot) (most : Nat) (p : CeilingRecord → Bool) (c : Ceiling),
    ((∃ n retard, most = 1000 ∧ p = CeilingRecord.limitsTorque n retard ∧ c = torqueCeiling t n retard) ∨
      (most = 700 ∧ p = CeilingRecord.limitsSpeed ∧ c = speedCeiling t) ∨
      (∃ k, most = 700 ∧ (p = fun r => r.limitsSpeed && r.holder != .internal k) ∧ c = speedCeilingBut t k) ∨
      ∃ o, most = 700 ∧ (p = fun r => r.limitsSpeed && r.holder.owner != o) ∧ c = speedCeilingButOwner t o) →
    (∀ (i : Nat) (x : Slot) (r : CeilingRecord), t[i]? = some x → x.entry.held = some r → p r = true →
      c.binding ≠ none ∧ c.value ≤ r.current) ∧
    (c.binding = none → c.value = most) ∧
    ∀ h, c.binding = some h → ∃ (x : Slot) (r : CeilingRecord),
      t[h.slot]? = some x ∧ x.gen = h.gen ∧ x.entry.held = some r ∧ p r = true ∧ r.current = c.value ∧
      ∀ (j : Nat) (y : Slot) (q : CeilingRecord), j < h.slot → t[j]? = some y → y.entry.held = some q → p q = true →
        c.value < q.current

/-- R3 to R6, R11: the table keeps its form at every step. -/
def Obligations.CeilingTableStaysLegal : Prop :=
  ∀ s t : State, tableLegal s.ct → step s = .next t → tableLegal t.ct

/-! ### Settings -/

/-- R30, R76, R143, R162, R175: each CONFIGURE request is refused by the first check that fails, and otherwise writes its
values with the configured mark and echoes them. The order of the values in CONFIGURE_GRID's echo is log 12. -/
def Obligations.ConfigureRequestsCheckThenWrite : Prop :=
  ∀ s : State, s.linkFree →
    (∀ w slew, exec (.configureDrive w slew) s = .next
      (if s.ta.state ≠ .disarmed then replied s s .configureDrive (refuseState .armed)
      else if 1000 < w.s0 ∨ 1000 < w.s1 ∨ 1000 < w.s2 ∨ 1000 < w.s3 then
        replied s s .configureDrive (refuseValue .weight)
      else if w.s0 = 0 ∧ w.s1 = 0 ∧ w.s2 = 0 ∧ w.s3 = 0 then replied s s .configureDrive (refuseValue .weightsZero)
      else if slew < 10 ∨ 200 < slew then replied s s .configureDrive (refuseValue .slew)
      else replied s { s with ta := { s.ta with weights := w, slew := slew, configured := true } } .configureDrive
        (done (u16 w.s0 ++ u16 w.s1 ++ u16 w.s2 ++ u16 w.s3 ++ u8 slew)))) ∧
    (∀ r, exec (.configureGrid r) s = .next
      (if s.ta.state ≠ .disarmed then replied s s .configureGrid (refuseState .armed)
      else if r.ratedA < 1000 ∨ 6000 < r.ratedA ∨ r.ratedB < 1000 ∨ 6000 < r.ratedB then
        replied s s .configureGrid (refuseValue .rated)
      else if r.capA < 10000 ∨ 120000 < r.capA ∨ r.capB < 10000 ∨ 120000 < r.capB then
        replied s s .configureGrid (refuseValue .capacity)
      else if r.coolA < 100 ∨ 1500 < r.coolA ∨ r.coolB < 100 ∨ 1500 < r.coolB then
        replied s s .configureGrid (refuseValue .cooling)
      else if r.altitude < 50 ∨ 100 < r.altitude then replied s s .configureGrid (refuseValue .altitude)
      else if r.dcMax < 1200 ∨ 3000 < r.dcMax then replied s s .configureGrid (refuseValue .dcMax)
      else replied s
        { s with
          gd := { s.gd with
            cfg := ⟨⟨r.ratedA, r.ratedB⟩, ⟨r.capA, r.capB⟩, ⟨r.coolA, r.coolB⟩, r.altitude, r.dcMax⟩
            configured := true
            banks :=
              ⟨{ s.gd.banks.a with heat := min s.gd.banks.a.heat r.capA },
                { s.gd.banks.b with heat := min s.gd.banks.b.heat r.capB }⟩ } }
        .configureGrid (done r.bytes))) ∧
    (∀ ratio gain ramp most reserve, exec (.configureSteering ratio gain ramp most reserve) s = .next
      (if s.ta.state ≠ .disarmed then replied s s .configureSteering (refuseState .armed)
      else if ratio < 20 ∨ 200 < ratio then replied s s .configureSteering (refuseValue .ratio)
      else if gain = 0 ∨ 200 < gain then replied s s .configureSteering (refuseValue .gain)
      else if ramp = 0 ∨ 700 < ramp then replied s s .configureSteering (refuseValue .ramp)
      else if 150 < most then replied s s .configureSteering (refuseValue .assistMax)
      else if reserve < 20 ∨ 200 < reserve then replied s s .configureSteering (refuseValue .reserve)
      else replied s
        { s with
          sc := { s.sc with
            ratio := ratio, gain := gain, envRamp := ramp, assistMax := most, reserve := reserve, configured := true } }
        .configureSteering (done (u8 ratio ++ u8 gain ++ u16 ramp ++ u8 most ++ u8 reserve)))) ∧
    (∀ e r sprung v, exec (.configurePayload e r sprung v) s = .next
      (if s.ta.state ≠ .disarmed then replied s s .configurePayload (refuseState .armed)
      else if e < 50 ∨ 400 < e then replied s s .configurePayload (refuseValue .emptyMass)
      else if r < 50 ∨ 450 < r then replied s s .configurePayload (refuseValue .rated)
      else if 300 < sprung ∨ e < sprung then replied s s .configurePayload (refuseValue .sprung)
      else if v < 50 ∨ 700 < v then replied s s .configurePayload (refuseValue .speed)
      else replied s
        { s with
          pm := { s.pm with emptyMass := e, rated := r, sprung := sprung, over10Speed := v, configured := true } }
        .configurePayload (done (u16 e ++ u16 r ++ u16 sprung ++ u16 v)))) ∧
    ∀ motor inverter, exec (.configureProtection motor inverter) s = .next
      (if s.ta.state ≠ .disarmed then replied s s .configureProtection (refuseState .armed)
      else if motor < 80 ∨ 200 < motor then replied s s .configureProtection (refuseValue .motorWarn)
      else if inverter < 50 ∨ 120 < inverter then replied s s .configureProtection (refuseValue .inverterWarn)
      else replied s
        { s with pu := { s.pu with motorWarn := motor, inverterWarn := inverter, configured := true } }
        .configureProtection (done [BitVec.ofNat 8 motor, BitVec.ofNat 8 inverter]))

/-- R81 and R90, R120 and R122, R152 and R153, R156: the settings that TA's state does not guard, accepted and refused. That
the remainder of the lead energy restarts with it is log 20, that the remaining distance, the sustainable speed and
the approach cap stand when DG is disabled log 42, that a refused envelope names the lowest-numbered row at fault log 47,
and the bytes of the lead bank in SET_BANK_ORDER's reply log 11. -/
def Obligations.SettingRequestsWrite : Prop :=
  ∀ s : State, s.linkFree →
    (∀ code order, Machine.orderOf code = some order →
      let lead := settledLead order s.gd.lead fun k => (s.bank k).state == .failed
      let shown := u8 order.code ++ optBank lead
      ∃ banks : PerBank BankRec,
        exec (.setBankOrder code) s = .next (replied s
          { s with gd := { s.gd with order := order, lead := lead, banks := banks } } .setBankOrder
          (if ∃ k, order.named = some k ∧ (s.bank k).state = .failed then doneAlert .leadFailed shown else done shown)) ∧
        (lead = s.gd.lead → banks = s.gd.banks) ∧
        (lead ≠ s.gd.lead → ∀ k, banks.get k = { s.bank k with leadEnergy := 0, leadRem := 0 })) ∧
    (∀ failed lead,
      settledLead .fixedA lead failed =
        (if failed .a = false then some .a else if failed .b = false then some .b else none) ∧
      settledLead .fixedB lead failed =
        (if failed .b = false then some .b else if failed .a = false then some .a else none) ∧
      settledLead .alternate lead failed =
        match lead with
        | some k => if failed k = false then some k else if failed k.other = false then some k.other else none
        | none => if failed .a = false then some .a else if failed .b = false then some .b else none) ∧
    (∀ code, 3 ≤ code → exec (.setBankOrder code) s = .next (replied s s .setBankOrder (refuseValue .order))) ∧
    (∀ mode, 2 ≤ mode → exec (.governorMode mode) s = .next (replied s s .governorMode (refuseValue .mode))) ∧
    (∀ on : Bool, s.dg.enabled = on →
      exec (.governorMode (if on then 0 else 1)) s = .next (replied s s .governorMode
        (doneAlert .noChange (u8 (if on then 0 else 1) ++ u8 s.dg.state.code)))) ∧
    (s.dg.enabled = false → s.dg.state = .off →
      exec (.governorMode 0) s = .next (replied s
        { s with dg := { s.dg with enabled := true, state := .standby } } .governorMode
        (done [0, 1]))) ∧
    (s.dg.enabled = true → s.dg.state.active = false →
      exec (.governorMode 1) s = .next (replied s
        { s with dg := { s.dg with enabled := false, state := .off } } .governorMode (done [1, 0]))) ∧
    (s.dg.enabled = true → s.dg.state.active = true →
      exec (.governorMode 1) s = .next (replied s
        { s with
          ct := claimRetire (claimRetire s.ct .governorTarget none) .governorForecast none
          dg := { s.dg with
            enabled := false, state := .off, claimed := none, target := none, lastApply := none, demand := 0 } }
        .governorMode (done [1, 0]))) ∧
    (∀ table : EnvTable, (∀ r ∈ table.rows, r.speed ≤ 700 ∧ r.angle ≤ 450) → table.r0.speed = 0 →
      table.rows.Pairwise (fun a b => a.speed < b.speed ∧ b.angle ≤ a.angle) →
      exec (.steerEnvelope table) s = .next (replied s { s with sc := { s.sc with envelope := table } } .steerEnvelope
        (done (table.rows.flatMap fun r => u16 r.speed ++ u16 r.angle)))) ∧
    (∀ table : EnvTable,
      let first (bad : Nat → Bool) := (List.range 8).find? bad
      let pair (bad : EnvRow → EnvRow → Bool) (i : Nat) : Bool := match i with
        | 0 => false
        | j + 1 => (table.rows[j]?).any fun p => (table.rows[j + 1]?).any fun q => bad p q
      let range := first fun i => (table.rows[i]?).any fun r => decide (700 < r.speed ∨ 450 < r.angle)
      let speeds := first (pair fun p q => decide (q.speed ≤ p.speed))
      let angles := first (pair fun p q => decide (p.angle < q.angle))
      (∀ i, range = some i → exec (.steerEnvelope table) s =
        .next (replied s s .steerEnvelope ⟨.refusedValue, some .range, u8 i⟩)) ∧
      (range = none → table.r0.speed ≠ 0 → exec (.steerEnvelope table) s =
        .next (replied s s .steerEnvelope (refuseValue .firstRow))) ∧
      (∀ i, range = none → table.r0.speed = 0 → speeds = some i → exec (.steerEnvelope table) s =
        .next (replied s s .steerEnvelope ⟨.refusedValue, some .speedOrder, u8 i⟩)) ∧
      ∀ i, range = none → table.r0.speed = 0 → speeds = none → angles = some i → exec (.steerEnvelope table) s =
        .next (replied s s .steerEnvelope ⟨.refusedValue, some .angleOrder, u8 i⟩)) ∧
    (∀ enable gain, 2 ≤ enable →
      exec (.setAssist enable gain) s = .next (replied s s .setAssist (refuseValue .enable))) ∧
    (∀ enable gain, enable ≤ 1 → 100 < gain →
      exec (.setAssist enable gain) s = .next (replied s s .setAssist (refuseValue .gain))) ∧
    ∀ (on : Bool) (gain : Nat), gain ≤ 100 →
      exec (.setAssist (if on then 0 else 1) gain) s = .next (replied s
        { s with sc := { s.sc with assistOn := on, assistGain := gain } } .setAssist
        (done (u8 (if on then 0 else 1) ++ u8 gain ++ s16 s.sc.bias)))

end

section

open Sys2Proof Sys2Proof.Machine

/-! ### Torque allocation (chapter 2) -/

/-- R31: the refusals of ARM, and its acceptance: ARMING, the request in flight, and a self-check started on both banks
(R78), A before B (log 21), with the lead settled, the GRID record evaluated at each start (R86) and GF tested (R87). The
payload of NOT_CONFIGURED is log 11, the share of a bank that enters CHECKING log 41. -/
def Obligations.ArmStartsBothChecks : Prop :=
  ∀ s : State, s.linkFree →
    (s.ta.state.armed = true → exec .arm s = .next (replied s s .arm (refuseState .alreadyArmed))) ∧
    (s.ta.state.armed = false → unconfigured s ≠ 0 →
      exec .arm s = .next (replied s s .arm ⟨.refusedState, some .notConfigured, u8 (unconfigured s)⟩)) ∧
    (s.ta.state.armed = false → unconfigured s = 0 →
      (∀ n, (s.station n).link = .lost ∨ (s.station n).state = .absent) →
      exec .arm s = .next (replied s s .arm (refuseState .noStations))) ∧
    ∀ n, s.ta.state.armed = false → unconfigured s = 0 → (s.station n).link = .alive → (s.station n).state ≠ .absent →
      ∃ t, exec .arm s = .next t ∧
        t = { s with ct := t.ct, ta := t.ta, gd := t.gd, sl := t.sl, handed := t.handed } ∧
        t.ta = { s.ta with state := .arming } ∧
        t.sl = { s.sl with
          receiving := [], slot := none, overrun := s.sl.overrun || s.sl.slot.isSome, inFlight := some .arm } ∧
        (∀ k, t.bank k = { s.bank k with
          state := .checking, chopper := 200, avail := 0, openCount := 0, checkTimer := some 200
          recheck := (s.bank k).state == .failed
          leadEnergy := (t.bank k).leadEnergy, leadRem := (t.bank k).leadRem }) ∧
        t.gd = { s.gd with
          banks := t.gd.banks, lead := t.gd.lead, gf := t.gd.gf, gridValue := t.gd.gridValue
          published := t.gd.published } ∧
        t.gd.published = t.gd.figures ∧
        (banksLegal s.gd →
          t.gd.lead = settledLead s.gd.order s.gd.lead (fun _ => false) ∧
          (t.gd.lead ≠ s.gd.lead → ∀ k, (t.bank k).leadEnergy = 0 ∧ (t.bank k).leadRem = 0) ∧
          (t.gd.lead = s.gd.lead →
            ∀ k, (t.bank k).leadEnergy = (s.bank k).leadEnergy ∧ (t.bank k).leadRem = (s.bank k).leadRem)) ∧
        (let hot : Bool := [Bank.a, .b].any fun k => decide (percent 80 (s.gd.cfg.capacity.get k) ≤ (s.bank k).heat)
        let failed (k : Bank) : Bool := (s.bank k).state == .failed
        let half := gridEvaluated s.ct s.gd.gridValue
          (hot || failed .a || failed .b || ((s.bank .b).state == .checking && (s.bank .b).recheck))
          (min 1000 (1000 * (s.bank .b).avail / (s.gd.cfg.rated.a + s.gd.cfg.rated.b)))
        (t.gd.gridValue, t.ct) = gridEvaluated half.2 half.1 (hot || failed .a || failed .b) 0 ∧
        t.gd.gf = (failed .a || failed .b || (s.bank .a).blowerMark || (s.bank .b).blowerMark)) ∧
        t.handed = s.handed ++ told .gf s.gd.gf t.gd.gf

/-- R79 and R31: a self-check ends when the bank's current reaches 20 ‰ or its timer expires; the event that takes the
last bank out of CHECKING answers the ARM in flight. The lead is settled, the GRID record evaluated (R86) and GF tested (R87)
at the same event. The selector it goes by is log 7, the share that stands log 41, the bank states in the answer NO_GRID
log 11. -/
def Obligations.CheckEndsSettleBankAndAnswerArm : Prop :=
  ∀ (s : State) (k : Bank),
    ((s.bank k).state ≠ .checking →
      exec (.bankCurrentSeen k) s = .next s ∧ exec (.checkTimerExpiry k) s = .next s) ∧
    ∀ (c : Instr) (st : BankState),
      (c = .bankCurrentSeen k ∧ st = .ready) ∨ (c = .checkTimerExpiry k ∧ st = .failed) →
      (s.bank k).state = .checking →
      ∃ t, exec c s = .next t ∧
        t = { s with ct := t.ct, ta := t.ta, gd := t.gd, sl := t.sl, handed := t.handed } ∧
        t.bank k = { s.bank k with
          state := st, chopper := 0, checkTimer := none, recheck := false
          avail := availPower (s.gd.cfg.rated.get k) (s.gd.cfg.capacity.get k) (s.bank k).heat st
          leadEnergy := (t.bank k).leadEnergy, leadRem := (t.bank k).leadRem } ∧
        t.gd.lead = settledLead s.gd.order s.gd.lead (fun j => (t.bank j).state == .failed) ∧
        t.gd.published = t.gd.figures ∧
        t.gd = { s.gd with
          banks := t.gd.banks, lead := t.gd.lead, gf := t.gd.gf, gridValue := t.gd.gridValue
          published := t.gd.published } ∧
        t.bank k.other = { s.bank k.other with
          leadEnergy := (t.bank k.other).leadEnergy, leadRem := (t.bank k.other).leadRem } ∧
        (t.gd.lead ≠ s.gd.lead → ∀ j, (t.bank j).leadEnergy = 0 ∧ (t.bank j).leadRem = 0) ∧
        (t.gd.lead = s.gd.lead →
          ∀ j, (t.bank j).leadEnergy = (s.bank j).leadEnergy ∧ (t.bank j).leadRem = (s.bank j).leadRem) ∧
        (let unproven (j : Bank) : Bool :=
          (t.bank j).state == .failed || ((t.bank j).state == .checking && (t.bank j).recheck)
        let condition : Bool := [Bank.a, .b].any fun j =>
          decide (percent 80 (s.gd.cfg.capacity.get j) ≤ (t.bank j).heat) || unproven j
        let value := min 1000
          (1000 * ((t.bank .a).avail + (t.bank .b).avail) / (s.gd.cfg.rated.a + s.gd.cfg.rated.b))
        (t.gd.gridValue, t.ct) = gridEvaluated s.ct s.gd.gridValue condition value ∧
        t.gd.gf = (unproven .a || unproven .b || (t.bank .a).blowerMark || (t.bank .b).blowerMark)) ∧
        t.handed = s.handed ++ told .gf s.gd.gf t.gd.gf
          ++ (if s.sl.inFlight = some .arm ∧ (s.bank k.other).state ≠ .checking ∧
              ¬ (st = .failed ∧ (s.bank k.other).state = .failed) then [.armingEvent] else []) ∧
        (s.sl.inFlight ≠ some .arm ∨ (s.bank k.other).state = .checking → t.ta = s.ta ∧ t.sl = s.sl) ∧
        (s.sl.inFlight = some .arm → (s.bank k.other).state ≠ .checking →
          let failed : Nat := (if st = .failed then 1 else 0) + if (s.bank k.other).state = .failed then 1 else 0
          t.sl.inFlight = none ∧
          (∃ r, t.sl.slot = some r ∧ r.req = some .arm ∧ r.payload = t.armPayload ∧
            (r.cls, r.detail) =
              match failed with
              | 0 => (.done, none)
              | 1 => (.doneAlert, some .bankFailed)
              | _ => (.abandoned, some .noGrid)) ∧
          t.ta = { s.ta with
            state := if failed = 2 then .disarmed else if s.ta.selector = .neutral then .neutral else .coast } ∧
          (.armingEvent ∈ t.handed ↔ failed ≠ 2 ∨ .armingEvent ∈ s.handed))

/-- R33, R55: DISARM, and the arming event that SM takes of its own (log 18). That the grant last sent stands at a DISARM is
log 49. -/
def Obligations.DisarmAndArmingMoveStations : Prop :=
  ∀ s : State,
    (s.linkFree → s.ta.state = .disarmed →
      exec .disarm s = .next (replied s s .disarm (doneAlert .alreadyDisarmed []))) ∧
    (s.linkFree → s.ta.state ≠ .disarmed → 5 ≤ s.ta.speed →
      exec .disarm s = .next (replied s s .disarm (refuseState .moving))) ∧
    (s.linkFree → s.ta.state ≠ .disarmed → s.ta.speed < 5 →
      let st (n : Station) (x : StationState) : StationState := if (s.station n).state.driven then .standby else x
      exec .disarm s = .next (replied s
        { s with
          ta := { s.ta with state := .disarmed }
          sm := .of fun n => { s.station n with state := st n (s.station n).state }
          pu := { s.pu with stations := .of fun n => { s.puStation n with copy := st n (s.puStation n).copy } } }
        .disarm (done []))) ∧
    (s.ta.state.armed = false → exec .armingEvent s = .next s) ∧
    (s.ta.state.armed = true →
      let goes (n : Station) : Bool := (s.station n).state == .standby && !(s.station n).settings.tripping
      exec .armingEvent s = .next
        { s with
          sm := .of fun n => { s.station n with state := if goes n then .live else (s.station n).state }
          pu := { s.pu with
            stations := .of fun n => { s.puStation n with copy := if goes n then .live else (s.puStation n).copy } } })

/-- R34 to R37, R48: what an allocation pass takes at its ports, the speed reference and wheel sign, the present travel,
the distance accumulator with its metre event, and what it hands on. That a pass takes 10 ms off the one-shot timers is
log 5, that readings outside their ports' ranges are held and that the DC-link reading travels with the power figure
log 6, the order of the handed events log 31. What the pass leaves for READ_ALLOCATION is R49. -/
def Obligations.PassDerivesSpeedTravelAndMetres : Prop :=
  ∀ (s : State) (p : PassPorts), s.ta.accum ≤ 3599 → s.ta.speed ≤ 700 →
    let wheel (n : Station) : Option Int :=
      if ((s.station n).state = .live ∨ (s.station n).state = .restoring ∨ (s.station n).state = .standby) ∧
        (s.station n).link = .alive then (s.station n).report.map Report.wheel else none
    let slips (n : Station) (w : Int) : Bool := decide ((s.puStation n).threshold < gap (mag w) s.ta.speed)
    let used : List Int := [.s0, .s1, .s2, .s3].filterMap fun n => (wheel n).filter fun w => !slips n w
    ∃ (t : State) (hands : PerStation GrantHand), exec (.allocationPass p) s = .next t ∧
      t = { s with ta := t.ta, sm := t.sm, gd := t.gd, handed := t.handed } ∧
      t.ta.slipMark = .of (fun n => (wheel n).map (slips n)) ∧
      t.ta.speed = (if used = [] then s.ta.speed else min 700 ((used.map mag).sum / used.length)) ∧ t.ta.speed ≤ 700 ∧
      t.ta.wheelSign = (if 0 < used.sum then .forward else if used.sum < 0 then .reverse else s.ta.wheelSign) ∧
      t.ta.selector =
        (if p.selForward ∧ ¬ p.selNeutral ∧ ¬ p.selReverse then .forward
        else if p.selReverse ∧ ¬ p.selForward ∧ ¬ p.selNeutral then .reverse else .neutral) ∧
      t.ta.accel = min 1000 p.accel ∧ t.ta.retardPedal = min 1000 p.retard ∧
      (t.ta.selector = .neutral → t.ta.travel = t.ta.wheelSign) ∧
      (∀ d, t.ta.selector.direction = some d →
        t.ta.travel = if t.ta.wheelSign ≠ d ∧ 5 ≤ t.ta.speed then t.ta.wheelSign else d) ∧
      t.ta.accum = (s.ta.accum + t.ta.speed) % 3600 ∧
      t.ta.power = min 12000
        ([Station.s0, .s1, .s2, .s3].map fun n =>
          if (s.station n).link = .alive then ((s.station n).report.map Report.regen).getD 0 else 0).sum ∧
      t.handed = s.handed ++ [.passArrival t.ta.slipMark t.ta.speed]
        ++ (if 3600 ≤ s.ta.accum + t.ta.speed then
          [match t.ta.travel with
            | .forward => .forwardMetreEvent
            | .reverse => .reverseMetreEvent,
            .distanceExpiryCount t.ta.travel, .windowMetre t.ta.travel] else [])
        ++ [.grantHandover hands t.ta.travel, .powerArrival t.ta.power (min 4000 p.dcLink)] ∧
      (∀ n, t.station n = { s.station n with
        deadline := (s.station n).deadline.map (· - 10), parkTimer := (s.station n).parkTimer.map (· - 10) }) ∧
      (∀ k, t.bank k = { s.bank k with checkTimer := (s.bank k).checkTimer.map (· - 10) }) ∧
      t.gd = { s.gd with banks := t.gd.banks } ∧
      t.ta = { t.ta with weights := s.ta.weights, slew := s.ta.slew, configured := s.ta.configured } ∧
      t.ta.lastPass = ⟨t.ta.state, s.ta.weights, s.ta.slew, s.ta.configured⟩

/-- R38: the safe-stop reference, its fall count and the safe-stop demand, by the response level at each pass; no other
command but a reset moves the reference. -/
def Obligations.SafeStopReferenceFollowsLevel : Prop :=
  (∀ (s : State) (p : PassPorts), s.ta.fallCount ≤ 4 →
    ∃ t, exec (.allocationPass p) s = .next t ∧
      (s.pu.level = .safeStop → s.ta.safeRef = none → t.ta.safeRef = some t.ta.speed ∧ t.ta.fallCount = 0) ∧
      (∀ r, s.pu.level = .safeStop → s.ta.safeRef = some r →
        (s.ta.fallCount < 4 → t.ta.safeRef = some r ∧ t.ta.fallCount = s.ta.fallCount + 1) ∧
        (s.ta.fallCount = 4 → t.ta.safeRef = some (r - 1) ∧ t.ta.fallCount = 0)) ∧
      (s.pu.level ≠ .safeStop → t.ta.safeRef = none ∧ t.ta.drSafe = 0) ∧
      (s.pu.level = .safeStop → ∃ r, t.ta.safeRef = some r ∧ t.ta.drSafe = if r < t.ta.speed then 1000 else 0)) ∧
  ∀ (c : Instr) (s t : State), exec c s = .next t → c ≠ .softReset → c ≠ .hardReset → (∀ p, c ≠ .allocationPass p) →
    t.ta.safeRef = s.ta.safeRef ∧ t.ta.fallCount = s.ta.fallCount ∧ t.ta.drSafe = s.ta.drSafe

/-- R39, R40, R46, R47: the demands of a pass, the state it selects, the retard shortfall and the brake blend. That pedal
readings above 1000 are held is log 6. -/
def Obligations.PassSelectsStateFromDemands : Prop :=
  ∀ (s : State) (p : PassPorts),
    let armed := s.ta.state.armed
    ∃ t, exec (.allocationPass p) s = .next t ∧
      let reversal : Prop := ∃ d, t.ta.selector.direction = some d ∧ t.ta.wheelSign ≠ d ∧ 5 ≤ t.ta.speed
      let ceiling := (speedCeiling s.ct).value
      let c := if t.ta.selector = .reverse then min 80 ceiling else ceiling
      (t.ta.drPedal = min 1000 p.retard ∧ t.ta.drGovernor = s.dg.demand ∧ t.ta.drOverspeed = s.pu.osDemand ∧
        t.ta.dr = max (max t.ta.drPedal t.ta.drGovernor) (max t.ta.drOverspeed t.ta.drSafe)) ∧
      (armed = true → t.ta.dr = 0 → t.ta.selector ≠ .neutral → ¬ reversal →
        (c ≤ t.ta.speed → t.ta.dp = 0) ∧
        (t.ta.speed < c → c < t.ta.speed + 20 → t.ta.dp = min 1000 p.accel * (c - t.ta.speed) / 20) ∧
        (t.ta.speed + 20 ≤ c → t.ta.dp = min 1000 p.accel)) ∧
      (armed = false ∨ t.ta.dr ≠ 0 ∨ t.ta.selector = .neutral ∨ reversal → t.ta.dp = 0) ∧
      (armed = false → t.ta.state = s.ta.state ∧ t.ta.demand = .none) ∧
      (armed = true → reversal → t.ta.state = .reversalWait ∧ (t.ta.demand = .retard ↔ 0 < t.ta.dr) ∧
        t.ta.demand ≠ .propel) ∧
      (armed = true → ¬ reversal →
        (0 < t.ta.dr → 5 ≤ t.ta.speed → t.ta.state = .retard ∧ t.ta.demand = .retard) ∧
        (t.ta.dr = 0 ∨ t.ta.speed < 5 →
          (t.ta.selector = .neutral → t.ta.state = .neutral ∧ t.ta.demand = .none) ∧
          (t.ta.selector ≠ .neutral → 0 < t.ta.dp → t.ta.state = .propel ∧ t.ta.demand = .propel) ∧
          (t.ta.selector ≠ .neutral → t.ta.dp = 0 → t.ta.state = .coast ∧ t.ta.demand = .none))) ∧
      t.ta.shortfall = (if t.ta.demand = .retard then min 4000 (magSum t.ta.target - magSum t.ta.handed) else 0) ∧
      t.ta.blend = min 1000
        (max (max (t.ta.shortfall / 4) (if t.ta.speed < 5 then t.ta.dr else 0))
          (max (if s.pu.level = .stoppedSafe then 1000 else 0)
            (if ∃ n ∈ [Station.s0, .s1, .s2, .s3], (s.station n).state = .live then 0 else t.ta.dr)))

/-- R41 to R45: the targets of a pass, and the grants it hands over. Every grant lies within the station's effective
ceilings; a station that is not driven gets 0, a PARKING one the park ramp; a driven one slews toward its target, with no
change of sign in one pass; and a LIVE one adds what its own RETARD ceiling leaves room for of the retard that the clamp
took from its partner, and no more. -/
def Obligations.GrantsStayWithinCeilings : Prop :=
  ∀ (s : State) (p : PassPorts),
    ∃ (t : State) (hands : PerStation GrantHand), exec (.allocationPass p) s = .next t ∧
      .grantHandover hands t.ta.travel ∈ t.handed ∧
      let magnitude := match t.ta.demand with
        | .propel => t.ta.dp
        | .retard => t.ta.dr
        | .none => 0
      let bias (n : Station) : Int := match n, t.ta.demand with
        | .s2, .propel | .s3, .retard => s.sc.bias
        | .s3, .propel | .s2, .retard => -s.sc.bias
        | _, _ => 0
      let held (n : Station) (v : Int) : Int :=
        hold (-((torqueCeiling s.ct n true).value : Int)) ((torqueCeiling s.ct n false).value : Int) v
      let toward (n : Station) (a : Int) (l : Nat) : Int :=
        hold ((s.station n).lastGrant - l) ((s.station n).lastGrant + l) a
      let aim (n : Station) : Int :=
        if (s.station n).lastGrant.sign * (t.ta.target.get n).sign = -1 then 0 else t.ta.target.get n
      let slewed (n : Station) : Int := match (s.station n).state with
        | .live => if t.ta.state.armed then toward n (aim n) s.ta.slew else 0
        | .restoring => if t.ta.state.armed then toward n (aim n) (min 20 s.ta.slew) else 0
        | .parking => toward n 0 100
        | .absent | .standby | .tripped | .parked => 0
      let clamped (n : Station) : Int := held n (slewed n)
      let offered (n : Station) : Nat :=
        if t.ta.demand = .retard ∧ (s.station n).state.driven = true then mag (slewed n) - mag (clamped n) else 0
      let taken (n : Station) : Nat :=
        if (s.station n).state = .live ∧ (s.station n).lastGrant ≤ 0 ∧ clamped n ≤ 0 then
          min (offered n.partner) ((torqueCeiling s.ct n true).value - mag (clamped n)) else 0
      ∀ n,
        let x := s.station n
        let g := (hands.get n).grant
        let m := max 0 (min 1000
          (Int.tdiv ((magnitude * s.ta.weights.get n / 1000 : Nat) * (1000 + x.settings.trim)) 1000 + bias n))
        t.ta.target.get n =
          (if x.state.driven = true ∧ t.ta.demand = .propel then m
          else if x.state.driven = true ∧ t.ta.demand = .retard then -m else 0) ∧
        t.ta.handed.get n = g ∧
        -((torqueCeiling s.ct n true).value : Int) ≤ g ∧ g ≤ (torqueCeiling s.ct n false).value ∧
        g = held n (clamped n - taken n) ∧
        (x.state.driven = false → x.state ≠ .parking → g = 0) ∧
        (x.state = .parking → g = held n (toward n 0 100)) ∧
        (x.state = .restoring → t.ta.state.armed = true → g = held n (toward n (aim n) (min 20 s.ta.slew))) ∧
        (x.state = .live → t.ta.state.armed = true →
          t.ta.demand ≠ .retard ∨ (s.station n.partner).state.driven = false →
          g = held n (toward n (aim n) s.ta.slew)) ∧
        ((hands.get n).enable = true ↔ x.state = .parking ∨ (x.state.driven = true ∧ t.ta.state.armed = true)) ∧
        (hands.get n).clamped = (if x.state = .restoring then some (held n (t.ta.target.get n)) else none)

end

section

open Sys2Proof Sys2Proof.Machine

/-! ### Wheel stations and custody (chapter 3) -/

/-- R57 and R61: the GRANT frame of each link at a hand-over, and the RESTORING station that has caught up. -/
def Obligations.GrantHandoverSendsFrames : Prop :=
  ∀ (s : State) (hands : PerStation GrantHand) (travel : Travel),
    ∃ t, exec (.grantHandover hands travel) s = .next t ∧
      t = { s with sm := t.sm, pu := { s.pu with stations := t.pu.stations } } ∧
      ∀ n,
        let x := s.station n
        let h := hands.get n
        let catches : Bool := x.state == .restoring &&
          h.clamped.any fun c => decide (h.grant = c ∨ (h.grant.sign = c.sign ∧ mag c ≤ mag h.grant))
        let sends : Bool := h.enable && x.custody == .part && x.link == .alive &&
          (x.state == .live || x.state == .restoring || (x.state == .parking && x.parkOrigin != some .tripped))
        let grant : Int := if sends then h.grant else 0
        t.puStation n = { s.puStation n with copy := if catches then .live else (s.puStation n).copy } ∧
        t.station n = { x with
          state := if catches then .live else x.state
          frame := some { id := n.num, enable := sends, travel := travel, counter := x.roll, grant := grant }
          lastGrant := grant, lastEnable := sends
          lastTwo := (x.lastTwo ++ [x.roll]).drop (x.lastTwo.length - 1), roll := (x.roll + 1) % 16 }

/-- R58, R59 and R60: an invalid report is discarded, a valid one is taken and handed to PU by the station's state, and an
expired deadline loses the link. The quiet report of a PARKING station is the next
statement's. That a stopped deadline does not expire is log 5. -/
def Obligations.ReportsAndDeadlinesAreTaken : Prop :=
  (∀ (s : State) (n : Station) (bytes : List Byte),
    (∀ f, parseReport bytes = some f → f.id ≠ n.num ∨ f.echo ∉ (s.station n).lastTwo) →
    exec (.reportFrame n bytes) s = .next s) ∧
  (∀ (s : State) (n : Station) (bytes : List Byte) (f : ReportFrame),
    parseReport bytes = some f → f.id = n.num → f.echo ∈ (s.station n).lastTwo →
    (s.station n).state ≠ .parking ∨ 20 < mag f.report.torque →
    let x := s.station n
    let rises : Bool := x.state == .absent && f.report.ready
    let st : StationState := if rises then .standby else x.state
    exec (.reportFrame n bytes) s = .next
      { s with
        sm := s.sm.set n { x with state := st, report := some f.report, link := .alive, deadline := some 50 }
        pu := { s.pu with
          stations := s.pu.stations.set n { s.puStation n with copy := if rises then .standby else (s.puStation n).copy } }
        handed := s.handed ++
          if st = .absent ∨ st = .parked then []
          else [.reportJudgement n st ⟨f.report.motor, f.report.inverter, f.report.peakOc, f.report.invFault⟩] }) ∧
  ∀ (s : State) (n : Station),
    let x := s.station n
    (x.deadline = none → exec (.reportDeadlineExpiry n) s = .next s) ∧
    (x.deadline ≠ none → exec (.reportDeadlineExpiry n) s = .next
      { s with
        sm := s.sm.set n { x with link := .lost, deadline := none }
        handed := s.handed ++ if x.state = .absent ∨ x.state = .parked then [] else [.linkLostEvent n x.state] })

/-- R63, R62, R64 and R65: a park is refused or begins, and completes at a quiet report or at its timer's expiry. A stopped
timer is log 5, the travel of the DISABLE frame log 14, the mark byte before the answer's measured torque log 11. -/
def Obligations.ParkBeginsAndCompletes : Prop :=
  (∀ (s : State) (n : Nat), s.linkFree → 4 ≤ n →
    exec (.parkStation n) s = .next (replied s s .parkStation (refuseValue .station))) ∧
  (∀ (s : State) (n : Station), s.linkFree →
    ((s.station n).state = .absent →
      exec (.parkStation n.num) s = .next (replied s s .parkStation (refuseState .absent))) ∧
    ((s.station n).state = .parked →
      exec (.parkStation n.num) s = .next (replied s s .parkStation (refuseState .alreadyParked))) ∧
    ∀ origin : ParkOrigin,
      ((s.station n).state, origin) ∈ [(StationState.standby, ParkOrigin.standby), (StationState.live, ParkOrigin.live),
        (StationState.restoring, ParkOrigin.restoring), (StationState.tripped, ParkOrigin.tripped)] →
      exec (.parkStation n.num) s = .next
        { s with
          sm := s.sm.set n
            { s.station n with state := .parking, parkOrigin := some origin, parkTimer := some 3000 }
          pu := { s.pu with stations := s.pu.stations.set n { s.puStation n with copy := .parking } }
          sl := { s.sl with
            receiving := [], slot := none, overrun := s.sl.overrun || s.sl.slot.isSome, inFlight := some (.park n) } }) ∧
  (∀ (s : State) (n : Station) (bytes : List Byte) (f : ReportFrame),
    parseReport bytes = some f → f.id = n.num → f.echo ∈ (s.station n).lastTwo →
    (s.station n).state = .parking → mag f.report.torque ≤ 20 →
    ∃ t, exec (.reportFrame n bytes) s = .next t ∧
      parkCompleted s t n { s.station n with report := some f.report, link := .alive, deadline := some 50 } .done none ∧
      t.handed = s.handed ++
        [.reportJudgement n .parking ⟨f.report.motor, f.report.inverter, f.report.peakOc, f.report.invFault⟩]) ∧
  ∀ (s : State) (n : Station),
    ((s.station n).state ≠ .parking ∨ (s.station n).parkTimer = none → exec (.parkTimerExpiry n) s = .next s) ∧
    ((s.station n).state = .parking → (s.station n).parkTimer ≠ none →
      ∃ t, exec (.parkTimerExpiry n) s = .next t ∧
        parkCompleted s t n (s.station n) .doneAlert (some .forced) ∧ t.handed = s.handed)

/-- R68, R69 and R71: a restore, a rearm, and a write of the parked copy, on their conditions, and each refused by the
first check of its table that fails. -/
def Obligations.RestoreRearmAndWriteParked : Prop :=
  (∀ (s : State) (n : Nat), s.linkFree → 4 ≤ n →
    exec (.restoreStation n) s = .next (replied s s .restoreStation (refuseValue .station)) ∧
    exec (.rearmStation n) s = .next (replied s s .rearmStation (refuseValue .station)) ∧
    ∀ r : WriteReq, r.station = n →
      exec (.writeParkedContext r) s = .next (replied s s .writeParkedContext (refuseValue .station))) ∧
  ∀ (s : State) (n : Station), s.linkFree →
    let x := s.station n
    (x.state = .parked → x.link = .lost →
      exec (.restoreStation n.num) s = .next (replied s s .restoreStation (refuseState .linkLost))) ∧
    (x.state ≠ .standby →
      exec (.rearmStation n.num) s = .next (replied s s .rearmStation (refuseState .notStandby))) ∧
    (x.state = .standby → s.ta.state.armed = false →
      exec (.rearmStation n.num) s = .next (replied s s .rearmStation (refuseState .notArmed))) ∧
    (x.state = .standby → s.ta.state.armed = true → x.link = .lost →
      exec (.rearmStation n.num) s = .next (replied s s .rearmStation (refuseState .linkLost))) ∧
    (∀ (r : WriteReq) (d : Detail), r.station = n.num →
      let badMask : Bool := r.mask.any fun m => (stationMaskOf m).isNone
      let badTrim : Bool := r.trim.any fun v => decide (v < -50 ∨ 50 < v)
      let badSlip : Bool := r.slip.any fun v => decide (v < 50 ∨ 200 < v)
      let badClear : Bool := r.clear.any fun c => (stationFlagsOf c).isNone
      (x.state ≠ .parked →
        exec (.writeParkedContext r) s = .next (replied s s .writeParkedContext (refuseState .notParked))) ∧
      (x.state = .parked →
        (if badMask then some Detail.mask else if badTrim then some .trim else if badSlip then some .slipScale
          else if badClear then some .flags else none) = some d →
        exec (.writeParkedContext r) s = .next (replied s s .writeParkedContext (refuseValue d)))) ∧
    (∀ p, x.state = .parked → x.link = .alive → x.parkSlot = some p →
      let st : StationState :=
        if p.tripping then .tripped else if s.ta.state.armed then .restoring else .standby
      let shown := u8 (stationStateCode st) ++ settingsBytes p
      exec (.restoreStation n.num) s = .next (replied s
        { s with
          sm := s.sm.set n { x with state := st, custody := .part, settings := p, parkSlot := none }
          pu := { s.pu with stations := s.pu.stations.set n { s.puStation n with copy := st } } }
        .restoreStation (if p.tripping then doneAlert .restoredTripped shown else done shown))) ∧
    (x.state ≠ .parked →
      exec (.restoreStation n.num) s = .next (replied s s .restoreStation (refuseState .notParked))) ∧
    (x.state = .standby → s.ta.state.armed = true → x.link = .alive →
      (x.settings.tripping = false →
        exec (.rearmStation n.num) s = .next (replied s
          { s with
            sm := s.sm.set n { x with state := .restoring }
            pu := { s.pu with stations := s.pu.stations.set n { s.puStation n with copy := .restoring } } }
          .rearmStation (done []))) ∧
      (x.settings.tripping = true →
        exec (.rearmStation n.num) s = .next (replied s s .rearmStation
          ⟨.refusedState, some .flagsSet, u16 x.settings.flags.code⟩))) ∧
    ∀ (r : WriteReq) (p : Settings), r.station = n.num → x.state = .parked → x.parkSlot = some p →
      (∀ m, r.mask = some m → stationMaskOf m ≠ none) → (∀ v, r.trim = some v → -50 ≤ v ∧ v ≤ 50) →
      (∀ v, r.slip = some v → 50 ≤ v ∧ v ≤ 200) → (∀ c, r.clear = some c → stationFlagsOf c ≠ none) →
      let q : Settings :=
        { mask := (r.mask.bind stationMaskOf).getD p.mask
          flags := p.flags.minus ((r.clear.bind stationFlagsOf).getD ⟨false, false, false, false, false, false⟩)
          trim := r.trim.getD p.trim
          slip := r.slip.getD p.slip }
      exec (.writeParkedContext r) s = .next (replied s
        { s with sm := s.sm.set n { x with parkSlot := some q } } .writeParkedContext (done (settingsBytes q)))

/-- R56 and R66: a raise claim by the station's state, and a clear claim. The travel of the DISABLE frame is log 14, the
one frame of a park that a claim completes log 19, the mark byte before its answer's measured torque log 11; that a claim sent
as tripping trips although its class has been masked since is log 46. -/
def Obligations.RaiseAndClearClaimsAct : Prop :=
  (∀ (s : State) (n : Station) (c : StationClass) (trips : Bool),
    let x := s.station n
    let y := { x with settings := { x.settings with flags := x.settings.flags.put c true } }
    let acts : Bool := trips || (x.state.tripsHere && !x.settings.mask.masks c)
    let told : Sl :=
      if trips then s.sl
      else { s.sl with
        notices := { s.sl.notices with stationTrip := true }, tripSet := s.sl.tripSet.set n true }
    (x.state = .parked →
      exec (.raiseClaim n c trips) s = .next
        { s with
          sm := s.sm.set n
            { x with parkSlot := x.parkSlot.map fun p => { p with flags := p.flags.put c true } } }) ∧
    (x.state = .absent ∨ x.state = .tripped ∨ (x.state ≠ .parked ∧ acts = false) →
      exec (.raiseClaim n c trips) s = .next { s with sm := s.sm.set n y }) ∧
    (x.state = .standby ∨ x.state = .live ∨ x.state = .restoring → acts = true →
      ∃ u, exec (.raiseClaim n c trips) s = .next u ∧ sentDisable n { y with state := .tripped } (u.station n) ∧
        u = { s with
          sm := s.sm.set n (u.station n)
          pu := { s.pu with stations := s.pu.stations.set n { s.puStation n with copy := .tripped } }
          sl := told, free := s.free + 1 }) ∧
    (x.state = .parking → acts = true →
      ∃ t, exec (.raiseClaim n c trips) s = .next t ∧
        parkCompleted { s with sl := told } t n y .doneAlert (some .trippedDuringPark) ∧ t.handed = s.handed)) ∧
  ∀ (s : State) (n : Station) (f : StationFlags),
    let x := s.station n
    let kept : Settings := { x.settings with flags := x.settings.flags.minus f }
    let leaves : Bool := x.state == .tripped && !kept.tripping
    exec (.clearClaim n f) s = .next
      { s with
        sm := s.sm.set n { x with settings := kept, state := if leaves then .standby else x.state }
        pu := { s.pu with
          stations := s.pu.stations.set n
            { s.puStation n with copy := if leaves then .standby else (s.puStation n).copy } } }

/-- R52, R53, R172, R194 and R195: custody, park fields and the in-flight mark agree with the station states, PU's copies
with SM's states, and ARMING with an ARM in flight, at every step. -/
def Obligations.CustodyCopiesAndArmingStayInStep : Prop :=
  ∀ s t : State, custodyAgrees s → copiesAgree s → armingAgrees s → step s = .next t →
    custodyAgrees t ∧ copiesAgree t ∧ armingAgrees t

end

section

open Sys2Proof Sys2Proof.Machine

/-! ### Grid banks and the DC link (chapter 4) -/

/-- R80, R81 and R88: a dispatch splits the retard power between the lead and the other bank, counts the lead energy, and
then counts the DC-link reading; a bank that the dispatch takes into READY publishes the figures (R85). That the remainder
of the lead energy restarts with it is log 20, that both readings are held to their ranges log 6, a share above a rated
power just lowered log 40. -/
def Obligations.PowerArrivalSplitsAndCountsOverVoltage : Prop :=
  ∀ (s : State) (p volts : Nat), banksLegal s.gd →
    let power := min 12000 p
    let v := min 4000 volts
    let high : Prop := s.gd.cfg.dcMax < v
    ∃ t, exec (.powerArrival p volts) s = .next t ∧
      t = { s with ct := t.ct, gd := t.gd, handed := t.handed } ∧
      t.gd = { s.gd with
        banks := t.gd.banks, lead := t.gd.lead, unabsorbed := t.gd.unabsorbed, dcLink := t.gd.dcLink
        ovCount := t.gd.ovCount, dvValue := t.gd.dvValue, published := t.gd.published } ∧
      (s.gd.lead = none → t.gd.lead = none ∧
        ∀ k, (t.bank k).leadEnergy = (s.bank k).leadEnergy ∧ (t.bank k).leadRem = (s.bank k).leadRem) ∧
      (∀ l, s.gd.lead = some l →
        (t.gd.lead = some l → (t.bank l.other).leadEnergy = (s.bank l.other).leadEnergy ∧
          (t.bank l.other).leadRem = (s.bank l.other).leadRem) ∧
        (t.gd.lead = some l.other → (t.bank l.other).leadEnergy = 0 ∧ (t.bank l.other).leadRem = 0)) ∧
      (∀ l, s.gd.lead = some l → (t.bank l).share = min power (s.bank l).avail ∧
        (t.bank l.other).share = min (power - (t.bank l).share) (s.bank l.other).avail) ∧
      (s.gd.lead = none → ∀ k, (t.bank k).share = 0) ∧
      (t.bank .a).share + (t.bank .b).share = min power ((s.bank .a).avail + (s.bank .b).avail) ∧
      t.gd.unabsorbed = power - (t.bank .a).share - (t.bank .b).share ∧
      (∀ k, (s.bank k).state = .ready ∨ (s.bank k).state = .dissipating →
        t.bank k = { s.bank k with
          state := if 0 < (t.bank k).share then .dissipating else .ready, share := (t.bank k).share
          chopper := min 1000 ((t.bank k).share * 1000 / s.gd.cfg.rated.get k)
          accum := (s.bank k).accum + (t.bank k).share
          leadEnergy := (t.bank k).leadEnergy, leadRem := (t.bank k).leadRem }) ∧
      (∀ k, (s.bank k).state = .offline ∨ (s.bank k).state = .checking ∨ (s.bank k).state = .failed →
        t.bank k = { s.bank k with
          share := 0, leadEnergy := (t.bank k).leadEnergy, leadRem := (t.bank k).leadRem }) ∧
      (∀ l, s.gd.lead = some l →
        let sum := (s.bank l).leadRem + (t.bank l).share
        let energy := min 1000 ((s.bank l).leadEnergy + sum / 100)
        (s.gd.order ≠ .alternate ∨ energy < 1000 →
          t.gd.lead = some l ∧ (t.bank l).leadEnergy = energy ∧ (t.bank l).leadRem = sum % 100) ∧
        (s.gd.order = .alternate → energy = 1000 →
          t.gd.lead = (if (s.bank l.other).state = .failed then some l else some l.other) ∧
          (t.bank l).leadEnergy = 0 ∧ (t.bank l).leadRem = 0)) ∧
      ((∃ k, (s.bank k).state = .dissipating ∧ (t.bank k).state = .ready) → t.gd.published = t.gd.figures) ∧
      ((∀ k, (s.bank k).state = .dissipating → (t.bank k).state ≠ .ready) → t.gd.published = s.gd.published) ∧
      t.gd.dcLink = v ∧
      (high → s.gd.ovCount = 0 →
        t.gd.ovCount = 1 ∧ t.gd.dvValue = s.gd.dvValue ∧ t.ct = s.ct ∧ t.handed = s.handed) ∧
      (high → s.gd.ovCount = 1 →
        t.gd.ovCount = 2 ∧ t.gd.dvValue = some 900 ∧ t.ct = claimSet s.ct .dv 900 (some 10) none ∧
        t.handed = s.handed ++ [.truckConditionBegins ⟨.dv, none⟩]) ∧
      (∀ w, high → s.gd.ovCount = 2 → s.gd.dvValue = some w →
        t.gd.ovCount = 2 ∧ t.gd.dvValue = some (max 200 (w - 100)) ∧
        t.ct = claimSet s.ct .dv (max 200 (w - 100) : Nat) (some 10) none ∧ t.handed = s.handed) ∧
      (¬ high → s.gd.ovCount = 2 →
        t.gd.ovCount = 0 ∧ t.gd.dvValue = none ∧ t.ct = claimRetire s.ct .dv none ∧
        t.handed = s.handed ++ [.truckConditionEnds .dv]) ∧
      (¬ high → s.gd.ovCount < 2 →
        t.gd.ovCount = 0 ∧ t.gd.dvValue = s.gd.dvValue ∧ t.ct = s.ct ∧ t.handed = s.handed)

/-- R82 to R87: the heat, blower, open-grid and available power steps of each bank at the grid timer, the lead settled and
the figures published after them, the GRID record claimed or retired by R86's table, and GT's and GF's events. That a
blower speed above 100 is held is log 6, that a bank cools by its blower failure mark as it stands log 51, the share of a bank
that fails log 41, the order of the events log 31. -/
def Obligations.GridTimerStepsEachBank : Prop :=
  ∀ (s : State) (ports : PerBank GridPorts),
    ∃ t, exec (.gridTimer ports) s = .next t ∧
      t = { s with ct := t.ct, gd := t.gd, handed := t.handed } ∧
      t.gd = { s.gd with
        banks := t.gd.banks, lead := t.gd.lead, gt := t.gd.gt, gf := t.gd.gf, gridValue := t.gd.gridValue
        published := t.gd.published } ∧
      (∀ k,
        let b := s.bank k
        let cap := s.gd.cfg.capacity.get k
        let rated := s.gd.cfg.rated.get k
        let speed := min 100 (ports.get k).blowerSpeed
        let fraction := if b.blower = true ∧ b.blowerMark = false then 100 else 20
        let heat := min cap (b.heat + b.accum / 100 - s.gd.cfg.cooling.get k * fraction * s.gd.cfg.altitude / 100000)
        let on : Bool := decide (percent 20 cap < heat) || b.state == .dissipating
        let fails : Bool := on && decide (speed < 50)
        let serves : Bool := b.state == .ready || b.state == .dissipating
        let openGrid : Bool := serves && decide (100 < b.chopper) && decide ((ports.get k).current < b.chopper / 10)
        (t.bank k).heat = heat ∧ (t.bank k).accum = b.accum % 100 ∧
        (t.bank k).blower = on ∧ (t.bank k).blowerSpeed = speed ∧
        (t.bank k).blowerCount = (if fails then min 20 (b.blowerCount + 1) else 0) ∧
        (t.bank k).blowerMark = (b.blowerMark || (t.bank k).blowerCount == 20) ∧
        (openGrid = false → (t.bank k).openCount = 0 ∧ (t.bank k).state = b.state ∧ (t.bank k).chopper = b.chopper ∧
          (t.bank k).share = b.share) ∧
        (openGrid = true → b.openCount + 1 < 3 →
          (t.bank k).openCount = b.openCount + 1 ∧ (t.bank k).state = b.state ∧ (t.bank k).chopper = b.chopper ∧
          (t.bank k).share = b.share) ∧
        (openGrid = true → 3 ≤ b.openCount + 1 →
          (t.bank k).openCount = 0 ∧ (t.bank k).state = .failed ∧ (t.bank k).chopper = 0 ∧ (t.bank k).share = 0) ∧
        ((t.bank k).state ≠ .ready → (t.bank k).state ≠ .dissipating → (t.bank k).avail = 0) ∧
        ((t.bank k).state = .ready ∨ (t.bank k).state = .dissipating →
          (heat < percent 80 cap → (t.bank k).avail = rated) ∧
          (percent 80 cap ≤ heat → (t.bank k).avail = min rated (rated * (cap - heat) * 5 / cap))) ∧
        (t.bank k).checkTimer = b.checkTimer ∧ (t.bank k).recheck = b.recheck) ∧
      t.gd.lead = settledLead s.gd.order s.gd.lead (fun k => (t.bank k).state == .failed) ∧
      (t.gd.lead ≠ s.gd.lead → ∀ k, (t.bank k).leadEnergy = 0 ∧ (t.bank k).leadRem = 0) ∧
      (s.gd.lead = settledLead s.gd.order s.gd.lead (fun k => (s.bank k).state == .failed) → t.gd.lead = s.gd.lead →
        ∀ k, (t.bank k).leadEnergy = (s.bank k).leadEnergy ∧ (t.bank k).leadRem = (s.bank k).leadRem) ∧
      t.gd.published = t.gd.figures ∧
      (let condition : Bool := [Bank.a, .b].any fun k =>
        decide (percent 80 (s.gd.cfg.capacity.get k) ≤ (t.bank k).heat) || (t.bank k).state == .failed
          || ((t.bank k).state == .checking && (t.bank k).recheck)
      let value := min 1000
        (1000 * ((t.bank .a).avail + (t.bank .b).avail) / (s.gd.cfg.rated.a + s.gd.cfg.rated.b))
      (t.gd.gridValue, t.ct) = gridEvaluated s.ct s.gd.gridValue condition value) ∧
      let fault (b : BankRec) : Bool := b.state == .failed || (b.state == .checking && b.recheck) || b.blowerMark
      let afterA : Bool := fault (t.bank .a) || fault (s.bank .b)
      t.gd.gt = (decide (percent 95 s.gd.cfg.capacity.a ≤ (t.bank .a).heat)
        || decide (percent 95 s.gd.cfg.capacity.b ≤ (t.bank .b).heat)) ∧
      t.gd.gf = (fault (t.bank .a) || fault (t.bank .b)) ∧
      t.handed = s.handed ++ told .gf s.gd.gf afterA ++ told .gf afterA t.gd.gf ++ told .gt s.gd.gt t.gd.gt

/-- R77, R78 and R81: each bank stays as its state says, and the lead is never a FAILED bank, at every step. -/
def Obligations.BanksStayLegal : Prop :=
  ∀ s t : State, banksLegal s.gd → step s = .next t → banksLegal t.gd

/-! ### Route profiles and the segment cache (chapter 5) -/

/-- R94, R95 and R96: a write is refused by the first row of R95's table that some descriptor calls for, and an accepted one
replaces its group and no other; a later read gives the descriptors written. That the position given with KIND is the
first such word's is log 47. -/
def Obligations.ProfileWriteReplacesItsGroup : Prop :=
  (let kind (w : BitVec 40) := (w.extractLsb' 37 3).toNat
  let grade (w : BitVec 40) := (w.extractLsb' 16 9).toInt
  let rows : List (Detail × (BitVec 40 → Bool)) :=
    [ (.kind, fun w => decide (3 < kind w)),
      (.grade, fun w => kind w == 0 && decide (grade w < -250 ∨ 250 < grade w)),
      (.limit, fun w => kind w == 0 && decide (700 < (w.extractLsb' 6 10).toNat)),
      (.surface, fun w => kind w == 0 && (w.extractLsb' 4 2).toNat == 3),
      (.target, fun w => kind w == 1 && decide (63 < (w.extractLsb' 29 8).toNat)),
      (.holdKind, fun w => kind w == 3 && (w.extractLsb' 35 2).toNat == 3) ]
  (∀ ws, groupFault ws = (rows.find? fun r => ws.any r.2).map Prod.fst) ∧
  (∀ ws, faultPosition ws .kind = ws.findIdx fun w => decide (3 < kind w)) ∧
  ∀ w, wordFault w = none ↔ ∀ r ∈ rows, r.2 w = false) ∧
  ∀ (s : State) (g : Nat) (d0 d1 d2 d3 : BitVec 40), s.linkFree →
    (63 < g → exec (.profileWrite g d0 d1 d2 d3) s = .next (replied s s .profileWrite (refuseValue .group))) ∧
    (∀ d, g ≤ 63 → groupFault [d0, d1, d2, d3] = some d →
      exec (.profileWrite g d0 d1 d2 d3) s = .next (replied s s .profileWrite
        ⟨.refusedValue, some d, if d = .kind then u8 (faultPosition [d0, d1, d2, d3] d) else []⟩)) ∧
    (g ≤ 63 → (∀ w ∈ [d0, d1, d2, d3], wordFault w = none) →
      let x : Group := ⟨descOf d0, descOf d1, descOf d2, descOf d3⟩
      let u : State :=
        { s with
          rs := { s.rs with store := writeGroup s.rs.store g x }, handed := s.handed ++ [.routeEditEvent] }
      exec (.profileWrite g d0 d1 d2 d3) s = .next (replied s u .profileWrite (done [BitVec.ofNat 8 g])) ∧
      (∀ h, readGroup u.rs.store h = if h = g then x else readGroup s.rs.store h) ∧
      (storeWf s.rs.store = true → storeWf u.rs.store = true))

/-- R100 and R101 with R102 and R104: a metre event at RS. The index standing at 4095 when a span of 4096 m ends the route
or faults it is log 38, the order of the events handed on log 31. -/
def Obligations.MetreEventsMoveTheRoute : Prop :=
  ∀ s : State,
    let r := s.rs
    (r.state.counts = false → exec .forwardMetreEvent s = .next s ∧ exec .reverseMetreEvent s = .next s) ∧
    (r.state.counts = true →
      (0 < r.debt → exec .forwardMetreEvent s = .next { s with rs := { r with debt := r.debt - 1 } }) ∧
      (r.debt = 0 → r.state = .holding → exec .forwardMetreEvent s = .next s) ∧
      (r.debt < 254 → exec .reverseMetreEvent s = .next { s with rs := { r with debt := r.debt + 1 } }) ∧
      (254 ≤ r.debt → exec .reverseMetreEvent s = .next
        { s with
          rs := { r with
            debt := 255, state := .faulted, fault := some .lostPosition
            pos := { r.pos with detour := .none, cont := none } }
          handed := s.handed ++ holdLeft r .fault ++ [.truckConditionBegins ⟨.pr, some .lostPosition⟩] })) ∧
    (r.state = .running → r.debt = 0 →
      let moved := (r.advance + 1) % 4294967296
      (r.index + 1 ≠ r.pos.length →
        exec .forwardMetreEvent s = .next
          { s with rs := { r with index := min 4095 (r.index + 1), advance := moved } }) ∧
      (r.index + 1 = r.pos.length →
        let x := resolve r.store (r.pos.rollover r.store)
        ∃ t, exec .forwardMetreEvent s = .next t ∧
          t = { s with rs := t.rs, sl := { s.sl with notices := t.sl.notices }, handed := t.handed } ∧
          t.rs = { r with
            state := t.rs.state, fault := t.rs.fault, pos := t.rs.pos, index := t.rs.index, advance := moved } ∧
          resolvedTo x t ∧
          (x.ending = .span ∨ (∃ k, x.ending = .hold k) → t.rs.index = 0) ∧
          (r.pos.marks = true → t.sl.notices.segmentMark = true) ∧
          (r.pos.takesDetour = true → t.sl.notices.detourTaken = true ∧ .routeEditEvent ∈ t.handed)))

/-- R103, R104 and R105: a resolution makes the fetches that an invalid C0 or a JUMP calls for, four at most, goes on
after a detour's return with the same step count, and ends on what it leaves in C0; the valid entries stay an unbroken
run. -/
def Obligations.ResolutionEndsAsItsTableSays : Prop :=
  ∀ (store : List (Nat × Group)) (p : RoutePos),
    let r := resolve store p
    (∀ n q, n ≤ 4 → fetchesCalled store n p = some q →
      (∀ x, standsAt q = some x → r = ⟨q, false, x⟩) ∧
      (n = 4 → fetchCalled store q ≠ none → r = ⟨q, false, .loop⟩) ∧
      ∀ e k m q', q.c0 = some e → e.desc = .stop → q.detour.isActive = true → q.cont = some k → n + m ≤ 4 →
        fetchesCalled store m
          { c0 := k.e0, c1 := k.e1, c2 := k.e2, c3 := none, next := k.next, detour := .none, cont := none } = some q' →
        (∀ x, standsAt q' = some x → r = ⟨q', true, x⟩) ∧
        (n + m = 4 → fetchCalled store q' ≠ none → r = ⟨q', true, .loop⟩)) ∧
    (r.ending = .span → ∃ e, r.pos.c0 = some e ∧ ∃ l g m u b, e.desc = .span l g m u b) ∧
    (∀ k, r.ending = .hold k → ∃ e, r.pos.c0 = some e ∧ e.desc = .hold k) ∧
    (r.ending = .stop → r.pos.detour.isActive = false ∧ ∃ e, r.pos.c0 = some e ∧ e.desc = .stop) ∧
    (r.ending = .loop → ∀ e, r.pos.c0 = some e → ∃ g, e.desc = .jump g) ∧
    (∀ e, p.c0 = some e →
      (∀ l g m u b, e.desc = .span l g m u b → r = ⟨p, false, .span⟩) ∧
      (∀ k, e.desc = .hold k → r = ⟨p, false, .hold k⟩) ∧
      (e.desc = .stop → p.detour.isActive = false → r = ⟨p, false, .stop⟩)) ∧
    (r.returned = true → p.detour.isActive = true ∧ r.pos.detour = .none ∧ r.pos.cont = none) ∧
    (r.returned = false → r.pos.detour = p.detour ∧ r.pos.cont = p.cont) ∧
    (p.unbroken → (∀ k, p.cont = some k → (k.e1.isSome → k.e0.isSome) ∧ (k.e2.isSome → k.e1.isSome)) → r.pos.unbroken)

/-- R112 and R113: ROUTE_START and ROUTE_STOP. The order of the events handed on is log 31. -/
def Obligations.RouteStartsAndStops : Prop :=
  (∀ (s : State) (g first offset : Nat), s.linkFree →
    (g ≠ 255 → 63 < g → exec (.routeStart g first offset) s = .next (replied s s .routeStart (refuseValue .group))) ∧
    (g ≤ 63 → 3 < first → exec (.routeStart g first offset) s = .next (replied s s .routeStart (refuseValue .first))) ∧
    (g = 255 ∨ (g ≤ 63 ∧ first ≤ 3) → 4095 < offset →
      exec (.routeStart g first offset) s = .next (replied s s .routeStart (refuseValue .offset)))) ∧
  (∀ (s : State) (g first offset : Nat), s.linkFree → (g = 255 ∨ (g ≤ 63 ∧ first ≤ 3)) → offset ≤ 4095 →
    let start := if g = 255 then (s.rs.startGroup, s.rs.startFirst) else (g, first)
    let x := resolve s.rs.store (startPos s.rs.store start.1 start.2)
    (x.ending = .stop →
      exec (.routeStart g first offset) s = .next (replied s s .routeStart (refuseValue .routeEnds))) ∧
    (x.ending = .loop →
      exec (.routeStart g first offset) s = .next (replied s s .routeStart (refuseValue .routeLoop))) ∧
    (x.ending = .span ∧ x.pos.length ≤ offset ∨ (∃ k, x.ending = .hold k) ∧ offset ≠ 0 →
      exec (.routeStart g first offset) s = .next (replied s s .routeStart (refuseValue .offsetBeyond))) ∧
    (x.ending = .span ∧ offset < x.pos.length ∨ (∃ k, x.ending = .hold k) ∧ offset = 0 →
      ∃ u, exec (.routeStart g first offset) s = .next (replied s u .routeStart (done u.routeBytes)) ∧
        u = { s with rs := u.rs, sl := { s.sl with notices := u.sl.notices }, handed := u.handed } ∧
        u.rs = { store := s.rs.store, state := u.rs.state, fault := none, pos := x.pos, startGroup := start.1
                 startFirst := start.2, index := offset, debt := 0, advance := 0 } ∧
        resolvedTo x u ∧
        u.handed = s.handed ++ holdLeft s.rs .routeStart
          ++ (if s.rs.state = .faulted then [.truckConditionEnds .pr] else [])
          ++ (match x.ending with
            | .hold k => [.holdReachedAtPm k, .holdReachedAtDg k]
            | _ => [])
          ++ [.routeEditEvent])) ∧
  ∀ s : State, s.linkFree →
    (s.rs.state = .idle →
      exec .routeStop s = .next (replied s s .routeStop (doneAlert .alreadyIdle []))) ∧
    (s.rs.state ≠ .idle →
      exec .routeStop s = .next (replied s
        { s with
          rs := { s.rs with
            state := .idle, fault := none, debt := 0, index := 0
            pos := { c0 := none, c1 := none, c2 := none, c3 := none, next := s.rs.pos.next, detour := .none, cont := none } }
          handed := s.handed ++ holdLeft s.rs .routeStop
            ++ (if s.rs.state = .faulted then [.truckConditionEnds .pr] else []) ++ [.routeEditEvent] }
        .routeStop (done [])))

/-- R109, R111 and R114: INSERT_DETOUR, ABORT_DETOUR and RESUME. The order of the events handed on is log 31;
that ABORT_DETOUR's reply gives C0 without its origin is log 11. -/
def Obligations.DetoursAndResume : Prop :=
  ∀ s : State, s.linkFree →
    let r := s.rs
    (∀ g, 63 < g → exec (.insertDetour g) s = .next (replied s s .insertDetour (refuseValue .group))) ∧
    (∀ g, g ≤ 63 → r.state.counts = false →
      exec (.insertDetour g) s = .next (replied s s .insertDetour (refuseState .notRunning))) ∧
    (∀ g, g ≤ 63 → r.state.counts = true →
      (r.pos.detour = .none →
        exec (.insertDetour g) s = .next (replied s
          { s with
            rs := { r with pos := { r.pos with detour := .pending g } }, handed := s.handed ++ [.routeEditEvent] }
          .insertDetour (done []))) ∧
      (r.pos.detour ≠ .none →
        exec (.insertDetour g) s = .next (replied s s .insertDetour (refuseState .detourBusy)))) ∧
    (r.pos.detour = .none →
      exec .abortDetour s = .next (replied s s .abortDetour (refuseState .noDetour))) ∧
    (∀ g, r.pos.detour = .pending g →
      ∃ u, exec .abortDetour s = .next (replied s u .abortDetour (u.routeAnswer u.abortBytes)) ∧
        u = { s with
          rs := { r with pos := { r.pos with detour := .none } }, handed := s.handed ++ [.routeEditEvent] }) ∧
    (∀ g, r.pos.detour = .active g →
      let x := resolve r.store r.pos.restore
      ∃ u, exec .abortDetour s = .next (replied s u .abortDetour (u.routeAnswer u.abortBytes)) ∧
        u = { s with rs := u.rs, sl := { s.sl with notices := u.sl.notices }, handed := u.handed } ∧
        u.rs = { r with state := u.rs.state, fault := u.rs.fault, pos := u.rs.pos, index := 0 } ∧
        resolvedTo x u ∧ (s.sl.notices.detourDone = false → u.sl.notices.detourDone = false) ∧
        ∃ tail, u.handed = s.handed ++ holdLeft r .abort ++ tail ++ [.routeEditEvent]) ∧
    (r.state ≠ .holding →
      exec .resume s = .next (replied s s .resume (refuseState .notHolding))) ∧
    (r.state = .holding →
      let x := resolve r.store (r.pos.rollover r.store)
      ∃ u, exec .resume s = .next (replied s u .resume (u.routeAnswer u.routeBytes)) ∧
        u = { s with rs := u.rs, sl := { s.sl with notices := u.sl.notices }, handed := u.handed } ∧
        u.rs = { r with state := u.rs.state, fault := u.rs.fault, pos := u.rs.pos, index := u.rs.index } ∧
        resolvedTo x u ∧ (x.ending = .span ∨ (∃ k, x.ending = .hold k) → u.rs.index = 0) ∧
        (s.sl.notices.segmentMark = false → u.sl.notices.segmentMark = false) ∧
        (r.pos.takesDetour = true → u.sl.notices.detourTaken = true ∧ .routeEditEvent ∈ u.handed) ∧
        ∃ tail, u.handed = s.handed ++ holdLeft r .resume ++ tail)

/-- R94, R98, R99 and R108: the route record and the profile store keep their form at every step. -/
def Obligations.RouteAndStoreStayLegal : Prop :=
  ∀ s t : State, routeLegal s.rs → storeLegal s.rs.store → step s = .next t →
    routeLegal t.rs ∧ storeLegal t.rs.store

end

section

open Sys2Proof Sys2Proof.Machine

/-! ### Descent governance (chapter 6) -/

/-- R119, R120 and R123 to R129: the governor update. -/
def Obligations.GovernorUpdateSelectsAndClaims : Prop :=
  ∀ s : State,
    let d := s.dg
    let st : GovState :=
      if d.enabled = false then .off
      else if s.ta.state.armed = false then .standby
      else if s.rs.state = .holding then .holding
      else if s.rs.state = .running then (if s.rs.pos.grade ≤ -20 then .governing else .tracking)
      else .standby
    let moving : Prop := st = .tracking ∨ st = .governing
    let remaining := s.rs.pos.length - s.rs.index
    ∃ t, exec .governorUpdate s = .next t ∧ t = { s with ct := t.ct, dg := t.dg } ∧
      t.dg.state = st ∧ t.dg.enabled = d.enabled ∧ t.dg.cursor = d.cursor ∧
      (s.pm.state = .latched ∨ s.pm.state = .empty →
        t.dg.mass = s.pm.emptyMass + s.pm.latched.getD 0 ∧ t.dg.source = .latched) ∧
      (s.pm.state ≠ .latched → s.pm.state ≠ .empty →
        t.dg.mass = s.pm.emptyMass + s.pm.rated * 12 / 10 ∧ t.dg.source = .conservative) ∧
      t.dg.sustainable = (if st = .governing then
        some (min 700 (3600000 * (s.gd.published.avail.a + s.gd.published.avail.b)
          / (981 * t.dg.mass * mag s.rs.pos.grade))) else none) ∧
      t.dg.remaining = (if moving then some remaining else none) ∧
      t.dg.approach =
        (if moving ∧ ((lookAhead s.rs = .stop ∨ ∃ k ∈ [HoldKind.load, .dump, .wait], lookAhead s.rs = .hold k)) then
          (if remaining < 20 then some 50 else if remaining < 50 then some 100
          else if remaining < 100 then some 150 else if remaining < 200 then some 250 else none)
        else none) ∧
      t.dg.shortLast = s.ta.shortfall ∧
      t.dg.shortCap = (if 200 < s.ta.shortfall then max 50 (d.shortCap - 1) else min 700 (d.shortCap + 1)) ∧
      (st.active = false → t.dg.target = none ∧ t.dg.demand = 0 ∧
        (d.state.active = true → t.dg.claimed = none ∧ t.dg.lastApply = none ∧
          t.ct = claimRetire (claimRetire s.ct .governorTarget none) .governorForecast none) ∧
        (d.state.active = false → t.dg.claimed = d.claimed ∧ t.dg.lastApply = d.lastApply ∧ t.ct = s.ct)) ∧
      (st.active = true →
        let target :=
          if st = .holding then 0
          else min (min s.rs.pos.limit (t.dg.sustainable.getD 700))
            (min (min (t.dg.approach.getD 700) t.dg.shortCap) (speedCeilingBut s.ct .governorTarget).value)
        t.dg.target = some target ∧ t.dg.claimed = some target ∧ t.dg.lastApply = d.lastApply ∧
        t.ct = (if d.claimed = some target then s.ct else claimSet s.ct .governorTarget target none none) ∧
        t.dg.demand =
          (if target < s.ta.speed then min 1000 (d.demand + 100)
          else if s.ta.speed + 10 < target then d.demand - 100 else d.demand))

/-- R121, R136, R164 and R168: what DG and PM do with the hold, route edit, latch and PL mask events handed to them. That the
remaining distance, the sustainable speed and the approach cap stand at a hold is log 42, that SPEED is claimed before
PROPEL log 43, and that a cursor set up after an edit whose event still waits goes STALE with that event log 52. -/
def Obligations.HandedEventsReachGovernorAndPayload : Prop :=
  (∀ (s : State) (k : HoldKind) (c : HoldCause),
    (s.dg.state = .tracking ∨ s.dg.state = .governing →
      exec (.holdReachedAtDg k) s = .next
        { s with
          dg := { s.dg with state := .holding, target := some 0, claimed := some 0 }
          ct := if s.dg.claimed = some 0 then s.ct else claimSet s.ct .governorTarget 0 none none }) ∧
    (s.dg.state = .holding ∨ s.dg.state = .off ∨ s.dg.state = .standby → exec (.holdReachedAtDg k) s = .next s) ∧
    exec (.holdLeftAtDg k c) s = .next s) ∧
  (∀ s : State,
    let cursor := match s.dg.cursor with
      | .opened x => .stale x
      | x => x
    exec .routeEditEvent s = .next { s with dg := { s.dg with cursor := cursor } } ∧
    exec .latchEvent s = .next { s with dg := { s.dg with cursor := cursor } }) ∧
  (∀ (s : State) (k : HoldKind) (st : PayloadState), (k = .load ∧ st = .loading) ∨ (k = .dump ∧ st = .dumping) →
    exec (.holdReachedAtPm k) s = .next
      { s with
        pm := { s.pm with
          state := st, stillSum := 0, stillCount := 0, winSum := 0, winCount := 0, winMetres := 0
          dumpRelease := false } }) ∧
  (∀ (s : State) (c : HoldCause),
    exec (.holdReachedAtPm .wait) s = .next s ∧ exec (.holdLeftAtPm .wait c) s = .next s) ∧
  (∀ (s : State) (k : HoldKind) (c : HoldCause), k ≠ .wait →
    (s.pm.state = .loading →
      (c = .resume → exec (.holdLeftAtPm k c) s = .next
        { s with
          pm := { s.pm with
            state := .measuring, stillSum := 0, stillCount := 0, winSum := 0, winCount := 0, winMetres := 0 } }) ∧
      (c ≠ .resume → exec (.holdLeftAtPm k c) s = .next
        { s with pm := { s.pm with state := .unknown, stillSum := 0, stillCount := 0 } })) ∧
    (s.pm.state = .dumping →
      (s.pm.body = .down → exec (.holdLeftAtPm k c) s = .next
        { s with pm := { s.pm with state := .unknown, stillSum := 0, stillCount := 0 } }) ∧
      (s.pm.body = .up → exec (.holdLeftAtPm k c) s = .next { s with pm := { s.pm with dumpRelease := true } })) ∧
    (s.pm.state ≠ .loading → s.pm.state ≠ .dumping → exec (.holdLeftAtPm k c) s = .next s)) ∧
  ∀ (s : State) (masked : Bool),
    let want := payloadWanted s.pm.over10Speed masked s.pm.cls
    exec (.plMaskEvent masked) s = .next
      { s with
        pm := { s.pm with plMasked := masked, speedClaimed := want.1, propelClaimed := want.2 }
        ct := keyClaimed (keyClaimed s.ct .payloadSpeed want.1 s.pm.speedClaimed) .payloadPropel want.2
          s.pm.propelClaimed }

/-- R131, R132, R134, R135 and R137: a FORECAST sets its cursor up and walks the first slice, a FORECAST_CONTINUE walks the
next; and the lines of the walk other than a SPAN, which is the next statement's. That a JUMP which would need a fifth read
is not counted as examined is log 26, the width of the total log 11, and that a request taken while a route edit or latch event
waits walks the edited route log 52. -/
def Obligations.ForecastsWalkSlices : Prop :=
  (∀ (store : List (Nat × Group)) (c : Cursor),
    let counted : Cursor := { c with total := (c.total + 1) % 65536, slice := c.slice + 1 }
    let taken (d : Cursor) (g : Nat) : Cursor :=
      let x := readGroup store g
      { d with
        w0 := some ⟨x.d0, g, 0⟩, w1 := some ⟨x.d1, g, 1⟩, w2 := some ⟨x.d2, g, 2⟩, w3 := some ⟨x.d3, g, 3⟩
        ptr := (g + 1) % 64, steps := d.steps + 1 }
    (c.w0 = none → c.walkLine store = if c.steps < 4 then (taken c c.ptr, none) else (c, some .loop)) ∧
    ∀ e, c.w0 = some e →
      (∀ g, e.desc = .jump g → c.walkLine store =
        if c.steps < 4 then (taken counted g, if counted.slice = 8 then some .slice else none) else (c, some .loop)) ∧
      (∀ k, e.desc = .stop → c.cont = some k → c.walkLine store =
        ({ c with w0 := k.e0, w1 := k.e1, w2 := k.e2, w3 := none, ptr := k.next, cont := none }, none)) ∧
      (e.desc = .stop → c.cont = none → c.walkLine store = (c, some .stop)) ∧
      ∀ k, e.desc = .hold k → c.walkLine store = (counted, some (.hold k c.distance))) ∧
  (∀ (store : List (Nat × Group)) (n : Nat) (c : Cursor),
    (∀ d x, c.walkLine store = (d, some x) → walkSlice store (n + 1) c = (d, x)) ∧
    ∀ d, c.walkLine store = (d, none) → walkSlice store (n + 1) c = walkSlice store n d) ∧
  ∀ s : State, s.linkFree →
    (∀ n, 2 ≤ n → exec (.forecast n) s = .next (replied s s .forecast (refuseValue .flags))) ∧
    (∀ n, n ≤ 1 → s.rs.state.counts = false →
      exec (.forecast n) s = .next (replied s s .forecast (refuseState .noRoute))) ∧
    (s.dg.cursor = .absent →
      exec .forecastContinue s = .next (replied s s .forecastContinue (staleAnswer .noCursor))) ∧
    (∀ x, s.dg.cursor = .stale x →
      exec .forecastContinue s = .next (replied s s .forecastContinue (staleAnswer .routeChanged))) ∧
    (∀ n, n ≤ 1 → s.rs.state.counts = true →
      let p := s.rs.pos
      let c : Cursor :=
        { apply := n == 1
          pendingExcl := p.takesDetour
          advance := s.rs.advance
          mass := (grossMass s.pm).1
          capacity := s.gd.published.capacity
          cooling := s.gd.published.cooling
          ceiling := (speedCeilingButOwner s.ct .governor).value
          w0 := if s.rs.state = .holding then p.c1 else p.c0
          w1 := if s.rs.state = .holding then p.c2 else p.c1
          w2 := if s.rs.state = .holding then p.c3 else p.c2
          w3 := if s.rs.state = .holding then none else p.c3
          ptr := p.next
          cont := if p.detour.isActive then p.cont else none
          firstRem := if s.rs.state = .running then some (p.length - s.rs.index) else none
          steps := 0, distance := 0, heat := s.gd.published.total, total := 0, slice := 0 }
      ∃ (u : State) (a : Answer), exec (.forecast n) s = .next (replied s u .forecast a) ∧
        sliceEnded s u (walkSlice s.rs.store 32 c) (some .clear) a) ∧
    ∀ c, s.dg.cursor = .opened c →
      ∃ (u : State) (a : Answer), exec .forecastContinue s = .next (replied s u .forecastContinue a) ∧
        sliceEnded s u (walkSlice s.rs.store 32 { c with slice := 0 }) none a

/-- R132 and R133: a SPAN walked: the heat after it, and the figures of a problem span, whose recommended speed lies below
the planned speed unless it is held up to 50. The width of the total is log 11. -/
def Obligations.WalkedSpanProjectsHeat : Prop :=
  ∀ (store : List (Nat × Group)) (c : Cursor) (e : Entry) (len : Nat) (grade : Int) (limit : Nat) (x : Surface) (b : Bool),
    c.w0 = some e → e.desc = .span len grade limit x b →
    let metres := c.firstRem.getD (if len = 0 then 4096 else len)
    let v := max 50 (min limit c.ceiling)
    let gain := if grade ≤ -20 then 981 * c.mass * metres * mag grade / 100000 else 0
    let cooled := c.cooling * 36 * metres / v
    let most := percent 95 c.capacity
    let heat := c.heat + gain - cooled
    let counted : Cursor := { c with total := (c.total + 1) % 65536, slice := c.slice + 1 }
    (grade ≤ -20 → most < heat →
      let excess := c.heat + gain - most
      let speed := max 50 (min 700 (36 * metres * c.cooling / excess))
      c.walkLine store =
        (counted, some (.problem ⟨c.distance, e.group, e.pos, metres, gain, excess, speed⟩)) ∧
      cooled < excess ∧ (speed < v ∨ speed = 50)) ∧
    (-20 < grade ∨ heat ≤ most →
      c.walkLine store =
        ({ counted with
            distance := c.distance + metres, heat := heat, steps := 0, firstRem := none
            w0 := c.w1, w1 := c.w2, w2 := c.w3, w3 := none },
          if c.slice + 1 = 8 then some .slice else none))

/-! ### Steering (chapter 7) -/

/-- R145 to R149 and R151: the readings, the pressure counts, the state work and the conditions of a steering update; and
R152's reading of the envelope table by speed, which gives its limit. That ST's events are handed before SP's is log 31. -/
def Obligations.SteeringUpdateReadsAndSteers : Prop :=
  (∀ (table : EnvTable) (speed : Nat), table.ordered = true →
    ∃ (i : Nat) (r : EnvRow), table.rows[i]? = some r ∧ r.speed ≤ speed ∧ table.limitAt speed = r.angle ∧
      ∀ j q, i < j → table.rows[j]? = some q → speed < q.speed) ∧
  ∀ (s : State) (x : SteerPorts),
    let c := s.sc
    let sensor (p : AnglePort) : Option Int :=
      if p.fault = false ∧ -470 ≤ p.angle ∧ p.angle ≤ 470 then some (max (-450) (min 450 p.angle)) else none
    let wheel : Option Int :=
      if x.wheel.fault = false ∧ -6000 ≤ x.wheel.angle ∧ x.wheel.angle ≤ 6000 then some x.wheel.angle else none
    let measured : Option Int := match sensor x.sensorA, sensor x.sensorB with
      | some a, some b => some (Int.tdiv (a + b) 2)
      | _, _ => none
    let agree : Bool := match sensor x.sensorA, sensor x.sensorB, wheel with
      | some a, some b, some _ => decide (mag (a - b) ≤ 15)
      | _, _, _ => false
    let low : Bool := decide (min 350 x.pressure < c.reserve)
    let faults := if agree then 0 else c.sensorFault + 1
    let demanded : Int := match wheel with
      | some w => max (-450) (min 450 (Int.tdiv (w * c.ratio) 1000))
      | none => c.demanded
    let limit := c.envelope.limitAt s.ta.speed
    let clamped : Int := max (-(limit : Int)) (min limit demanded)
    let valve (m : Int) : Int := max (-1000) (min 1000 (Int.tdiv (c.gain * (clamped - m)) 10))
    let steered (t : State) : Prop :=
      t.sc.demanded = demanded ∧ t.sc.envLimit = limit ∧ t.sc.clamped = clamped ∧
      t.sc.state = (if clamped = demanded then .tracking else .limited)
    ∃ t, exec (.steeringUpdate x) s = .next t ∧
      t = { s with ct := t.ct, sc := t.sc, handed := t.handed } ∧
      t.sc.sensorA = sensor x.sensorA ∧ t.sc.sensorB = sensor x.sensorB ∧ t.sc.wheel = wheel ∧
      t.sc.pressure = some (min 350 x.pressure) ∧ t.sc.measured = measured ∧
      t.sc.lowCount = (if low then min 3 (c.lowCount + 1) else 0) ∧
      t.sc.goodCount = (if low then 0 else min 3 (c.goodCount + 1)) ∧
      t.sc.pressureLow =
        (if t.sc.lowCount = 3 then true else if t.sc.goodCount = 3 then false else c.pressureLow) ∧
      (c.state = .direct → t.sc.state = .direct ∧ t.sc.valve = c.valve ∧ t.sc.sensorFault = c.sensorFault) ∧
      (c.state = .align → agree = false ∨ c.agreement + 1 < 5 →
        t.sc.state = .align ∧ t.sc.valve = c.valve ∧ t.sc.agreement = if agree then c.agreement + 1 else 0) ∧
      (c.state = .align → agree = true → 5 ≤ c.agreement + 1 →
        steered t ∧ t.sc.agreement = 0 ∧ t.sc.following = 0 ∧ t.sc.sensorFault = 0 ∧
        ∀ m, measured = some m → t.sc.valve = valve m) ∧
      (c.state = .tracking ∨ c.state = .limited →
        (5 ≤ faults → t.sc.state = .direct ∧ t.sc.valve = 0 ∧ t.sc.following = 0 ∧ t.sc.followMark = false ∧
          t.sc.sensorFault = 0) ∧
        (faults < 5 → steered t ∧ t.sc.sensorFault = faults ∧
          (measured = none → t.sc.valve = c.valve ∧ t.sc.following = c.following ∧ t.sc.followMark = c.followMark) ∧
          ∀ m, measured = some m → t.sc.valve = valve m ∧
            t.sc.following = (if 30 < mag (clamped - m) then min 25 (c.following + 1) else 0) ∧
            t.sc.followMark =
              if 30 < mag (clamped - m) then c.followMark || decide (25 ≤ c.following + 1) else false)) ∧
      t.sc.stCond = (t.sc.state == .direct || t.sc.followMark) ∧ t.sc.spCond = t.sc.pressureLow ∧
      t.handed = s.handed ++ told .st c.stCond t.sc.stCond ++ told .sp c.spCond t.sc.spCond

/-- R152, R154 and R155: the envelope angle, the allowed speed, the ENVELOPE record, and the assist aim and bias; and R157:
the settings that READ_STEERING gives are those the last update worked by, which no other command but a reset changes. -/
def Obligations.EnvelopeRecordAndAssistFollowTheAngle : Prop :=
  (∀ (c : Instr) (s t : State), exec c s = .next t → c ≠ .softReset → c ≠ .hardReset → (∀ x, c ≠ .steeringUpdate x) →
    t.sc.lastUpdate = s.sc.lastUpdate) ∧
  ∀ (s : State) (x : SteerPorts),
    ∃ t, exec (.steeringUpdate x) s = .next t ∧
      let c := t.sc
      let steering : Prop := c.state = .tracking ∨ c.state = .limited
      (∀ m, steering → c.measured = some m → c.envAngle = mag m) ∧
      (¬ steering ∨ c.measured = none →
        (∀ a b, c.sensorA = some a → c.sensorB = some b → c.envAngle = max (mag a) (mag b)) ∧
        (∀ a, c.sensorA = some a → c.sensorB = none → c.envAngle = mag a) ∧
        (∀ b, c.sensorA = none → c.sensorB = some b → c.envAngle = mag b) ∧
        (c.sensorA = none → c.sensorB = none → c.envAngle = 450)) ∧
      c = { c with
        envelope := s.sc.envelope, ratio := s.sc.ratio, gain := s.sc.gain, envRamp := s.sc.envRamp
        assistMax := s.sc.assistMax, reserve := s.sc.reserve, assistOn := s.sc.assistOn, assistGain := s.sc.assistGain
        configured := s.sc.configured
        lastUpdate := ⟨s.sc.envelope, s.sc.ratio, s.sc.gain, s.sc.envRamp, s.sc.assistMax, s.sc.reserve, s.sc.assistOn,
          s.sc.assistGain, s.sc.configured⟩ } ∧
      c.allowed = ((c.envelope.rows.filter fun r => decide (r.angle < c.envAngle)).head?.map EnvRow.speed).getD 700 ∧
      c.value = min (min c.allowed (if c.stCond = true ∨ s.pu.flags.st = true then 150 else c.allowed))
        (if c.spCond = true ∨ s.pu.flags.sp = true then 100 else c.allowed) ∧
      (c.value < 700 → c.claimed = some c.value ∧
        t.ct = if s.sc.claimed = some c.value then s.ct
          else claimSet s.ct .steeringEnvelope c.value (some s.sc.envRamp) none) ∧
      (700 ≤ c.value → c.claimed = none ∧
        t.ct = if s.sc.claimed = none then s.ct else claimRetire s.ct .steeringEnvelope none) ∧
      (s.sc.assistOn = false ∨ ¬ steering ∨ s.ta.speed < 30 ∨ 300 < s.ta.speed ∨ c.measured = none → c.aim = 0) ∧
      (∀ m, s.sc.assistOn = true → steering → 30 ≤ s.ta.speed → s.ta.speed ≤ 300 → c.measured = some m →
        c.aim = m.sign * (min s.sc.assistMax (s.sc.assistGain * mag m / 10) : Nat)) ∧
      ((s.station .s2).state = .live → (s.station .s3).state = .live →
        c.bias = max (s.sc.bias - 10) (min (s.sc.bias + 10) c.aim)) ∧
      ((s.station .s2).state ≠ .live ∨ (s.station .s3).state ≠ .live → c.bias = 0)

/-! ### Payload supervision (chapter 8) -/

/-- R163 to R167: the payload sample: the live payload, the still run, the window, and the latch they lead to. The counts
held at their widths are log 28, the order of the two claims log 43, strut loads above 300 held log 6. -/
def Obligations.PayloadSampleWeighsAndLatches : Prop :=
  ∀ (s : State) (x : PayloadPorts),
    let p := s.pm
    let void : Bool := !(x.struts.s0.healthy && x.struts.s1.healthy && x.struts.s2.healthy && x.struts.s3.healthy)
    let load := min 300 x.struts.s0.load + min 300 x.struts.s1.load + min 300 x.struts.s2.load + min 300 x.struts.s3.load
    let live := if void then p.live else min 1200 (load - p.sprung)
    let still : Bool := !void && decide (s.ta.speed < 5) && x.body == .down
    let moving : Bool := !void && decide (30 ≤ s.ta.speed) && decide (s.ta.speed ≤ 150) && x.body == .down
    let gathers : Bool := still && (p.state == .unknown || p.state == .empty || p.state == .latched
      || (p.state == .measuring && p.winMetres == 100))
    let stillSum := if gathers then p.stillSum + live else 0
    let stillCount := if gathers then p.stillCount + 1 else 0
    let counts : Bool := p.state == .measuring && moving
    let winSum := if counts then min (p.winSum + live) 4294967295 else p.winSum
    let winCount := if counts then min (p.winCount + 1) 65535 else p.winCount
    let mean := stillSum / 40
    let read : Pm := { p with
      live := live, liveClass := if void then p.liveClass else payloadClass p.rated live, body := x.body
      struts := .of fun n => ⟨min 300 (x.struts.get n).load, (x.struts.get n).healthy⟩
      stillSum := stillSum, stillCount := stillCount, winSum := winSum, winCount := winCount }
    let keeps : Prop := (p.state = .empty ∨ p.state = .latched) ∧ (∀ l, p.latched = some l → gap mean l < 3) ∧
      p.cls = some (payloadClass p.rated mean)
    let closed : Prop := p.state = .measuring ∧ p.winMetres = 100 ∧ 20 ≤ winCount
    let released : Prop := p.state = .dumping ∧ p.dumpRelease = true ∧ x.body = .down
    ∃ t, exec (.payloadSample x) s = .next t ∧
      t.pm.live = live ∧ t.pm.liveClass = read.liveClass ∧ t.pm.body = x.body ∧ t.pm.struts = read.struts ∧
      (stillCount = 40 → ¬ keeps → latchedFrom s t mean) ∧
      (stillCount = 40 → keeps → t = { s with pm := { read with stillSum := 0, stillCount := 0 } }) ∧
      (stillCount ≠ 40 → closed → latchedFrom s t (winSum / winCount)) ∧
      (stillCount ≠ 40 → released →
        t = { s with pm := { read with state := .unknown, stillSum := 0, stillCount := 0, dumpRelease := false } }) ∧
      (stillCount ≠ 40 → ¬ closed → ¬ released → t = { s with pm := read })

/-- R166: metre events at PM open and close the measuring window; R167's classes by the rated payload. The order of the two
claims of a latch is log 43. -/
def Obligations.WindowMetresCloseTheWindow : Prop :=
  (∀ (s : State) (dir : Travel),
    let p := s.pm
    (p.state ≠ .measuring ∨ dir = .reverse ∨ 100 ≤ p.winMetres → exec (.windowMetre dir) s = .next s) ∧
    (p.state = .measuring → p.winMetres < 100 → p.winMetres + 1 < 100 ∨ p.winCount < 20 →
      exec (.windowMetre .forward) s = .next { s with pm := { p with winMetres := p.winMetres + 1 } }) ∧
    (p.state = .measuring → p.winMetres = 99 → 20 ≤ p.winCount →
      ∃ t, exec (.windowMetre .forward) s = .next t ∧ latchedFrom s t (p.winSum / p.winCount))) ∧
  ∀ rated m : Nat,
    (payloadClass rated m = .empty ↔ m * 10 < rated) ∧
    (payloadClass rated m = .carry ↔ rated ≤ m * 10 ∧ m ≤ rated) ∧
    (payloadClass rated m = .over10 ↔ rated < m ∧ m * 10 ≤ rated * 11) ∧
    (payloadClass rated m = .over20 ↔ rated * 11 < m * 10 ∧ m * 10 ≤ rated * 12) ∧
    (payloadClass rated m = .overmax ↔ rated * 12 < m * 10)

end

section

open Sys2Proof Sys2Proof.Machine

/-! ### Protection classes, trips and safe stop (chapter 9) -/

/-- R178, R181, R182 and R184: slip, overspeed and the stopped count at a pass arrival, and the protection timer. That a
slip mark of a station that PU holds ABSENT or PARKED counts as clear is log 22; that the stations are taken in the order
S0 to S3, and their claims handed on in it, is log 31. -/
def Obligations.PassArrivalJudgesSlipSpeedAndStop : Prop :=
  (∀ (s : State) (marks : PerStation (Option Bool)) (speed : Nat), tableLegal s.ct →
    let p := s.pu
    let begins : Bool := p.osRef.any (fun r => decide (r + 30 < speed)) && decide (5 ≤ p.osCount + 1) && !p.conds.os
    let enters : Bool := begins && !p.masks.os && p.level == .normal
    let slips (n : Station) : Bool :=
      marks.get n == some true && (s.puStation n).copy != .absent && (s.puStation n).copy != .parked
    let slipCount (n : Station) := if slips n then min 3 ((s.puStation n).slipCount + 1) else 0
    let clearCount (n : Station) := if slips n then 0 else min 10 ((s.puStation n).clearCount + 1)
    let starts (n : Station) : Bool := slipCount n == 3 && !(s.puStation n).conds.sl
    let ends (n : Station) : Bool := clearCount n == 10 && (s.puStation n).conds.sl
    let trips (n : Station) : Bool := (s.puStation n).copy.tripsHere && !(s.station n).settings.mask.sl
    let kept := [Station.s0, .s1, .s2, .s3].foldl (fun ct n =>
      if starts n then claimSet ct (.sl n) 300 (some 20) none
      else if ends n then claimRetire ct (.sl n) none else ct) s.ct
    ∃ t, exec (.passArrival marks speed) s = .next t ∧
      t = { s with ct := t.ct, pu := t.pu, sl := t.sl, handed := t.handed } ∧
      t.ct = (if enters then claimSet kept .safe 0 none none else kept) ∧
      t.handed = s.handed ++
        ([Station.s0, .s1, .s2, .s3].filter starts).map (fun n => .raiseClaim n .sl (trips n)) ∧
      t.sl = { s.sl with
        notices := { s.sl.notices with
          stationTrip := s.sl.notices.stationTrip || [Station.s0, .s1, .s2, .s3].any fun n => starts n && trips n
          safeStop := s.sl.notices.safeStop || enters }
        tripSet := .of fun n => s.sl.tripSet.get n || (starts n && trips n) } ∧
      (∀ n,
        let q := s.puStation n
        let base := match s.rs.surface with
          | .dry => 150
          | .wet => 100
          | .slick => 60
        t.puStation n = { q with
          slipCount := slipCount n, clearCount := clearCount n
          conds := { q.conds with sl := (q.conds.sl || starts n) && !ends n }
          slClaimed := (q.slClaimed || starts n) && !ends n
          threshold := max 10 (speed * base * (s.station n).settings.slip / 100000) }) ∧
      t.pu = { p with
        stations := t.pu.stations
        osCount := match p.osRef with
          | some r => if r + 30 < speed then min 5 (p.osCount + 1) else 0
          | none => 0
        conds := { p.conds with
          os := match p.osRef with
            | some r => if r + 30 < speed then p.conds.os || begins else false
            | none => p.conds.os }
        flags := { p.flags with os := p.flags.os || begins }
        osDemand := if begins then 1000 else
          if p.osDemand = 1000 ∧ speed ≤ (speedCeiling s.ct).value then 0 else p.osDemand
        level := if enters then .safeStop else
          if p.level = .safeStop ∧ speed < 5 ∧ 100 ≤ p.stopped + 1 then .stoppedSafe else p.level
        stopped := if enters then 0 else
          if p.level = .safeStop then (if speed < 5 ∧ p.stopped + 1 < 100 then p.stopped + 1 else 0) else p.stopped }) ∧
  ∀ s : State,
    let ceiling := (speedCeiling s.ct).value
    (s.pu.osRef = none → exec .protectionTimer s = .next { s with pu := { s.pu with osRef := some ceiling } }) ∧
    ∀ r, s.pu.osRef = some r → exec .protectionTimer s = .next
      { s with pu := { s.pu with osRef := some (if r < ceiling then ceiling else max ceiling (r - 2)) } }

/-- R173, R176, R177, R179, R180 and R183: a report and a link-lost event judged against the state they carry, and the
begins and ends events of the truck classes. That one taken after its station has parked leaves nothing judged of it is
log 23, whose mask set it is judged against log 44, that a route fault's cause is not kept log 29. -/
def Obligations.ReportsAndConditionsAreJudged : Prop :=
  (∀ (s : State) (n : Station) (st : StationState) (r : Judged),
    (st = .absent ∨ st = .parked →
      exec (.reportJudgement n st r) s = .next s ∧ exec (.linkLostEvent n st) s = .next s) ∧
    (st ≠ .absent → st ≠ .parked →
      let q := s.puStation n
      let was := q.conds
      let parked : Bool := q.copy == .parked
      let own := if parked then (s.station n).parkSlot.getD Settings.default else (s.station n).settings
      let unjudged : PuStation := { PuStation.reset with copy := .parked, threshold := q.threshold }
      let now : StationFlags :=
        { oc := r.peakOc, mt := tempHolds was.mt r.motor s.pu.motorWarn
          it := tempHolds was.it r.inverter s.pu.inverterWarn, sl := was.sl, lk := false, iv := r.invFault }
      let begun := [StationClass.iv, .oc, .mt, .it].filter fun c => now.get c && !was.get c
      let claims := tagFirst (fun c => st.tripsHere && !own.mask.masks c) begun
      let t0 := if r.peakOc then claimSet s.ct (.oc n) 500 (some 20) (some ⟨.time, 50⟩) else s.ct
      let motor := tempClaim t0 (.mt n) was.mt q.mtClaimed r.motor s.pu.motorWarn
      let inverter := tempClaim motor.2 (.it n) was.it q.itClaimed r.inverter s.pu.inverterWarn
      exec (.reportJudgement n st r) s = .next
        { s with
          ct := if parked then stationKeysRetired inverter.2 n else inverter.2
          pu := { s.pu with
            stations := s.pu.stations.set n
              (if parked then unjudged
              else { q with conds := now, mtClaimed := motor.1, itClaimed := inverter.1 }) }
          sl := if claims.any fun c => c.2 then
            { s.sl with
              notices := { s.sl.notices with stationTrip := true }, tripSet := s.sl.tripSet.set n true } else s.sl
          handed := s.handed ++ claims.map fun c => .raiseClaim n c.1 c.2 } ∧
      (was.lk = true → parked = false → exec (.linkLostEvent n st) s = .next s) ∧
      (was.lk = false → exec (.linkLostEvent n st) s = .next
        { s with
          pu := { s.pu with
            stations := s.pu.stations.set n
              (if parked then unjudged else { q with conds := { was with lk := true } }) }
          sl := if st.tripsHere then
            { s.sl with
              notices := { s.sl.notices with stationTrip := true }, tripSet := s.sl.tripSet.set n true } else s.sl
          handed := s.handed ++ [.raiseClaim n .lk st.tripsHere] }))) ∧
  ∀ (s : State) (c : HandedClass) (cause : Option RouteFault),
    let k := c.toTruck
    (s.pu.conds.get k = true → exec (.truckConditionBegins ⟨c, cause⟩) s = .next s) ∧
    (s.pu.conds.get k = false →
      let stops : Bool := k != .pl && !s.pu.masks.get k && s.pu.level == .normal
      exec (.truckConditionBegins ⟨c, cause⟩) s = .next
        { s with
          ct := if stops then claimSet s.ct .safe 0 none none else s.ct
          pu := { s.pu with
            conds := s.pu.conds.put k true, flags := s.pu.flags.put k true
            level := if stops then .safeStop else s.pu.level, stopped := if stops then 0 else s.pu.stopped }
          sl := { s.sl with
            notices := { s.sl.notices with
              bankFailed := s.sl.notices.bankFailed || k == .gf
              routeFaulted := s.sl.notices.routeFaulted || k == .pr
              safeStop := s.sl.notices.safeStop || stops } } }) ∧
    exec (.truckConditionEnds c) s = .next { s with pu := { s.pu with conds := s.pu.conds.put k false } }

/-- R186 to R190: CLEAR_FAULTS and SET_MASK for a station and for the truck, and PROTECTION_INIT. A target byte of 4 under
the station rows is log 34, the answer to an unmasked PL log 39, the order in which a grid clear starts two checks log 21, the
share of a checked bank log 41, that SPEED is claimed before PROPEL log 43, that GF and ST end at once although their begins
events still wait log 48, and that a re-check of an earlier clear keeps GF log 50. -/
def Obligations.FaultClearsAndMasksAct : Prop :=
  ∀ s : State, s.linkFree →
    (∀ n, 5 ≤ n → exec (.clearFaultsStation n) s = .next (replied s s .clearFaults (refuseValue .target)) ∧
      ∀ m, exec (.setMaskStation n m) s = .next (replied s s .setMask (refuseValue .target))) ∧
    exec (.clearFaultsStation 4) s = exec .clearFaultsTruck s ∧
    (∀ m, exec (.setMaskStation 4 m) s = exec (.setMaskTruck m) s) ∧
    (∀ n : Station,
      let x := s.station n
      let kept : Settings := { x.settings with flags := x.settings.flags.minus (x.settings.flags.minus (s.puStation n).conds) }
      let st : StationState := if x.state = .tripped ∧ kept.tripping = false then .standby else x.state
      let shown := u8 (stationStateCode st) ++ u16 kept.flags.code
      (x.state = .parked →
        exec (.clearFaultsStation n.num) s = .next (replied s s .clearFaults (refuseState .parked))) ∧
      (x.state ≠ .parked →
        exec (.clearFaultsStation n.num) s = .next (replied s
          { s with
            sm := s.sm.set n { x with state := st, settings := kept }
            pu := { s.pu with
              stations := s.pu.stations.set n
                { s.puStation n with copy := if st = x.state then (s.puStation n).copy else st } } }
          .clearFaults
          (if st = .tripped then doneAlert .stillTripped shown
          else if kept.flags.any then doneAlert .conditionsPresent shown else done shown)))) ∧
    (∀ (n : Station) (set : Nat),
      let x := s.station n
      (stationMaskOf set = none →
        exec (.setMaskStation n.num set) s = .next (replied s s .setMask (refuseValue .mask))) ∧
      ∀ m, stationMaskOf set = some m →
        (x.state = .tripped →
          exec (.setMaskStation n.num set) s = .next (replied s s .setMask (refuseState .tripped))) ∧
        (x.state = .parked →
          exec (.setMaskStation n.num set) s = .next (replied s s .setMask (refuseState .parked))) ∧
        (x.state ≠ .tripped → x.state ≠ .parked →
          let u : State := { s with sm := s.sm.set n { x with settings := { x.settings with mask := m } } }
          let opened := [StationClass.oc, .mt, .it, .sl].filter fun c =>
            x.settings.mask.masks c && !m.masks c && x.settings.flags.get c
          (opened = [] → exec (.setMaskStation n.num set) s = .next (replied s u .setMask (done []))) ∧
          ∀ c, opened.head? = some c → exec (.setMaskStation n.num set) s = .next (replied s
            { u with
              sl := { s.sl with
                notices := { s.sl.notices with stationTrip := true }, tripSet := s.sl.tripSet.set n true }
              handed := s.handed ++ [.raiseClaim n c true] }
            .setMask (doneAlert .escalated [])))) ∧
    (s.pu.level = .safeStop →
      exec .clearFaultsTruck s = .next (replied s s .clearFaults (refuseState .moving))) ∧
    (s.pu.level ≠ .safeStop →
      ∃ (u : State) (a : Answer), exec .clearFaultsTruck s = .next (replied s u .clearFaults a) ∧
        a.payload = u.truckFlagBytes ∧
        u = { s with ct := u.ct, gd := u.gd, sc := u.sc, pu := u.pu, handed := u.handed } ∧
        (∀ k, (u.bank k).blowerMark = false ∧ (u.bank k).blowerCount = 0 ∧
          (u.bank k).state = if (s.bank k).state = .failed then .checking else (s.bank k).state) ∧
        (∀ k, u.bank k =
          if (s.bank k).state = .failed then
            { s.bank k with
              blowerMark := false, blowerCount := 0, state := .checking, chopper := 200, avail := 0, openCount := 0
              checkTimer := some 200, recheck := true
              leadEnergy := (u.bank k).leadEnergy, leadRem := (u.bank k).leadRem }
          else
            { s.bank k with
              blowerMark := false, blowerCount := 0
              leadEnergy := (u.bank k).leadEnergy, leadRem := (u.bank k).leadRem }) ∧
        (let started : Prop := ∃ k, (s.bank k).state = .failed
        let value := min 1000
          (1000 * ((u.bank .a).avail + (u.bank .b).avail) / (s.gd.cfg.rated.a + s.gd.cfg.rated.b))
        (¬ started → u.gd = { s.gd with banks := u.gd.banks, gf := u.gd.gf } ∧
          ∀ k, (u.bank k).leadEnergy = (s.bank k).leadEnergy ∧ (u.bank k).leadRem = (s.bank k).leadRem) ∧
        (started → banksLegal s.gd →
          u.gd.lead = settledLead s.gd.order s.gd.lead (fun _ => false) ∧ u.gd.published = u.gd.figures ∧
          u.gd.gridValue = (gridEvaluated s.ct s.gd.gridValue true value).1) ∧
        (¬ started ∨ banksLegal s.gd →
          let graded := if (s.bank .a).state = .failed ∨ (s.bank .b).state = .failed then
            (gridEvaluated s.ct s.gd.gridValue true value).2 else s.ct
          u.ct = if s.pu.level = .stoppedSafe ∧ u.pu.level = .normal then claimRetire graded .safe none else graded)) ∧
        u.gd.gf = u.gd.faulty ∧
        u.handed = s.handed ++ (if u.gd.faulty && !s.gd.gf then [.truckConditionBegins ⟨.gf, none⟩] else []) ∧
        u.pu.conds = { s.pu.conds with
          gf := s.pu.conds.gf && !(s.gd.gf && !u.gd.faulty)
          st := s.pu.conds.st && !(s.sc.state == .direct && s.sc.sensorsAgree && s.sc.stCond) } ∧
        u.sc = (if s.sc.state = .direct ∧ s.sc.sensorsAgree = true then
          { s.sc with
            state := .align, valve := 0, following := 0, followMark := false, sensorFault := 0, agreement := 0
            stCond := false } else s.sc) ∧
        u.pu = { s.pu with
          conds := u.pu.conds, flags := s.pu.flags.inter u.pu.conds
          level := if s.pu.level = .stoppedSafe ∧ stopping (s.pu.flags.inter u.pu.conds) s.pu.masks = false then .normal
            else s.pu.level } ∧
        (∀ c, c ≠ .gf → c ≠ .st → u.pu.conds.get c = s.pu.conds.get c) ∧
        (a.cls, a.detail) =
          if u.pu.level ≠ .normal then (.doneAlert, some .stillStopped)
          else if (s.bank .a).state = .failed ∨ (s.bank .b).state = .failed then (.doneAlert, some .checkStarted)
          else if u.pu.flags.any then (.doneAlert, some .conditionsPresent) else (.done, none)) ∧
    (∀ set : Nat,
      (truckMaskOf set = none → exec (.setMaskTruck set) s = .next (replied s s .setMask (refuseValue .mask))) ∧
      ∀ m, truckMaskOf set = some m →
        (s.pu.level ≠ .normal → exec (.setMaskTruck set) s = .next (replied s s .setMask (refuseState .level))) ∧
        (s.pu.level = .normal →
          let up : Bool := [TruckClass.gt, .gf, .dv, .os, .st, .sp, .pr].any fun c =>
            s.pu.masks.get c && !m.get c && s.pu.flags.get c
          let want := payloadWanted s.pm.over10Speed m.pl s.pm.cls
          let t0 := if up then claimSet s.ct .safe 0 none none else s.ct
          exec (.setMaskTruck set) s = .next (replied s
            { s with
              ct := if m.pl = s.pu.masks.pl then t0
                else keyClaimed (keyClaimed t0 .payloadSpeed want.1 s.pm.speedClaimed) .payloadPropel want.2
                  s.pm.propelClaimed
              pm := if m.pl = s.pu.masks.pl then s.pm
                else { s.pm with plMasked := m.pl, speedClaimed := want.1, propelClaimed := want.2 }
              pu := { s.pu with
                masks := m, level := if up then .safeStop else .normal, stopped := if up then 0 else s.pu.stopped }
              sl := { s.sl with notices := { s.sl.notices with safeStop := s.sl.notices.safeStop || up } } }
            .setMask (if up then doneAlert .escalated [] else done [])))) ∧
    (s.pu.level ≠ .normal →
      exec .protectionInit s = .next (replied s s .protectionInit (refuseState .level))) ∧
    (s.pu.level = .normal → 5 ≤ s.ta.speed →
      exec .protectionInit s = .next (replied s s .protectionInit (refuseState .moving))) ∧
    (s.pu.level = .normal → s.ta.speed < 5 →
      let want := payloadWanted s.pm.over10Speed true s.pm.cls
      exec .protectionInit s = .next (replied s
        { s with
          ct := if s.pu.masks.pl then s.ct
            else keyClaimed (keyClaimed s.ct .payloadSpeed want.1 s.pm.speedClaimed) .payloadPropel want.2
              s.pm.propelClaimed
          pm := if s.pu.masks.pl then s.pm
            else { s.pm with plMasked := true, speedClaimed := want.1, propelClaimed := want.2 }
          pu := { s.pu with
            masks := { gt := false, gf := true, dv := true, os := true, pl := true, st := false, sp := false, pr := true }
            flags := ⟨false, false, false, false, false, false, false, false⟩
            osRef := some (speedCeiling s.ct).value, osCount := 0, osDemand := 0 } }
        .protectionInit (done [])))

/-- R183 and R184, and the ranges of the state tables: outside NORMAL an unmasked truck flag other than PL is set, outside
SAFE_STOP nothing is counted, and the counts and figures that `fieldsInRange` names, block by block, stay within their
ranges at every step; the slip thresholds stay at or below 700 (R172) at every step but one that takes a commanded
pass arrival of a speed that no pass hands over; and the grants (R45, R52) and the overspeed reference (R172) keep theirs over
a legal table, at every step but one that takes an ill-formed command. -/
def Obligations.LevelAndFieldsStayInRange : Prop :=
  ∀ s t : State, levelHeld s.pu → fieldsInRange s → step s = .next t →
    levelHeld t.pu ∧ fieldsInRange t ∧
    (thresholdsInRange s.pu → (∀ marks v rest, s.pending = .passArrival marks v :: rest → v ≤ 700) →
      thresholdsInRange t.pu) ∧
    (tableLegal s.ct → ceilingsHold s → (∀ c rest, s.pending = c :: rest → c.wf = true) → ceilingsHold t)

/-- The invariants hold right after reset; among the figures are those of log 17, to which the spec gives no reset value. -/
def Obligations.InvariantsHoldAtReset : Prop :=
  tableLegal State.reset.ct ∧ custodyAgrees State.reset ∧ copiesAgree State.reset ∧ armingAgrees State.reset ∧
  banksLegal State.reset.gd ∧ routeLegal State.reset.rs ∧ storeLegal State.reset.rs.store ∧
  levelHeld State.reset.pu ∧ fieldsInRange State.reset ∧ thresholdsInRange State.reset.pu ∧ ceilingsHold State.reset

end
end

