-- ==== Sys2Proof/Laws/State.lean ====
section
/-! SUPPORT. One lemma per field per block update, and the lookups of the per-station and per-bank records. -/

namespace Sys2Proof

@[simp] theorem PerStation.get_set_same {α : Type} (p : PerStation α) (n : Station) (x : α) : (p.set n x).get n = x := by
  cases n <;> rfl

theorem PerStation.get_set_other {α : Type} (p : PerStation α) {n m : Station} (x : α) (h : m ≠ n) :
    (p.set n x).get m = p.get m := by
  cases n <;> cases m <;> first | rfl | exact absurd rfl h

theorem PerStation.get_set {α : Type} (p : PerStation α) (n m : Station) (x : α) :
    (p.set n x).get m = if m = n then x else p.get m := by
  cases n <;> cases m <;> rfl

@[simp] theorem PerStation.get_fill {α : Type} (x : α) (n : Station) : (PerStation.fill x).get n = x := by
  cases n <;> rfl

@[simp] theorem PerStation.get_of {α : Type} (f : Station → α) (n : Station) : (PerStation.of f).get n = f n := by
  cases n <;> rfl

@[simp] theorem PerBank.get_set_same {α : Type} (p : PerBank α) (k : Bank) (x : α) : (p.set k x).get k = x := by
  cases k <;> rfl

theorem PerBank.get_set {α : Type} (p : PerBank α) (k j : Bank) (x : α) :
    (p.set k x).get j = if j = k then x else p.get j := by
  cases k <;> cases j <;> rfl

@[simp] theorem PerBank.get_fill {α : Type} (x : α) (k : Bank) : (PerBank.fill x).get k = x := by
  cases k <;> rfl

@[simp] theorem PerBank.get_of {α : Type} (f : Bank → α) (k : Bank) : (PerBank.of f).get k = f k := by
  cases k <;> rfl

end Sys2Proof

namespace Sys2Proof.Machine

variable (s : State)

@[simp] theorem State.withCt_ct (x : List Slot) : (s.withCt x).ct = x := rfl
@[simp] theorem State.withCt_ta (x : List Slot) : (s.withCt x).ta = s.ta := rfl
@[simp] theorem State.withCt_sm (x : List Slot) : (s.withCt x).sm = s.sm := rfl
@[simp] theorem State.withCt_gd (x : List Slot) : (s.withCt x).gd = s.gd := rfl
@[simp] theorem State.withCt_rs (x : List Slot) : (s.withCt x).rs = s.rs := rfl
@[simp] theorem State.withCt_dg (x : List Slot) : (s.withCt x).dg = s.dg := rfl
@[simp] theorem State.withCt_sc (x : List Slot) : (s.withCt x).sc = s.sc := rfl
@[simp] theorem State.withCt_pm (x : List Slot) : (s.withCt x).pm = s.pm := rfl
@[simp] theorem State.withCt_pu (x : List Slot) : (s.withCt x).pu = s.pu := rfl
@[simp] theorem State.withCt_sl (x : List Slot) : (s.withCt x).sl = s.sl := rfl
@[simp] theorem State.withCt_free (x : List Slot) : (s.withCt x).free = s.free := rfl
@[simp] theorem State.withCt_handed (x : List Slot) : (s.withCt x).handed = s.handed := rfl
@[simp] theorem State.withCt_pending (x : List Slot) : (s.withCt x).pending = s.pending := rfl

@[simp] theorem State.withTa_ct (x : Ta) : (s.withTa x).ct = s.ct := rfl
@[simp] theorem State.withTa_ta (x : Ta) : (s.withTa x).ta = x := rfl
@[simp] theorem State.withTa_sm (x : Ta) : (s.withTa x).sm = s.sm := rfl
@[simp] theorem State.withTa_gd (x : Ta) : (s.withTa x).gd = s.gd := rfl
@[simp] theorem State.withTa_rs (x : Ta) : (s.withTa x).rs = s.rs := rfl
@[simp] theorem State.withTa_dg (x : Ta) : (s.withTa x).dg = s.dg := rfl
@[simp] theorem State.withTa_sc (x : Ta) : (s.withTa x).sc = s.sc := rfl
@[simp] theorem State.withTa_pm (x : Ta) : (s.withTa x).pm = s.pm := rfl
@[simp] theorem State.withTa_pu (x : Ta) : (s.withTa x).pu = s.pu := rfl
@[simp] theorem State.withTa_sl (x : Ta) : (s.withTa x).sl = s.sl := rfl
@[simp] theorem State.withTa_free (x : Ta) : (s.withTa x).free = s.free := rfl
@[simp] theorem State.withTa_handed (x : Ta) : (s.withTa x).handed = s.handed := rfl
@[simp] theorem State.withTa_pending (x : Ta) : (s.withTa x).pending = s.pending := rfl

@[simp] theorem State.withSm_ct (x : PerStation StationCtx) : (s.withSm x).ct = s.ct := rfl
@[simp] theorem State.withSm_ta (x : PerStation StationCtx) : (s.withSm x).ta = s.ta := rfl
@[simp] theorem State.withSm_sm (x : PerStation StationCtx) : (s.withSm x).sm = x := rfl
@[simp] theorem State.withSm_gd (x : PerStation StationCtx) : (s.withSm x).gd = s.gd := rfl
@[simp] theorem State.withSm_rs (x : PerStation StationCtx) : (s.withSm x).rs = s.rs := rfl
@[simp] theorem State.withSm_dg (x : PerStation StationCtx) : (s.withSm x).dg = s.dg := rfl
@[simp] theorem State.withSm_sc (x : PerStation StationCtx) : (s.withSm x).sc = s.sc := rfl
@[simp] theorem State.withSm_pm (x : PerStation StationCtx) : (s.withSm x).pm = s.pm := rfl
@[simp] theorem State.withSm_pu (x : PerStation StationCtx) : (s.withSm x).pu = s.pu := rfl
@[simp] theorem State.withSm_sl (x : PerStation StationCtx) : (s.withSm x).sl = s.sl := rfl
@[simp] theorem State.withSm_free (x : PerStation StationCtx) : (s.withSm x).free = s.free := rfl
@[simp] theorem State.withSm_handed (x : PerStation StationCtx) : (s.withSm x).handed = s.handed := rfl
@[simp] theorem State.withSm_pending (x : PerStation StationCtx) : (s.withSm x).pending = s.pending := rfl

@[simp] theorem State.withGd_ct (x : Gd) : (s.withGd x).ct = s.ct := rfl
@[simp] theorem State.withGd_ta (x : Gd) : (s.withGd x).ta = s.ta := rfl
@[simp] theorem State.withGd_sm (x : Gd) : (s.withGd x).sm = s.sm := rfl
@[simp] theorem State.withGd_gd (x : Gd) : (s.withGd x).gd = x := rfl
@[simp] theorem State.withGd_rs (x : Gd) : (s.withGd x).rs = s.rs := rfl
@[simp] theorem State.withGd_dg (x : Gd) : (s.withGd x).dg = s.dg := rfl
@[simp] theorem State.withGd_sc (x : Gd) : (s.withGd x).sc = s.sc := rfl
@[simp] theorem State.withGd_pm (x : Gd) : (s.withGd x).pm = s.pm := rfl
@[simp] theorem State.withGd_pu (x : Gd) : (s.withGd x).pu = s.pu := rfl
@[simp] theorem State.withGd_sl (x : Gd) : (s.withGd x).sl = s.sl := rfl
@[simp] theorem State.withGd_free (x : Gd) : (s.withGd x).free = s.free := rfl
@[simp] theorem State.withGd_handed (x : Gd) : (s.withGd x).handed = s.handed := rfl
@[simp] theorem State.withGd_pending (x : Gd) : (s.withGd x).pending = s.pending := rfl

@[simp] theorem State.withRs_ct (x : Rs) : (s.withRs x).ct = s.ct := rfl
@[simp] theorem State.withRs_ta (x : Rs) : (s.withRs x).ta = s.ta := rfl
@[simp] theorem State.withRs_sm (x : Rs) : (s.withRs x).sm = s.sm := rfl
@[simp] theorem State.withRs_gd (x : Rs) : (s.withRs x).gd = s.gd := rfl
@[simp] theorem State.withRs_rs (x : Rs) : (s.withRs x).rs = x := rfl
@[simp] theorem State.withRs_dg (x : Rs) : (s.withRs x).dg = s.dg := rfl
@[simp] theorem State.withRs_sc (x : Rs) : (s.withRs x).sc = s.sc := rfl
@[simp] theorem State.withRs_pm (x : Rs) : (s.withRs x).pm = s.pm := rfl
@[simp] theorem State.withRs_pu (x : Rs) : (s.withRs x).pu = s.pu := rfl
@[simp] theorem State.withRs_sl (x : Rs) : (s.withRs x).sl = s.sl := rfl
@[simp] theorem State.withRs_free (x : Rs) : (s.withRs x).free = s.free := rfl
@[simp] theorem State.withRs_handed (x : Rs) : (s.withRs x).handed = s.handed := rfl
@[simp] theorem State.withRs_pending (x : Rs) : (s.withRs x).pending = s.pending := rfl

@[simp] theorem State.withDg_ct (x : Dg) : (s.withDg x).ct = s.ct := rfl
@[simp] theorem State.withDg_ta (x : Dg) : (s.withDg x).ta = s.ta := rfl
@[simp] theorem State.withDg_sm (x : Dg) : (s.withDg x).sm = s.sm := rfl
@[simp] theorem State.withDg_gd (x : Dg) : (s.withDg x).gd = s.gd := rfl
@[simp] theorem State.withDg_rs (x : Dg) : (s.withDg x).rs = s.rs := rfl
@[simp] theorem State.withDg_dg (x : Dg) : (s.withDg x).dg = x := rfl
@[simp] theorem State.withDg_sc (x : Dg) : (s.withDg x).sc = s.sc := rfl
@[simp] theorem State.withDg_pm (x : Dg) : (s.withDg x).pm = s.pm := rfl
@[simp] theorem State.withDg_pu (x : Dg) : (s.withDg x).pu = s.pu := rfl
@[simp] theorem State.withDg_sl (x : Dg) : (s.withDg x).sl = s.sl := rfl
@[simp] theorem State.withDg_free (x : Dg) : (s.withDg x).free = s.free := rfl
@[simp] theorem State.withDg_handed (x : Dg) : (s.withDg x).handed = s.handed := rfl
@[simp] theorem State.withDg_pending (x : Dg) : (s.withDg x).pending = s.pending := rfl

@[simp] theorem State.withSc_ct (x : Sc) : (s.withSc x).ct = s.ct := rfl
@[simp] theorem State.withSc_ta (x : Sc) : (s.withSc x).ta = s.ta := rfl
@[simp] theorem State.withSc_sm (x : Sc) : (s.withSc x).sm = s.sm := rfl
@[simp] theorem State.withSc_gd (x : Sc) : (s.withSc x).gd = s.gd := rfl
@[simp] theorem State.withSc_rs (x : Sc) : (s.withSc x).rs = s.rs := rfl
@[simp] theorem State.withSc_dg (x : Sc) : (s.withSc x).dg = s.dg := rfl
@[simp] theorem State.withSc_sc (x : Sc) : (s.withSc x).sc = x := rfl
@[simp] theorem State.withSc_pm (x : Sc) : (s.withSc x).pm = s.pm := rfl
@[simp] theorem State.withSc_pu (x : Sc) : (s.withSc x).pu = s.pu := rfl
@[simp] theorem State.withSc_sl (x : Sc) : (s.withSc x).sl = s.sl := rfl
@[simp] theorem State.withSc_free (x : Sc) : (s.withSc x).free = s.free := rfl
@[simp] theorem State.withSc_handed (x : Sc) : (s.withSc x).handed = s.handed := rfl
@[simp] theorem State.withSc_pending (x : Sc) : (s.withSc x).pending = s.pending := rfl

@[simp] theorem State.withPm_ct (x : Pm) : (s.withPm x).ct = s.ct := rfl
@[simp] theorem State.withPm_ta (x : Pm) : (s.withPm x).ta = s.ta := rfl
@[simp] theorem State.withPm_sm (x : Pm) : (s.withPm x).sm = s.sm := rfl
@[simp] theorem State.withPm_gd (x : Pm) : (s.withPm x).gd = s.gd := rfl
@[simp] theorem State.withPm_rs (x : Pm) : (s.withPm x).rs = s.rs := rfl
@[simp] theorem State.withPm_dg (x : Pm) : (s.withPm x).dg = s.dg := rfl
@[simp] theorem State.withPm_sc (x : Pm) : (s.withPm x).sc = s.sc := rfl
@[simp] theorem State.withPm_pm (x : Pm) : (s.withPm x).pm = x := rfl
@[simp] theorem State.withPm_pu (x : Pm) : (s.withPm x).pu = s.pu := rfl
@[simp] theorem State.withPm_sl (x : Pm) : (s.withPm x).sl = s.sl := rfl
@[simp] theorem State.withPm_free (x : Pm) : (s.withPm x).free = s.free := rfl
@[simp] theorem State.withPm_handed (x : Pm) : (s.withPm x).handed = s.handed := rfl
@[simp] theorem State.withPm_pending (x : Pm) : (s.withPm x).pending = s.pending := rfl

@[simp] theorem State.withPu_ct (x : Pu) : (s.withPu x).ct = s.ct := rfl
@[simp] theorem State.withPu_ta (x : Pu) : (s.withPu x).ta = s.ta := rfl
@[simp] theorem State.withPu_sm (x : Pu) : (s.withPu x).sm = s.sm := rfl
@[simp] theorem State.withPu_gd (x : Pu) : (s.withPu x).gd = s.gd := rfl
@[simp] theorem State.withPu_rs (x : Pu) : (s.withPu x).rs = s.rs := rfl
@[simp] theorem State.withPu_dg (x : Pu) : (s.withPu x).dg = s.dg := rfl
@[simp] theorem State.withPu_sc (x : Pu) : (s.withPu x).sc = s.sc := rfl
@[simp] theorem State.withPu_pm (x : Pu) : (s.withPu x).pm = s.pm := rfl
@[simp] theorem State.withPu_pu (x : Pu) : (s.withPu x).pu = x := rfl
@[simp] theorem State.withPu_sl (x : Pu) : (s.withPu x).sl = s.sl := rfl
@[simp] theorem State.withPu_free (x : Pu) : (s.withPu x).free = s.free := rfl
@[simp] theorem State.withPu_handed (x : Pu) : (s.withPu x).handed = s.handed := rfl
@[simp] theorem State.withPu_pending (x : Pu) : (s.withPu x).pending = s.pending := rfl

@[simp] theorem State.withSl_ct (x : Sl) : (s.withSl x).ct = s.ct := rfl
@[simp] theorem State.withSl_ta (x : Sl) : (s.withSl x).ta = s.ta := rfl
@[simp] theorem State.withSl_sm (x : Sl) : (s.withSl x).sm = s.sm := rfl
@[simp] theorem State.withSl_gd (x : Sl) : (s.withSl x).gd = s.gd := rfl
@[simp] theorem State.withSl_rs (x : Sl) : (s.withSl x).rs = s.rs := rfl
@[simp] theorem State.withSl_dg (x : Sl) : (s.withSl x).dg = s.dg := rfl
@[simp] theorem State.withSl_sc (x : Sl) : (s.withSl x).sc = s.sc := rfl
@[simp] theorem State.withSl_pm (x : Sl) : (s.withSl x).pm = s.pm := rfl
@[simp] theorem State.withSl_pu (x : Sl) : (s.withSl x).pu = s.pu := rfl
@[simp] theorem State.withSl_sl (x : Sl) : (s.withSl x).sl = x := rfl
@[simp] theorem State.withSl_free (x : Sl) : (s.withSl x).free = s.free := rfl
@[simp] theorem State.withSl_handed (x : Sl) : (s.withSl x).handed = s.handed := rfl
@[simp] theorem State.withSl_pending (x : Sl) : (s.withSl x).pending = s.pending := rfl

@[simp] theorem State.withFree_ct (x : Nat) : (s.withFree x).ct = s.ct := rfl
@[simp] theorem State.withFree_ta (x : Nat) : (s.withFree x).ta = s.ta := rfl
@[simp] theorem State.withFree_sm (x : Nat) : (s.withFree x).sm = s.sm := rfl
@[simp] theorem State.withFree_gd (x : Nat) : (s.withFree x).gd = s.gd := rfl
@[simp] theorem State.withFree_rs (x : Nat) : (s.withFree x).rs = s.rs := rfl
@[simp] theorem State.withFree_dg (x : Nat) : (s.withFree x).dg = s.dg := rfl
@[simp] theorem State.withFree_sc (x : Nat) : (s.withFree x).sc = s.sc := rfl
@[simp] theorem State.withFree_pm (x : Nat) : (s.withFree x).pm = s.pm := rfl
@[simp] theorem State.withFree_pu (x : Nat) : (s.withFree x).pu = s.pu := rfl
@[simp] theorem State.withFree_sl (x : Nat) : (s.withFree x).sl = s.sl := rfl
@[simp] theorem State.withFree_free (x : Nat) : (s.withFree x).free = x := rfl
@[simp] theorem State.withFree_handed (x : Nat) : (s.withFree x).handed = s.handed := rfl
@[simp] theorem State.withFree_pending (x : Nat) : (s.withFree x).pending = s.pending := rfl

@[simp] theorem State.withHanded_ct (x : List Instr) : (s.withHanded x).ct = s.ct := rfl
@[simp] theorem State.withHanded_ta (x : List Instr) : (s.withHanded x).ta = s.ta := rfl
@[simp] theorem State.withHanded_sm (x : List Instr) : (s.withHanded x).sm = s.sm := rfl
@[simp] theorem State.withHanded_gd (x : List Instr) : (s.withHanded x).gd = s.gd := rfl
@[simp] theorem State.withHanded_rs (x : List Instr) : (s.withHanded x).rs = s.rs := rfl
@[simp] theorem State.withHanded_dg (x : List Instr) : (s.withHanded x).dg = s.dg := rfl
@[simp] theorem State.withHanded_sc (x : List Instr) : (s.withHanded x).sc = s.sc := rfl
@[simp] theorem State.withHanded_pm (x : List Instr) : (s.withHanded x).pm = s.pm := rfl
@[simp] theorem State.withHanded_pu (x : List Instr) : (s.withHanded x).pu = s.pu := rfl
@[simp] theorem State.withHanded_sl (x : List Instr) : (s.withHanded x).sl = s.sl := rfl
@[simp] theorem State.withHanded_free (x : List Instr) : (s.withHanded x).free = s.free := rfl
@[simp] theorem State.withHanded_handed (x : List Instr) : (s.withHanded x).handed = x := rfl
@[simp] theorem State.withHanded_pending (x : List Instr) : (s.withHanded x).pending = s.pending := rfl

@[simp] theorem State.withPending_ct (x : List Instr) : (s.withPending x).ct = s.ct := rfl
@[simp] theorem State.withPending_ta (x : List Instr) : (s.withPending x).ta = s.ta := rfl
@[simp] theorem State.withPending_sm (x : List Instr) : (s.withPending x).sm = s.sm := rfl
@[simp] theorem State.withPending_gd (x : List Instr) : (s.withPending x).gd = s.gd := rfl
@[simp] theorem State.withPending_rs (x : List Instr) : (s.withPending x).rs = s.rs := rfl
@[simp] theorem State.withPending_dg (x : List Instr) : (s.withPending x).dg = s.dg := rfl
@[simp] theorem State.withPending_sc (x : List Instr) : (s.withPending x).sc = s.sc := rfl
@[simp] theorem State.withPending_pm (x : List Instr) : (s.withPending x).pm = s.pm := rfl
@[simp] theorem State.withPending_pu (x : List Instr) : (s.withPending x).pu = s.pu := rfl
@[simp] theorem State.withPending_sl (x : List Instr) : (s.withPending x).sl = s.sl := rfl
@[simp] theorem State.withPending_free (x : List Instr) : (s.withPending x).free = s.free := rfl
@[simp] theorem State.withPending_handed (x : List Instr) : (s.withPending x).handed = s.handed := rfl
@[simp] theorem State.withPending_pending (x : List Instr) : (s.withPending x).pending = x := rfl

/-! ### A station that PU has ceased to judge -/

@[simp] theorem PuStation.unjudged_copy (p : PuStation) : p.unjudged.copy = p.copy := rfl
@[simp] theorem PuStation.unjudged_threshold (p : PuStation) : p.unjudged.threshold = p.threshold := rfl
@[simp] theorem PuStation.unjudged_conds (p : PuStation) : p.unjudged.conds = StationFlags.none := rfl
@[simp] theorem PuStation.unjudged_unjudged (p : PuStation) : p.unjudged.unjudged = p.unjudged := rfl

end Sys2Proof.Machine
end

