-- ==== Sys2Proof/Laws/Ops.lean ====
section
/-! SUPPORT. What the shared operations leave unchanged, block by block: one frame lemma per operation, and the outcomes
of a request's checks. -/

namespace Sys2Proof.Machine

variable (s : State)

@[simp] theorem State.hand_frame (i : Instr) :
    (s.hand i).ct = s.ct ∧ (s.hand i).ta = s.ta ∧ (s.hand i).sm = s.sm ∧ (s.hand i).gd = s.gd ∧
    (s.hand i).rs = s.rs ∧ (s.hand i).dg = s.dg ∧ (s.hand i).sc = s.sc ∧ (s.hand i).pm = s.pm ∧
    (s.hand i).pu = s.pu ∧ (s.hand i).sl = s.sl ∧ (s.hand i).free = s.free ∧ (s.hand i).pending = s.pending := by
  simp [State.hand]

@[simp] theorem State.notify_frame (k : Notice) :
    (s.notify k).ct = s.ct ∧ (s.notify k).ta = s.ta ∧ (s.notify k).sm = s.sm ∧ (s.notify k).gd = s.gd ∧
    (s.notify k).rs = s.rs ∧ (s.notify k).dg = s.dg ∧ (s.notify k).sc = s.sc ∧ (s.notify k).pm = s.pm ∧
    (s.notify k).pu = s.pu ∧ (s.notify k).free = s.free ∧ (s.notify k).handed = s.handed ∧
    (s.notify k).pending = s.pending := by
  simp [State.notify]

@[simp] theorem State.notifyTrip_frame (n : Station) :
    (s.notifyTrip n).ct = s.ct ∧ (s.notifyTrip n).ta = s.ta ∧ (s.notifyTrip n).sm = s.sm ∧
    (s.notifyTrip n).gd = s.gd ∧ (s.notifyTrip n).rs = s.rs ∧ (s.notifyTrip n).dg = s.dg ∧
    (s.notifyTrip n).sc = s.sc ∧ (s.notifyTrip n).pm = s.pm ∧ (s.notifyTrip n).pu = s.pu ∧
    (s.notifyTrip n).free = s.free ∧ (s.notifyTrip n).handed = s.handed ∧ (s.notifyTrip n).pending = s.pending := by
  simp [State.notifyTrip]

@[simp] theorem State.claim_frame (k : Key) (v : Int) (r : Option Nat) (e : Option Expiry) :
    (s.claim k v r e).ta = s.ta ∧ (s.claim k v r e).sm = s.sm ∧ (s.claim k v r e).gd = s.gd ∧
    (s.claim k v r e).rs = s.rs ∧ (s.claim k v r e).dg = s.dg ∧ (s.claim k v r e).sc = s.sc ∧
    (s.claim k v r e).pm = s.pm ∧ (s.claim k v r e).pu = s.pu ∧ (s.claim k v r e).sl = s.sl ∧
    (s.claim k v r e).free = s.free ∧ (s.claim k v r e).handed = s.handed ∧ (s.claim k v r e).pending = s.pending := by
  simp [State.claim]

@[simp] theorem State.release_frame (k : Key) (r : Option Nat) :
    (s.release k r).ta = s.ta ∧ (s.release k r).sm = s.sm ∧ (s.release k r).gd = s.gd ∧ (s.release k r).rs = s.rs ∧
    (s.release k r).dg = s.dg ∧ (s.release k r).sc = s.sc ∧ (s.release k r).pm = s.pm ∧ (s.release k r).pu = s.pu ∧
    (s.release k r).sl = s.sl ∧ (s.release k r).free = s.free ∧ (s.release k r).handed = s.handed ∧
    (s.release k r).pending = s.pending := by
  simp [State.release]

@[simp] theorem State.enterRetired_frame (h : Handle) :
    (s.enterRetired h).ct = s.ct ∧ (s.enterRetired h).ta = s.ta ∧ (s.enterRetired h).sm = s.sm ∧
    (s.enterRetired h).gd = s.gd ∧ (s.enterRetired h).rs = s.rs ∧ (s.enterRetired h).dg = s.dg ∧
    (s.enterRetired h).sc = s.sc ∧ (s.enterRetired h).pm = s.pm ∧ (s.enterRetired h).pu = s.pu ∧
    (s.enterRetired h).free = s.free ∧ (s.enterRetired h).handed = s.handed ∧
    (s.enterRetired h).pending = s.pending := by
  simp [State.enterRetired]

@[simp] theorem State.expireSlot_frame (i : Nat) :
    (s.expireSlot i).ta = s.ta ∧ (s.expireSlot i).sm = s.sm ∧ (s.expireSlot i).gd = s.gd ∧
    (s.expireSlot i).rs = s.rs ∧ (s.expireSlot i).dg = s.dg ∧ (s.expireSlot i).sc = s.sc ∧
    (s.expireSlot i).pm = s.pm ∧ (s.expireSlot i).pu = s.pu ∧ (s.expireSlot i).free = s.free ∧
    (s.expireSlot i).handed = s.handed ∧ (s.expireSlot i).pending = s.pending := by
  simp only [State.expireSlot]
  split <;> (try split) <;> simp

@[simp] theorem State.reply_frame (q : Option Req) (a : Answer) :
    (s.reply q a).ct = s.ct ∧ (s.reply q a).ta = s.ta ∧ (s.reply q a).sm = s.sm ∧ (s.reply q a).gd = s.gd ∧
    (s.reply q a).rs = s.rs ∧ (s.reply q a).dg = s.dg ∧ (s.reply q a).sc = s.sc ∧ (s.reply q a).pm = s.pm ∧
    (s.reply q a).pu = s.pu ∧ (s.reply q a).free = s.free ∧ (s.reply q a).handed = s.handed ∧
    (s.reply q a).pending = s.pending := by
  simp [State.reply]

@[simp] theorem State.takeFrame_frame :
    (s.takeFrame).ct = s.ct ∧ (s.takeFrame).ta = s.ta ∧ (s.takeFrame).sm = s.sm ∧ (s.takeFrame).gd = s.gd ∧
    (s.takeFrame).rs = s.rs ∧ (s.takeFrame).dg = s.dg ∧ (s.takeFrame).sc = s.sc ∧ (s.takeFrame).pm = s.pm ∧
    (s.takeFrame).pu = s.pu ∧ (s.takeFrame).free = s.free ∧ (s.takeFrame).handed = s.handed ∧
    (s.takeFrame).pending = s.pending := by
  simp [State.takeFrame]

@[simp] theorem State.discardFrame_frame :
    (s.discardFrame).ct = s.ct ∧ (s.discardFrame).ta = s.ta ∧ (s.discardFrame).sm = s.sm ∧
    (s.discardFrame).gd = s.gd ∧ (s.discardFrame).rs = s.rs ∧ (s.discardFrame).dg = s.dg ∧
    (s.discardFrame).sc = s.sc ∧ (s.discardFrame).pm = s.pm ∧ (s.discardFrame).pu = s.pu ∧
    (s.discardFrame).free = s.free ∧ (s.discardFrame).handed = s.handed ∧ (s.discardFrame).pending = s.pending := by
  simp [State.discardFrame]

@[simp] theorem State.safeStop_frame :
    (s.safeStop).ta = s.ta ∧ (s.safeStop).sm = s.sm ∧ (s.safeStop).gd = s.gd ∧ (s.safeStop).rs = s.rs ∧
    (s.safeStop).dg = s.dg ∧ (s.safeStop).sc = s.sc ∧ (s.safeStop).pm = s.pm ∧ (s.safeStop).free = s.free ∧
    (s.safeStop).handed = s.handed ∧ (s.safeStop).pending = s.pending := by
  simp only [State.safeStop]
  split <;> simp

@[simp] theorem State.truckBegins_frame (c : TruckClass) :
    (s.truckBegins c).ta = s.ta ∧ (s.truckBegins c).sm = s.sm ∧ (s.truckBegins c).gd = s.gd ∧
    (s.truckBegins c).rs = s.rs ∧ (s.truckBegins c).dg = s.dg ∧ (s.truckBegins c).sc = s.sc ∧
    (s.truckBegins c).pm = s.pm ∧ (s.truckBegins c).free = s.free ∧ (s.truckBegins c).handed = s.handed ∧
    (s.truckBegins c).pending = s.pending := by
  simp only [State.truckBegins]
  cases c <;> simp only <;> split <;> simp

@[simp] theorem State.beginsEvent_frame (c : HandedClass) :
    (s.beginsEvent c).ta = s.ta ∧ (s.beginsEvent c).sm = s.sm ∧ (s.beginsEvent c).gd = s.gd ∧
    (s.beginsEvent c).rs = s.rs ∧ (s.beginsEvent c).dg = s.dg ∧ (s.beginsEvent c).sc = s.sc ∧
    (s.beginsEvent c).pm = s.pm ∧ (s.beginsEvent c).free = s.free ∧ (s.beginsEvent c).handed = s.handed ∧
    (s.beginsEvent c).pending = s.pending := by
  simp only [State.beginsEvent]
  split <;> simp

@[simp] theorem State.endsEvent_frame (c : HandedClass) :
    (s.endsEvent c).ct = s.ct ∧ (s.endsEvent c).ta = s.ta ∧ (s.endsEvent c).sm = s.sm ∧ (s.endsEvent c).gd = s.gd ∧
    (s.endsEvent c).rs = s.rs ∧ (s.endsEvent c).dg = s.dg ∧ (s.endsEvent c).sc = s.sc ∧ (s.endsEvent c).pm = s.pm ∧
    (s.endsEvent c).sl = s.sl ∧ (s.endsEvent c).free = s.free ∧ (s.endsEvent c).handed = s.handed ∧
    (s.endsEvent c).pending = s.pending := by
  simp [State.endsEvent]

@[simp] theorem State.handCondition_frame (c : HandedClass) (was now : Bool) :
    (s.handCondition c was now).ct = s.ct ∧ (s.handCondition c was now).ta = s.ta ∧
    (s.handCondition c was now).sm = s.sm ∧ (s.handCondition c was now).gd = s.gd ∧
    (s.handCondition c was now).rs = s.rs ∧ (s.handCondition c was now).dg = s.dg ∧
    (s.handCondition c was now).sc = s.sc ∧ (s.handCondition c was now).pm = s.pm ∧
    (s.handCondition c was now).pu = s.pu ∧ (s.handCondition c was now).sl = s.sl ∧
    (s.handCondition c was now).free = s.free ∧ (s.handCondition c was now).pending = s.pending := by
  cases was <;> cases now <;> simp [State.handCondition]

@[simp] theorem State.takeCondition_frame (c : HandedClass) (was now : Bool) :
    (s.takeCondition c was now).ct = s.ct ∧ (s.takeCondition c was now).ta = s.ta ∧
    (s.takeCondition c was now).sm = s.sm ∧ (s.takeCondition c was now).gd = s.gd ∧
    (s.takeCondition c was now).rs = s.rs ∧ (s.takeCondition c was now).dg = s.dg ∧
    (s.takeCondition c was now).sc = s.sc ∧ (s.takeCondition c was now).pm = s.pm ∧
    (s.takeCondition c was now).sl = s.sl ∧ (s.takeCondition c was now).free = s.free ∧
    (s.takeCondition c was now).pending = s.pending := by
  cases was <;> cases now <;> simp [State.takeCondition]

@[simp] theorem State.setStation_frame (n : Station) (x : StationCtx) :
    (s.setStation n x).ct = s.ct ∧ (s.setStation n x).ta = s.ta ∧ (s.setStation n x).gd = s.gd ∧
    (s.setStation n x).rs = s.rs ∧ (s.setStation n x).dg = s.dg ∧ (s.setStation n x).sc = s.sc ∧
    (s.setStation n x).pm = s.pm ∧ (s.setStation n x).pu = s.pu ∧ (s.setStation n x).sl = s.sl ∧
    (s.setStation n x).free = s.free ∧ (s.setStation n x).handed = s.handed ∧
    (s.setStation n x).pending = s.pending := by
  simp [State.setStation]

@[simp] theorem State.setPuStation_frame (n : Station) (x : PuStation) :
    (s.setPuStation n x).ct = s.ct ∧ (s.setPuStation n x).ta = s.ta ∧ (s.setPuStation n x).sm = s.sm ∧
    (s.setPuStation n x).gd = s.gd ∧ (s.setPuStation n x).rs = s.rs ∧ (s.setPuStation n x).dg = s.dg ∧
    (s.setPuStation n x).sc = s.sc ∧ (s.setPuStation n x).pm = s.pm ∧ (s.setPuStation n x).sl = s.sl ∧
    (s.setPuStation n x).free = s.free ∧ (s.setPuStation n x).handed = s.handed ∧
    (s.setPuStation n x).pending = s.pending := by
  simp [State.setPuStation]

@[simp] theorem State.sendDisable_frame (n : Station) :
    (s.sendDisable n).ct = s.ct ∧ (s.sendDisable n).ta = s.ta ∧ (s.sendDisable n).gd = s.gd ∧
    (s.sendDisable n).rs = s.rs ∧ (s.sendDisable n).dg = s.dg ∧ (s.sendDisable n).sc = s.sc ∧
    (s.sendDisable n).pm = s.pm ∧ (s.sendDisable n).pu = s.pu ∧ (s.sendDisable n).sl = s.sl ∧
    (s.sendDisable n).handed = s.handed ∧ (s.sendDisable n).pending = s.pending := by
  simp [State.sendDisable]

@[simp] theorem State.enter_frame (n : Station) (st : StationState) :
    (s.enter n st).ct = s.ct ∧ (s.enter n st).ta = s.ta ∧ (s.enter n st).gd = s.gd ∧ (s.enter n st).rs = s.rs ∧
    (s.enter n st).dg = s.dg ∧ (s.enter n st).sc = s.sc ∧ (s.enter n st).pm = s.pm ∧ (s.enter n st).sl = s.sl ∧
    (s.enter n st).free = s.free ∧ (s.enter n st).handed = s.handed ∧ (s.enter n st).pending = s.pending := by
  simp [State.enter]

@[simp] theorem State.ceaseJudging_frame (n : Station) :
    (s.ceaseJudging n).ta = s.ta ∧ (s.ceaseJudging n).sm = s.sm ∧ (s.ceaseJudging n).gd = s.gd ∧
    (s.ceaseJudging n).rs = s.rs ∧ (s.ceaseJudging n).dg = s.dg ∧ (s.ceaseJudging n).sc = s.sc ∧
    (s.ceaseJudging n).pm = s.pm ∧ (s.ceaseJudging n).sl = s.sl ∧ (s.ceaseJudging n).free = s.free ∧
    (s.ceaseJudging n).handed = s.handed ∧ (s.ceaseJudging n).pending = s.pending := by
  simp [State.ceaseJudging]

@[simp] theorem State.answerPark_frame (n : Station) (a : Answer) :
    (s.answerPark n a).ct = s.ct ∧ (s.answerPark n a).ta = s.ta ∧ (s.answerPark n a).sm = s.sm ∧
    (s.answerPark n a).gd = s.gd ∧ (s.answerPark n a).rs = s.rs ∧ (s.answerPark n a).dg = s.dg ∧
    (s.answerPark n a).sc = s.sc ∧ (s.answerPark n a).pm = s.pm ∧ (s.answerPark n a).pu = s.pu ∧
    (s.answerPark n a).free = s.free ∧ (s.answerPark n a).handed = s.handed ∧
    (s.answerPark n a).pending = s.pending := by
  simp only [State.answerPark]
  split <;> simp

@[simp] theorem State.completePark_frame (n : Station) (c : ReplyClass) (d : Option Detail) :
    (s.completePark n c d).ta = s.ta ∧ (s.completePark n c d).gd = s.gd ∧ (s.completePark n c d).rs = s.rs ∧
    (s.completePark n c d).dg = s.dg ∧ (s.completePark n c d).sc = s.sc ∧ (s.completePark n c d).pm = s.pm ∧
    (s.completePark n c d).handed = s.handed ∧ (s.completePark n c d).pending = s.pending := by
  simp [State.completePark]

@[simp] theorem State.trip_frame (n : Station) :
    (s.trip n).ct = s.ct ∧ (s.trip n).ta = s.ta ∧ (s.trip n).gd = s.gd ∧ (s.trip n).rs = s.rs ∧
    (s.trip n).dg = s.dg ∧ (s.trip n).sc = s.sc ∧ (s.trip n).pm = s.pm ∧ (s.trip n).sl = s.sl ∧
    (s.trip n).handed = s.handed ∧ (s.trip n).pending = s.pending := by
  simp [State.trip]

@[simp] theorem State.takeRaise_frame (n : Station) (c : StationClass) (trips : Bool) :
    (s.takeRaise n c trips).ta = s.ta ∧ (s.takeRaise n c trips).gd = s.gd ∧ (s.takeRaise n c trips).rs = s.rs ∧
    (s.takeRaise n c trips).dg = s.dg ∧ (s.takeRaise n c trips).sc = s.sc ∧ (s.takeRaise n c trips).pm = s.pm ∧
    (s.takeRaise n c trips).handed = s.handed ∧ (s.takeRaise n c trips).pending = s.pending := by
  simp only [State.takeRaise]
  split
  · simp
  · split <;> split <;> (try split) <;> simp

@[simp] theorem State.takeClear_frame (n : Station) (f : StationFlags) :
    (s.takeClear n f).ct = s.ct ∧ (s.takeClear n f).ta = s.ta ∧ (s.takeClear n f).gd = s.gd ∧
    (s.takeClear n f).rs = s.rs ∧ (s.takeClear n f).dg = s.dg ∧ (s.takeClear n f).sc = s.sc ∧
    (s.takeClear n f).pm = s.pm ∧ (s.takeClear n f).sl = s.sl ∧ (s.takeClear n f).free = s.free ∧
    (s.takeClear n f).handed = s.handed ∧ (s.takeClear n f).pending = s.pending := by
  simp only [State.takeClear]
  split <;> simp

/-! ### Requests -/

/-- R195: while the link is busy a request's frame is discarded. -/
theorem request_busy (q : Req) (body : State → State × Answer) (h : s.sl.inFlight ≠ none) :
    request q body s = s.discardFrame := by
  simp [request, Option.isSome_iff_ne_none, h]

/-- R193: on an idle link the body is taken and its answer placed. -/
theorem request_idle (q : Req) (body : State → State × Answer) (h : s.sl.inFlight = none) :
    request q body s = (body s.takeFrame).1.reply (some q) (body s.takeFrame).2 := by
  simp [request, h]

@[simp] theorem checked_nil (ok : State × Answer) : checked s [] ok = ok := rfl

theorem checked_cons (b : Bool) (a : Answer) (l : List (Bool × Answer)) (ok : State × Answer) :
    checked s ((b, a) :: l) ok = if b then (s, a) else checked s l ok := rfl

/-- R2: a request all of whose checks pass has its effect. -/
theorem checked_ok (l : List (Bool × Answer)) (ok : State × Answer) (h : ∀ p ∈ l, p.1 = false) : checked s l ok = ok := by
  induction l with
  | nil => rfl
  | cons p l ih =>
    obtain ⟨b, a⟩ := p
    have hb : b = false := h (b, a) (by simp)
    rw [checked_cons, hb, ih fun q hq => h q (by simp [hq])]
    rfl

/-- R2: a refused request changes nothing. -/
theorem checked_state (l : List (Bool × Answer)) (ok : State × Answer) :
    (checked s l ok).1 = s ∨ checked s l ok = ok := by
  induction l with
  | nil => exact Or.inr rfl
  | cons p l ih =>
    obtain ⟨b, a⟩ := p
    rw [checked_cons]
    split
    · exact Or.inl rfl
    · exact ih

/-- R2: no check fails. -/
theorem firstFailure_none (l : List (Bool × Answer)) (h : ∀ p ∈ l, p.1 = false) : firstFailure l = none := by
  induction l with
  | nil => rfl
  | cons p l ih =>
    obtain ⟨b, a⟩ := p
    have hb : b = false := h (b, a) (by simp)
    rw [firstFailure, hb]
    exact ih fun q hq => h q (by simp [hq])

theorem longRequest_busy (q : Req) (m : InFlight) (c : State → List (Bool × Answer)) (f : State → State)
    (h : s.sl.inFlight ≠ none) : longRequest q m c f s = s.discardFrame := by
  simp [longRequest, Option.isSome_iff_ne_none, h]

end Sys2Proof.Machine
end

