-- ==== Sys2Proof/Laws/Grid.lean ====
section
/-! SUPPORT. What the Grid Dispatcher's shared operations do and leave unchanged. -/

namespace Sys2Proof.Machine

variable (s : State)

@[simp] theorem State.publishGrid_frame :
    s.publishGrid.ct = s.ct ∧ s.publishGrid.ta = s.ta ∧ s.publishGrid.sm = s.sm ∧ s.publishGrid.rs = s.rs ∧
    s.publishGrid.dg = s.dg ∧ s.publishGrid.sc = s.sc ∧ s.publishGrid.pm = s.pm ∧ s.publishGrid.pu = s.pu ∧
    s.publishGrid.sl = s.sl ∧ s.publishGrid.free = s.free ∧ s.publishGrid.handed = s.handed ∧
    s.publishGrid.pending = s.pending := by
  simp [State.publishGrid]

@[simp] theorem State.publishGrid_published : s.publishGrid.gd.published = s.gd.figures := rfl

/-- R80, R85: a dispatch leaves every block but GD as it was. -/
@[simp] theorem State.dispatchPower_frame (p : Nat) :
    (s.dispatchPower p).ct = s.ct ∧ (s.dispatchPower p).ta = s.ta ∧ (s.dispatchPower p).sm = s.sm ∧
    (s.dispatchPower p).rs = s.rs ∧ (s.dispatchPower p).dg = s.dg ∧ (s.dispatchPower p).sc = s.sc ∧
    (s.dispatchPower p).pm = s.pm ∧ (s.dispatchPower p).pu = s.pu ∧ (s.dispatchPower p).sl = s.sl ∧
    (s.dispatchPower p).free = s.free ∧ (s.dispatchPower p).handed = s.handed ∧
    (s.dispatchPower p).pending = s.pending := by
  unfold State.dispatchPower
  simp only []
  split <;> simp [State.publishGrid]

/-- R88: the over-voltage count acts on GD, its DV record and the events handed to PU. -/
@[simp] theorem State.countOverVoltage_frame (v : Nat) :
    (s.countOverVoltage v).ta = s.ta ∧ (s.countOverVoltage v).sm = s.sm ∧ (s.countOverVoltage v).rs = s.rs ∧
    (s.countOverVoltage v).dg = s.dg ∧ (s.countOverVoltage v).sc = s.sc ∧ (s.countOverVoltage v).pm = s.pm ∧
    (s.countOverVoltage v).pu = s.pu ∧ (s.countOverVoltage v).sl = s.sl ∧ (s.countOverVoltage v).free = s.free ∧
    (s.countOverVoltage v).pending = s.pending := by
  unfold State.countOverVoltage
  simp only []
  split
  · split <;> simp
  · split <;> simp

/-- R86: the GRID record is claimed, let stand or retired by the manual's table. -/
theorem State.evalGrid_eq :
    s.evalGrid = (s.withGd { s.gd with gridValue := (gridEvaluated s.ct s.gd.gridValue s.gd.condition s.gd.recordValue).1 }).withCt
      (gridEvaluated s.ct s.gd.gridValue s.gd.condition s.gd.recordValue).2 := by
  unfold State.evalGrid gridEvaluated
  rcases hv : s.gd.gridValue with _ | w <;> rcases hc : s.gd.condition with _ | _ <;>
    simp [State.claim, State.release, State.withCt, State.withGd]
  · rw [← hv]
  · split
    · rfl
    · rw [← hv]

/-- R74: the value of the GRID record lies in its range. -/
theorem Gd.recordValue_le (g : Gd) : g.recordValue ≤ 1000 := Nat.min_le_left _ _

end Sys2Proof.Machine
end

