-- ==== Sys2Proof/Laws/PerInstr.lean ====
section
/-! SUPPORT. Family Fields: the fields of a request take exactly the bytes that its code's payload has (R193, R204). -/

namespace Sys2Proof.Laws.Fields

/-- The encoded fields of a request are as long as its code needs, and fit the 60 words of a frame. -/
def Statement (i : Instr) : Prop :=
  ∀ code p, encodeRequest i = some (code, p) → payloadBytes code = some p.length ∧ p.length ≤ 120

/-- A request encoded as `code` and `p`, whose length is the code's. -/
theorem of_encoded {i : Instr} {code : Nat} {p : List Byte} (h : encodeRequest i = some (code, p))
    (hl : payloadBytes code = some p.length) (hb : p.length ≤ 120) : Statement i := by
  intro c q hq
  rw [h, Option.some.injEq, Prod.mk.injEq] at hq
  obtain ⟨rfl, rfl⟩ := hq
  exact ⟨hl, hb⟩

/-- A command that is not a request. -/
theorem of_event {i : Instr} (h : encodeRequest i = none) : Statement i := by
  intro c q hq
  rw [h] at hq
  cases hq

/-- A value that may be absent is as long present as absent. -/
theorem length_orAbsent {α : Type} (enc : α → List Byte) (z : α) (v : Option α) (n : Nat) (h : ∀ a, (enc a).length = n) :
    (orAbsent enc z v).length = n + 1 := by
  cases v <;> simp [orAbsent, u8, h]

theorem length_choiceBytes {α : Type} (enc : α → List Byte) (z : α) (v : Choice α) (n : Nat)
    (h : ∀ a, (enc a).length = n) : (choiceBytes enc z v).length = n + 1 := by
  cases v <;> simp [choiceBytes, u8, h]

theorem length_notifyField (v : Option Bool) : (notifyField v).length = 2 := by
  rcases v with _ | _ | _ <;> rfl

theorem length_place (r : PlaceReq) : r.bytes.length = 16 := by
  simp [PlaceReq.bytes, u8, u16, length_orAbsent (n := 1) (enc := u8) (h := fun _ => rfl),
    length_orAbsent (n := 2) (enc := u16) (h := fun _ => rfl),
    length_orAbsent (n := 3) (enc := expiryField) (h := fun _ => rfl)]

theorem length_amend (r : AmendReq) : r.bytes.length = 20 := by
  simp [AmendReq.bytes, u8, length_orAbsent (n := 1) (enc := u8) (h := fun _ => rfl),
    length_orAbsent (n := 2) (enc := u16) (h := fun _ => rfl),
    length_choiceBytes (n := 2) (enc := u16) (h := fun _ => rfl),
    length_choiceBytes (n := 3) (enc := expiryField) (h := fun _ => rfl), length_notifyField]

theorem length_write (r : WriteReq) : r.bytes.length = 11 := by
  simp [WriteReq.bytes, u8, length_orAbsent (n := 1) (enc := u8) (h := fun _ => rfl),
    length_orAbsent (n := 1) (enc := s8) (h := fun _ => rfl),
    length_orAbsent (n := 2) (enc := u16) (h := fun _ => rfl)]

theorem identify : Statement .identify := of_encoded rfl rfl (Nat.le_of_ble_eq_true rfl)

theorem readNotices : Statement .readNotices := of_encoded rfl rfl (Nat.le_of_ble_eq_true rfl)

theorem cancel : Statement .cancel := of_encoded rfl rfl (Nat.le_of_ble_eq_true rfl)

theorem softReset : Statement .softReset := of_encoded rfl rfl (Nat.le_of_ble_eq_true rfl)

theorem hardReset : Statement .hardReset := of_event rfl

theorem malformedFrame (frame : List Byte) (cut : Bool) : Statement (.malformedFrame frame cut) := of_event rfl

theorem frameDiscardedBusy (frame : List Byte) (cut : Bool) : Statement (.frameDiscardedBusy frame cut) :=
  of_event rfl

theorem replyRead (clocked : Nat) : Statement (.replyRead clocked) := of_event rfl

theorem placeCeiling (r : PlaceReq) : Statement (.placeCeiling r) :=
  of_encoded rfl (by rw [length_place]; rfl) (by rw [length_place]; decide)

theorem amendCeiling (r : AmendReq) : Statement (.amendCeiling r) :=
  of_encoded rfl (by rw [length_amend]; rfl) (by rw [length_amend]; decide)

theorem retireCeiling (slot gen : Nat) : Statement (.retireCeiling slot gen) := of_encoded rfl rfl (Nat.le_of_ble_eq_true rfl)

theorem queryCeiling (slot gen : Nat) : Statement (.queryCeiling slot gen) := of_encoded rfl rfl (Nat.le_of_ble_eq_true rfl)

theorem listCeilings (filter start : Nat) : Statement (.listCeilings filter start) := of_encoded rfl rfl (Nat.le_of_ble_eq_true rfl)

theorem readEffective : Statement .readEffective := of_encoded rfl rfl (Nat.le_of_ble_eq_true rfl)

theorem configureDrive (weights : PerStation Nat) (slew : Nat) : Statement (.configureDrive weights slew) :=
  of_encoded rfl rfl (Nat.le_of_ble_eq_true rfl)

theorem arm : Statement .arm := of_encoded rfl rfl (Nat.le_of_ble_eq_true rfl)

theorem disarm : Statement .disarm := of_encoded rfl rfl (Nat.le_of_ble_eq_true rfl)

theorem readAllocation : Statement .readAllocation := of_encoded rfl rfl (Nat.le_of_ble_eq_true rfl)

theorem parkStation (station : Nat) : Statement (.parkStation station) := of_encoded rfl rfl (Nat.le_of_ble_eq_true rfl)

theorem restoreStation (station : Nat) : Statement (.restoreStation station) := of_encoded rfl rfl (Nat.le_of_ble_eq_true rfl)

theorem rearmStation (station : Nat) : Statement (.rearmStation station) := of_encoded rfl rfl (Nat.le_of_ble_eq_true rfl)

theorem readStationContext (station : Nat) : Statement (.readStationContext station) := of_encoded rfl rfl (Nat.le_of_ble_eq_true rfl)

theorem writeParkedContext (r : WriteReq) : Statement (.writeParkedContext r) :=
  of_encoded rfl (by rw [length_write]; rfl) (by rw [length_write]; decide)

theorem configureGrid (r : GridReq) : Statement (.configureGrid r) := of_encoded rfl rfl (Nat.le_of_ble_eq_true rfl)

theorem setBankOrder (order : Nat) : Statement (.setBankOrder order) := of_encoded rfl rfl (Nat.le_of_ble_eq_true rfl)

theorem readGrid : Statement .readGrid := of_encoded rfl rfl (Nat.le_of_ble_eq_true rfl)

theorem profileWrite (group : Nat) (d0 d1 d2 d3 : BitVec 40) : Statement (.profileWrite group d0 d1 d2 d3) :=
  of_encoded rfl rfl (Nat.le_of_ble_eq_true rfl)

theorem profileRead (group : Nat) : Statement (.profileRead group) := of_encoded rfl rfl (Nat.le_of_ble_eq_true rfl)

theorem routeStart (group first offset : Nat) : Statement (.routeStart group first offset) :=
  of_encoded rfl rfl (Nat.le_of_ble_eq_true rfl)

theorem routeStop : Statement .routeStop := of_encoded rfl rfl (Nat.le_of_ble_eq_true rfl)

theorem insertDetour (group : Nat) : Statement (.insertDetour group) := of_encoded rfl rfl (Nat.le_of_ble_eq_true rfl)

theorem abortDetour : Statement .abortDetour := of_encoded rfl rfl (Nat.le_of_ble_eq_true rfl)

theorem resume : Statement .resume := of_encoded rfl rfl (Nat.le_of_ble_eq_true rfl)

theorem readRoute : Statement .readRoute := of_encoded rfl rfl (Nat.le_of_ble_eq_true rfl)

theorem governorMode (mode : Nat) : Statement (.governorMode mode) := of_encoded rfl rfl (Nat.le_of_ble_eq_true rfl)

theorem forecast (apply : Nat) : Statement (.forecast apply) := of_encoded rfl rfl (Nat.le_of_ble_eq_true rfl)

theorem forecastContinue : Statement .forecastContinue := of_encoded rfl rfl (Nat.le_of_ble_eq_true rfl)

theorem readGovernor : Statement .readGovernor := of_encoded rfl rfl (Nat.le_of_ble_eq_true rfl)

theorem configureSteering (ratio gain ramp assistMax reserve : Nat) : Statement (.configureSteering ratio gain ramp assistMax reserve) :=
  of_encoded rfl rfl (Nat.le_of_ble_eq_true rfl)

theorem steerEnvelope (table : EnvTable) : Statement (.steerEnvelope table) := of_encoded rfl rfl (Nat.le_of_ble_eq_true rfl)

theorem setAssist (enable gain : Nat) : Statement (.setAssist enable gain) := of_encoded rfl rfl (Nat.le_of_ble_eq_true rfl)

theorem readSteering : Statement .readSteering := of_encoded rfl rfl (Nat.le_of_ble_eq_true rfl)

theorem configurePayload (emptyMass rated sprung over10 : Nat) : Statement (.configurePayload emptyMass rated sprung over10) :=
  of_encoded rfl rfl (Nat.le_of_ble_eq_true rfl)

theorem readPayload : Statement .readPayload := of_encoded rfl rfl (Nat.le_of_ble_eq_true rfl)

theorem configureProtection (motorWarn inverterWarn : Nat) : Statement (.configureProtection motorWarn inverterWarn) :=
  of_encoded rfl rfl (Nat.le_of_ble_eq_true rfl)

theorem clearFaultsStation (target : Nat) : Statement (.clearFaultsStation target) := of_encoded rfl rfl (Nat.le_of_ble_eq_true rfl)

theorem clearFaultsTruck : Statement .clearFaultsTruck := of_encoded rfl rfl (Nat.le_of_ble_eq_true rfl)

theorem setMaskStation (target mask : Nat) : Statement (.setMaskStation target mask) := of_encoded rfl rfl (Nat.le_of_ble_eq_true rfl)

theorem setMaskTruck (mask : Nat) : Statement (.setMaskTruck mask) := of_encoded rfl rfl (Nat.le_of_ble_eq_true rfl)

theorem protectionInit : Statement .protectionInit := of_encoded rfl rfl (Nat.le_of_ble_eq_true rfl)

theorem readProtection : Statement .readProtection := of_encoded rfl rfl (Nat.le_of_ble_eq_true rfl)

theorem allocationPass (ports : PassPorts) : Statement (.allocationPass ports) := of_event rfl

theorem grantHandover (hands : PerStation GrantHand) (travel : Travel) : Statement (.grantHandover hands travel) :=
  of_event rfl

theorem powerArrival (power dcLink : Nat) : Statement (.powerArrival power dcLink) := of_event rfl

theorem passArrival (marks : PerStation (Option Bool)) (speed : Nat) : Statement (.passArrival marks speed) :=
  of_event rfl

theorem forwardMetreEvent : Statement .forwardMetreEvent := of_event rfl

theorem reverseMetreEvent : Statement .reverseMetreEvent := of_event rfl

theorem distanceExpiryCount (dir : Travel) : Statement (.distanceExpiryCount dir) := of_event rfl

theorem windowMetre (dir : Travel) : Statement (.windowMetre dir) := of_event rfl

theorem tableTimer : Statement .tableTimer := of_event rfl

theorem recordExpiry (slot : Nat) : Statement (.recordExpiry slot) := of_event rfl

theorem setClaim (key : Key) (value : Int) (ramp : Option Nat) (expiry : Option Expiry) : Statement (.setClaim key value ramp expiry) :=
  of_event rfl

theorem retireClaim (key : Key) (ramp : Option Nat) : Statement (.retireClaim key ramp) := of_event rfl

theorem gridTimer (ports : PerBank GridPorts) : Statement (.gridTimer ports) := of_event rfl

theorem bankCurrentSeen (bank : Bank) : Statement (.bankCurrentSeen bank) := of_event rfl

theorem checkTimerExpiry (bank : Bank) : Statement (.checkTimerExpiry bank) := of_event rfl

theorem armingEvent : Statement .armingEvent := of_event rfl

theorem reportFrame (link : Station) (bytes : List Byte) : Statement (.reportFrame link bytes) := of_event rfl

theorem reportDeadlineExpiry (station : Station) : Statement (.reportDeadlineExpiry station) := of_event rfl

theorem parkTimerExpiry (station : Station) : Statement (.parkTimerExpiry station) := of_event rfl

theorem reportJudgement (station : Station) (carried : StationState) (report : Judged) : Statement (.reportJudgement station carried report) :=
  of_event rfl

theorem linkLostEvent (station : Station) (carried : StationState) : Statement (.linkLostEvent station carried) :=
  of_event rfl

theorem raiseClaim (station : Station) (cls : StationClass) (trips : Bool) : Statement (.raiseClaim station cls trips) :=
  of_event rfl

theorem clearClaim (station : Station) (flags : StationFlags) : Statement (.clearClaim station flags) := of_event rfl

theorem truckConditionBegins (cls : ConditionBegin) : Statement (.truckConditionBegins cls) := of_event rfl

theorem truckConditionEnds (cls : HandedClass) : Statement (.truckConditionEnds cls) := of_event rfl

theorem protectionTimer : Statement .protectionTimer := of_event rfl

theorem governorUpdate : Statement .governorUpdate := of_event rfl

theorem holdReachedAtDg (kind : HoldKind) : Statement (.holdReachedAtDg kind) := of_event rfl

theorem holdLeftAtDg (kind : HoldKind) (cause : HoldCause) : Statement (.holdLeftAtDg kind cause) := of_event rfl

theorem routeEditEvent : Statement .routeEditEvent := of_event rfl

theorem latchEvent : Statement .latchEvent := of_event rfl

theorem steeringUpdate (ports : SteerPorts) : Statement (.steeringUpdate ports) := of_event rfl

theorem payloadSample (ports : PayloadPorts) : Statement (.payloadSample ports) := of_event rfl

theorem holdReachedAtPm (kind : HoldKind) : Statement (.holdReachedAtPm kind) := of_event rfl

theorem holdLeftAtPm (kind : HoldKind) (cause : HoldCause) : Statement (.holdLeftAtPm kind cause) := of_event rfl

theorem plMaskEvent (masked : Bool) : Statement (.plMaskEvent masked) := of_event rfl

end Sys2Proof.Laws.Fields
end

