-- ==== Sys2Proof/Laws/Replies.lean ====
section
/-! SUPPORT. What a request on a free link leaves: its effects and its reply, that the lines a reply's header carries do not
depend on the reply, and what a transaction does by its first byte. -/

namespace Sys2Proof.Machine

/-- The frame taken in `s`, in the state `u`: the slot emptied and the overrun mark set by an unread reply (R194). -/
def framed (s u : State) : State :=
  { u with sl := { u.sl with receiving := [], slot := none, overrun := s.sl.overrun || s.sl.slot.isSome } }

theorem takeFrame_framed (s : State) : s.takeFrame = framed s s := rfl

@[simp] theorem attn_placed (u : State) (b o : Bool) (q : Option Req) (a : Answer) : (placed u b o q a).attn = u.attn := rfl

@[simp] theorem attn_framed (s u : State) : (framed s u).attn = u.attn := rfl

/-- R193, R194: a request whose body answers `a` with the effects that `u` has on `s`. -/
theorem request_replied (q : Req) (body : State → State × Answer) (s u : State) (a : Answer) (h : s.linkFree)
    (hb : body s.takeFrame = (framed s u, a)) (hs : u.sl.busySeen = s.sl.busySeen) :
    request q body s = replied s u q a := by
  rw [request_idle s q body h, hb]
  simp only [replied, placed, State.reply, framed, State.withSl, hs]
  rfl

/-- A request whose checks are taken on its frame, all of them passing. -/
theorem checked_replied (q : Req) (checks : List (Bool × Answer)) (ok : State × Answer) (body : State → State × Answer)
    (s u : State) (a : Answer) (h : s.linkFree) (hb : body s.takeFrame = checked s.takeFrame checks ok)
    (hc : ∀ p ∈ checks, p.1 = false) (hok : ok = (framed s u, a)) (hs : u.sl.busySeen = s.sl.busySeen) :
    request q body s = replied s u q a :=
  request_replied q body s u a h (by rw [hb, checked_ok _ _ _ hc, hok]) hs

/-! ### A transaction by its first byte (R193) -/

theorem takeTransaction_write (s : State) (frame : List Byte) (cut : Bool) :
    s.takeTransaction (0x5A#8 :: frame) cut = s.takeRawFrame frame cut := rfl

theorem takeTransaction_read (s : State) (rest : List Byte) (cut : Bool) :
    s.takeTransaction (0xA5#8 :: rest) cut = s.readReply rest.length := rfl

theorem takeTransaction_disregarded (s : State) (bytes : List Byte) (cut : Bool)
    (h : ∀ b ∈ bytes.head?, b ≠ 0x5A#8 ∧ b ≠ 0xA5#8) : s.takeTransaction bytes cut = s := by
  unfold State.takeTransaction transactionOf
  split
  · next hs => split at hs <;> simp_all
  · next hs => split at hs <;> simp_all
  · rfl

end Sys2Proof.Machine
end

