-- ==== Sys2Proof/Laws/Route.lean ====
section
/-! SUPPORT. The profile store as a memory: its canonical form is kept by every write, reset has it, and a group reads
back as it was last written. -/

namespace Sys2Proof.Machine

/-- The canonical form: no all-STOP entry, and the group numbers strictly rising. -/
theorem storeWf_iff (l : List (Nat × Group)) :
    storeWf l = true ↔ (∀ p ∈ l, p.2 ≠ Group.stops) ∧ l.Pairwise fun p q => p.1 < q.1 := by
  induction l with
  | nil => simp [storeWf]
  | cons p l ih =>
    cases l with
    | nil => simp [storeWf]
    | cons q l =>
      simp only [storeWf, Bool.and_eq_true, bne_iff_ne, decide_eq_true_eq, ih]
      constructor
      · rintro ⟨⟨h1, h2⟩, h3, h4⟩
        refine ⟨by simpa using ⟨h1, by simpa using h3⟩, List.pairwise_cons.2 ⟨?_, h4⟩⟩
        intro x hx
        rcases List.mem_cons.1 hx with rfl | hx
        · exact h2
        · exact lt_trans h2 ((List.pairwise_cons.1 h4).1 x hx)
      · rintro ⟨h1, h2⟩
        exact ⟨⟨h1 p (by simp), (List.pairwise_cons.1 h2).1 q (by simp)⟩, fun x hx => h1 x (by simp_all),
          (List.pairwise_cons.1 h2).2⟩

theorem mem_insertGroup (g : Nat) (x : Group) (l : List (Nat × Group)) (p : Nat × Group) :
    p ∈ insertGroup g x l ↔ p = (g, x) ∨ p ∈ l := by
  induction l with
  | nil => simp [insertGroup]
  | cons q l ih =>
    simp only [insertGroup]
    split
    · simp
    · simp [ih]; tauto

theorem insertGroup_sorted (g : Nat) (x : Group) (l : List (Nat × Group)) (h : ∀ p ∈ l, p.1 ≠ g)
    (hl : l.Pairwise fun p q => p.1 < q.1) : (insertGroup g x l).Pairwise fun p q => p.1 < q.1 := by
  induction l with
  | nil => simp [insertGroup]
  | cons q l ih =>
    have hq := List.pairwise_cons.1 hl
    have hne := h q (by simp)
    simp only [insertGroup]
    split
    · rename_i hg
      refine List.pairwise_cons.2 ⟨?_, hl⟩
      intro p hp
      rcases List.mem_cons.1 hp with rfl | hp
      · exact hg
      · exact lt_trans hg (hq.1 p hp)
    · refine List.pairwise_cons.2 ⟨?_, ih (fun p hp => h p (by simp [hp])) hq.2⟩
      intro p hp
      rcases (mem_insertGroup g x l p).1 hp with rfl | hp
      · show q.1 < g; omega
      · exact hq.1 p hp

/-- R95: a write keeps the canonical form. -/
theorem writeGroup_wf (store : List (Nat × Group)) (g : Nat) (x : Group) (h : storeWf store = true) :
    storeWf (writeGroup store g x) = true := by
  rw [storeWf_iff] at h ⊢
  simp only [writeGroup]
  split
  · exact ⟨fun p hp => h.1 p (List.mem_filter.1 hp).1, h.2.filter _⟩
  · rename_i hx
    refine ⟨?_, insertGroup_sorted g x _ ?_ (h.2.filter _)⟩
    · intro p hp
      rcases (mem_insertGroup g x _ p).1 hp with rfl | hp
      · exact hx
      · exact h.1 p (List.mem_filter.1 hp).1
    · intro p hp
      simpa using (List.mem_filter.1 hp).2

/-- R116: the store at reset has the canonical form. -/
theorem storeWf_reset : storeWf State.reset.rs.store = true := rfl

theorem find_insertGroup (g k : Nat) (x : Group) (l : List (Nat × Group)) (h : ∀ p ∈ l, p.1 ≠ g) :
    (insertGroup g x l).find? (fun p => p.1 == k) = if k = g then some (g, x) else l.find? fun p => p.1 == k := by
  induction l with
  | nil =>
    by_cases hk : k = g
    · simp [insertGroup, hk]
    · have : ¬ g = k := fun e => hk e.symm
      simp [insertGroup, hk, this]
  | cons q l ih =>
    have hne := h q (by simp)
    have ih' := ih fun p hp => h p (by simp [hp])
    simp only [insertGroup]
    split
    · by_cases hk : k = g
      · simp [hk]
      · have : ¬ g = k := fun e => hk e.symm
        simp [hk, this]
    · by_cases hk : k = g
      · subst hk; simp [hne, ih']
      · simp only [List.find?_cons, ih', hk, if_false]

/-- R95, R96: a group reads back as it was written, and every other group as before. -/
theorem readGroup_writeGroup (store : List (Nat × Group)) (g k : Nat) (x : Group) :
    readGroup (writeGroup store g x) k = if k = g then x else readGroup store k := by
  have hf : ∀ p ∈ store.filter (fun p => p.1 != g), p.1 ≠ g := fun p hp => by simpa using (List.mem_filter.1 hp).2
  have hfind : (store.filter fun p => p.1 != g).find? (fun p => p.1 == k) =
      if k = g then none else store.find? fun p => p.1 == k := by
    by_cases hk : k = g
    · subst hk; simp [List.find?_filter]
    · rw [List.find?_filter, if_neg hk]
      congr 1
      funext p
      by_cases hp : p.1 = k
      · simp [hp, hk]
      · simp [hp]
  by_cases hx : x = Group.stops
  · simp only [readGroup, writeGroup, if_pos hx, hfind]
    by_cases hk : k = g <;> simp [hk, hx]
  · simp only [readGroup, writeGroup, if_neg hx, find_insertGroup g k x _ hf, hfind]
    by_cases hk : k = g <;> simp [hk]

end Sys2Proof.Machine
end

