-- ==== Sys2Proof/Laws/Steering.lean ====
section
/-! SUPPORT. What the close of a steering update leaves, and what each part of the update leaves of the settings. -/

namespace Sys2Proof.Machine

variable (c : Sc)

@[simp] theorem Sc.closeUpdate_lastUpdate : c.closeUpdate.lastUpdate = c.settings := rfl
@[simp] theorem Sc.closeUpdate_settings : c.closeUpdate.settings = c.settings := rfl
@[simp] theorem Sc.closeUpdate_state : c.closeUpdate.state = c.state := rfl
@[simp] theorem Sc.closeUpdate_bias : c.closeUpdate.bias = c.bias := rfl

@[simp] theorem Sc.read_settings (x : SteerPorts) : (c.read x).settings = c.settings := rfl
@[simp] theorem Sc.countPressure_settings : c.countPressure.settings = c.settings := rfl
@[simp] theorem Sc.backup_settings (st : SteerState) : (c.backup st).settings = c.settings := rfl
@[simp] theorem Sc.demand_settings (v : Nat) : (c.demand v).settings = c.settings := rfl
@[simp] theorem Sc.envelopeValues_settings (a b : Bool) : (c.envelopeValues a b).settings = c.settings := rfl
@[simp] theorem Sc.assist_settings (v : Nat) (live : Bool) : (c.assist v live).settings = c.settings := rfl

@[simp] theorem Sc.drive_settings : c.drive.settings = c.settings := by
  unfold Sc.drive
  split <;> rfl

@[simp] theorem Sc.follow_settings : c.follow.settings = c.settings := by
  unfold Sc.follow
  split
  · split <;> rfl
  · rfl

@[simp] theorem Sc.align_settings (v : Nat) : (c.align v).settings = c.settings := by
  unfold Sc.align
  split
  · split
    · rw [Sc.drive_settings, Sc.demand_settings]
      rfl
    · rfl
  · rfl

@[simp] theorem Sc.steer_settings (v : Nat) : (c.steer v).settings = c.settings := by
  unfold Sc.steer
  simp only []
  generalize (if (c.sensorsAgree && c.wheel.isSome) = true then 0 else c.sensorFault + 1) = n
  split
  · rfl
  · rw [Sc.follow_settings, Sc.drive_settings, Sc.demand_settings]
    rfl

/-- R145 step 3: the state work leaves the settings. -/
@[simp] theorem Sc.stateWork_settings (v : Nat) : (c.stateWork v).settings = c.settings := by
  unfold Sc.stateWork
  split <;> simp

end Sys2Proof.Machine
end

