-- ==== Sys2Proof/Tests/Slice0.lean ====
section
/-! SUPPORT. The model's own tests: ill-formed terms that the well-formedness check refuses, worked figures of the manual,
and for each statement a concrete state and operands that meet its hypotheses. -/

namespace Sys2Proof.Tests

open Sys2Proof.Machine

/-! ### Small states -/

/-- The next state, and the state itself at any other outcome. -/
def after (c : Instr) (s : State) : State :=
  match exec c s with
  | .next t => t
  | _ => s

/-- Commands in turn, their handed events left waiting. -/
def run (cs : List Instr) (s : State) : State := cs.foldl (fun t c => after c t) s

/-- The class and detail of the reply in the slot. -/
def reply (s : State) : Option (ReplyClass × Option Detail) := s.sl.slot.map fun r => (r.cls, r.detail)

def withTa (s : State) (st : TaState) (speed : Nat) : State := { s with ta := { s.ta with state := st, speed := speed } }

def withStation (s : State) (n : Station) (x : StationCtx) : State :=
  { s with
    sm := s.sm.set n x
    pu := { s.pu with stations := s.pu.stations.set n { s.puStation n with copy := x.state } } }

def inState (s : State) (n : Station) (st : StationState) : State := withStation s n { s.station n with state := st }

def inFlight (s : State) (f : Option InFlight) : State := { s with sl := { s.sl with inFlight := f } }

def withDg (s : State) (st : GovState) (enabled : Bool) : State := { s with dg := { s.dg with state := st, enabled := enabled } }

def withSc (s : State) (st : SteerState) : State := { s with sc := { s.sc with state := st } }

def withPm (s : State) (st : PayloadState) : State := { s with pm := { s.pm with state := st } }

def withLevel (s : State) (l : Level) : State := { s with pu := { s.pu with level := l } }

def withBank (s : State) (k : Bank) (b : BankRec) : State := { s with gd := { s.gd with banks := s.gd.banks.set k b } }

/-- The five groups configured. -/
def configured (s : State) : State :=
  { s with
    ta := { s.ta with configured := true }, gd := { s.gd with configured := true }
    sc := { s.sc with configured := true }, pm := { s.pm with configured := true }
    pu := { s.pu with configured := true } }

/-- A supervisor SPEED record. -/
def speedRecord (current target : Nat) (ramp : Option Nat) : CeilingRecord :=
  { holder := .supervisor, limit := .speed, target := target, current := current, ramp := ramp, expiry := none
    reason := 3, notify := false }

/-- Reset with one slot filled. -/
def withSlot (i : Nat) (x : Slot) : State := { State.reset with ct := State.reset.ct.set i x }

/-- A dry span. -/
def span (len : Nat) (grade : Int) (limit : Nat) : Desc := .span len grade limit .dry false

/-- A route that has just started on group `g` of a store. -/
def onRoute (store : List (Nat × Group)) (g : Nat) (index : Nat) : State :=
  { State.reset with
    rs := { State.reset.rs with
      store := store, state := .running, index := index, pos := RoutePos.reset.fetch store g } }

/-! ### The well-formedness check refuses an ill-formed term for each check it makes -/

/-- A well-formed term, and terms one field away from it that are refused. -/
def refuses (good : Instr) (bad : List Instr) : Bool := good.wf && bad.all fun i => !i.wf

def place : PlaceReq := ⟨0, 500, 3, 1, some 15, some 2, some 20, some (0, 100)⟩

theorem test_wf_place :
    refuses (.placeCeiling place)
      [.placeCeiling { place with kind := 256 }, .placeCeiling { place with target := 65536 },
        .placeCeiling { place with reason := 256 }, .placeCeiling { place with notify := 256 },
        .placeCeiling { place with scope := some 256 }, .placeCeiling { place with direction := some 256 },
        .placeCeiling { place with ramp := some 65536 }, .placeCeiling { place with expiry := some (256, 1) },
        .placeCeiling { place with expiry := some (0, 65536) }] = true := by decide

def amend : AmendReq := ⟨0, 1, some 400, .replace 20, .replace (1, 300), some true, some 0, some 15, some 2⟩

theorem test_wf_amend :
    refuses (.amendCeiling amend)
      [.amendCeiling { amend with slot := 256 }, .amendCeiling { amend with gen := 256 },
        .amendCeiling { amend with target := some 65536 }, .amendCeiling { amend with ramp := .replace 65536 },
        .amendCeiling { amend with expiry := .replace (256, 1) }, .amendCeiling { amend with expiry := .replace (0, 65536) },
        .amendCeiling { amend with kind := some 256 }, .amendCeiling { amend with scope := some 256 },
        .amendCeiling { amend with direction := some 256 }] = true := by decide

theorem test_wf_handles :
    (refuses (.retireCeiling 255 255) [.retireCeiling 256 1, .retireCeiling 0 256] &&
      refuses (.queryCeiling 255 255) [.queryCeiling 256 1, .queryCeiling 0 256] &&
      refuses (.listCeilings 255 255) [.listCeilings 256 0, .listCeilings 0 256] &&
      refuses (.recordExpiry 47) [.recordExpiry 48]) = true := by decide

theorem test_wf_drive :
    (refuses (.configureDrive ⟨65535, 0, 0, 0⟩ 255)
      [.configureDrive ⟨65536, 0, 0, 0⟩ 50, .configureDrive ⟨0, 65536, 0, 0⟩ 50, .configureDrive ⟨0, 0, 65536, 0⟩ 50,
        .configureDrive ⟨0, 0, 0, 65536⟩ 50, .configureDrive ⟨1, 0, 0, 0⟩ 256]) = true := by decide

def write : WriteReq := ⟨3, some 65535, some (-128), some 255, some 65535⟩

theorem test_wf_stations :
    (refuses (.parkStation 255) [.parkStation 256] && refuses (.restoreStation 255) [.restoreStation 256] &&
      refuses (.rearmStation 255) [.rearmStation 256] && refuses (.readStationContext 255) [.readStationContext 256] &&
      refuses (.writeParkedContext write)
        [.writeParkedContext { write with station := 256 }, .writeParkedContext { write with mask := some 65536 },
          .writeParkedContext { write with trim := some (-129) }, .writeParkedContext { write with trim := some 128 },
          .writeParkedContext { write with slip := some 256 },
          .writeParkedContext { write with clear := some 65536 }]) = true := by decide

def grid : GridReq := ⟨3000, 3000, 60000, 16777215, 600, 600, 80, 2300⟩

theorem test_wf_grid :
    (refuses (.configureGrid grid)
      [.configureGrid { grid with ratedA := 65536 }, .configureGrid { grid with ratedB := 65536 },
        .configureGrid { grid with capA := 16777216 }, .configureGrid { grid with capB := 16777216 },
        .configureGrid { grid with coolA := 65536 }, .configureGrid { grid with coolB := 65536 },
        .configureGrid { grid with altitude := 256 }, .configureGrid { grid with dcMax := 65536 }] &&
      refuses (.setBankOrder 255) [.setBankOrder 256]) = true := by decide

theorem test_wf_routes :
    (refuses (.profileWrite 255 0 0 0 0) [.profileWrite 256 0 0 0 0] && refuses (.profileRead 255) [.profileRead 256] &&
      refuses (.routeStart 255 255 65535) [.routeStart 256 0 0, .routeStart 0 256 0, .routeStart 0 0 65536] &&
      refuses (.insertDetour 255) [.insertDetour 256] && refuses (.governorMode 255) [.governorMode 256] &&
      refuses (.forecast 255) [.forecast 256]) = true := by decide

theorem test_wf_steering_and_payload :
    (refuses (.configureSteering 255 255 65535 255 255)
      [.configureSteering 256 0 0 0 0, .configureSteering 0 256 0 0 0, .configureSteering 0 0 65536 0 0,
        .configureSteering 0 0 0 256 0, .configureSteering 0 0 0 0 256] &&
      refuses (.steerEnvelope EnvTable.default)
        [.steerEnvelope { EnvTable.default with r0 := ⟨65536, 0⟩ }, .steerEnvelope { EnvTable.default with r7 := ⟨0, 65536⟩ }] &&
      refuses (.setAssist 255 255) [.setAssist 256 0, .setAssist 0 256] &&
      refuses (.configurePayload 65535 65535 65535 65535)
        [.configurePayload 65536 0 0 0, .configurePayload 0 65536 0 0, .configurePayload 0 0 65536 0,
          .configurePayload 0 0 0 65536] &&
      refuses (.payloadSample ⟨.fill ⟨300, true⟩, .up⟩)
        [.payloadSample ⟨⟨⟨300, true⟩, ⟨300, true⟩, ⟨300, true⟩, ⟨301, true⟩⟩, .up⟩]) = true := by decide

theorem test_wf_protection :
    (refuses (.configureProtection 255 255) [.configureProtection 256 0, .configureProtection 0 256] &&
      refuses (.clearFaultsStation 255) [.clearFaultsStation 256] &&
      refuses (.setMaskStation 255 65535) [.setMaskStation 256 0, .setMaskStation 0 65536] &&
      refuses (.setMaskTruck 65535) [.setMaskTruck 65536] &&
      refuses (.reportJudgement .s0 .live ⟨0, 0, false, false⟩)
        [.reportJudgement .s0 .absent ⟨0, 0, false, false⟩, .reportJudgement .s0 .parked ⟨0, 0, false, false⟩] &&
      refuses (.linkLostEvent .s0 .live) [.linkLostEvent .s0 .absent, .linkLostEvent .s0 .parked] &&
      refuses (.truckConditionBegins ⟨.pr, some .jumpLoop⟩)
        [.truckConditionBegins ⟨.pr, none⟩, .truckConditionBegins ⟨.gt, some .jumpLoop⟩] &&
      refuses (.reportFrame .s0 (List.replicate 14 0)) [.reportFrame .s0 (List.replicate 13 0)]) = true := by decide

theorem test_wf_pass_and_timers :
    (refuses (.allocationPass ⟨1000, 1000, true, true, true, 4000⟩)
      [.allocationPass ⟨1001, 0, true, true, true, 0⟩, .allocationPass ⟨0, 1001, true, true, true, 0⟩,
        .allocationPass ⟨0, 0, true, true, true, 4001⟩] &&
      refuses (.grantHandover (.fill ⟨-1000, true, some 1000⟩) .forward)
        [.grantHandover (.fill ⟨-1001, true, none⟩) .forward, .grantHandover (.fill ⟨0, true, some 1001⟩) .forward] &&
      refuses (.powerArrival 12000 4000) [.powerArrival 12001 0, .powerArrival 0 4001] &&
      refuses (.passArrival (.fill none) 700) [.passArrival (.fill none) 701] &&
      refuses (.setClaim .governorTarget 700 (some 700) (some ⟨.time, 65535⟩))
        [.setClaim .governorTarget 0 (some 0) none, .setClaim .governorTarget 0 (some 701) none,
          .setClaim .safe 0 (some 1001) none, .setClaim .safe 0 none (some ⟨.time, 0⟩),
          .setClaim .safe 0 none (some ⟨.time, 65536⟩)] &&
      refuses (.retireClaim .payloadPropel (some 1000)) [.retireClaim .payloadPropel (some 0), .retireClaim .dv (some 1001)] &&
      refuses (.gridTimer ⟨⟨100, 0⟩, ⟨100, 0⟩⟩) [.gridTimer ⟨⟨101, 0⟩, ⟨0, 0⟩⟩, .gridTimer ⟨⟨0, 0⟩, ⟨101, 0⟩⟩]) = true := by
  decide

/-! ### Each statement's hypotheses are met -/

theorem test_witness_step :
    ({ State.reset with pending := [.arm, .identify] }).pending = [.arm, .identify] ∧
    ({ State.reset with handed := [.latchEvent, .armingEvent] }).pending = [] ∧
    ({ State.reset with handed := [.latchEvent, .armingEvent] }).handed = [.latchEvent, .armingEvent] ∧
    State.reset.pending = [] ∧ State.reset.handed = [] := by decide

/-- A supervisor's record in the last slot, LIVE or FADING. -/
def kept : State := withSlot 47 ⟨9, .fading (speedRecord 300 700 (some 5))⟩

theorem test_witness_frame :
    ∃ t, exec (.setClaim .safe 0 none none) kept = .next t ∧
      actsOnSupervisorRecords (.setClaim .safe 0 none none) = false ∧
      kept.ct[47]? = some ⟨9, .fading (speedRecord 300 700 (some 5))⟩ ∧
      (⟨9, .fading (speedRecord 300 700 (some 5))⟩ : Slot).entry.held = some (speedRecord 300 700 (some 5)) ∧
      Block.dg ∉ touched (.setClaim .safe 0 none none) :=
  ⟨_, rfl, rfl, rfl, rfl, by decide⟩

theorem test_witness_refusals :
    State.reset.linkFree ∧
    ((after .resume State.reset).sl.slot.map Reply.cls = some .refusedState ∧ (encodeRequest .resume).isSome = true) ∧
    ((after (.profileRead 64) State.reset).sl.slot.map Reply.cls = some .refusedValue ∧
      (encodeRequest (.profileRead 64)).isSome = true) ∧
    ((after .forecastContinue State.reset).sl.slot.map Reply.cls = some .stale ∧
      (encodeRequest .forecastContinue).isSome = true) := ⟨rfl, by decide, by decide, by decide⟩

theorem test_refusals_are_next_states :
    exec .resume State.reset = .next (after .resume State.reset) ∧
    exec (.profileRead 64) State.reset = .next (after (.profileRead 64) State.reset) ∧
    exec .forecastContinue State.reset = .next (after .forecastContinue State.reset) := ⟨rfl, rfl, rfl⟩

/-- IDENTIFY and READ_NOTICES ask only for a free link. -/
theorem test_witness_link_free : State.reset.linkFree ∧ kept.linkFree := ⟨rfl, rfl⟩

theorem test_witness_cancel :
    State.reset.sl.inFlight = none ∧
    ((inFlight State.reset (some .arm)).sl.inFlight = some .arm ∧ (inFlight State.reset (some .arm)).sl.slot = none) ∧
    ((inFlight State.reset (some (.park .s3))).sl.inFlight = some (.park .s3) ∧
      (inFlight State.reset (some (.park .s3))).sl.slot = none) := by decide

theorem test_witness_soft_reset :
    State.reset.linkFree ∧ (withTa State.reset .disarmed 4).ta.state = .disarmed ∧
    (withTa State.reset .disarmed 4).ta.speed < 5 ∧ (withTa State.reset .neutral 0).ta.state.armed = true ∧
    ((withTa State.reset .disarmed 5).ta.state.armed = false ∧ 5 ≤ (withTa State.reset .disarmed 5).ta.speed) :=
  ⟨rfl, rfl, by decide, rfl, rfl, by decide⟩

theorem test_witness_bad_frames :
    State.reset.linkFree ∧
    judgeFrame [0x01, 0x00, 0x2E, 0x3E] true = .malformed .length ∧ judgeFrame [] false = .malformed .length ∧
    judgeFrame [0x01, 0x00, 0x2E, 0x3F] false = .malformed .crc ∧
    judgeFrame [0x05, 0x00, 0xE2, 0xFA] false = .malformed .code ∧
    (inFlight State.reset (some .arm)).sl.inFlight ≠ none ∧
    judgeFrame [0x01, 0x00, 0x2E, 0x3E] false ≠ .request .cancel ∧
    (encodeRequest .arm).isSome = true ∧ Instr.arm ≠ .cancel :=
  ⟨rfl, by decide +kernel, by decide +kernel, by decide +kernel, by decide +kernel, by decide, by decide +kernel, by decide, by decide⟩

/-- R193: the type byte makes a write, a read or neither; an empty transaction is neither. -/
theorem test_transactions_by_first_byte :
    transactionOf [0x5A, 0x01, 0x00] = .write [0x01, 0x00] ∧ transactionOf [0xA5, 0x00, 0x00] = .read 2 ∧
    transactionOf [0x00, 0x5A] = .disregarded ∧ transactionOf [] = .disregarded ∧
    (∀ b ∈ ([0x00, 0x5A] : List Byte).head?, b ≠ 0x5A ∧ b ≠ 0xA5) ∧
    (∀ b ∈ ([] : List Byte).head?, b ≠ 0x5A ∧ b ≠ 0xA5) := by decide

/-- The identify reply waits in the slot. -/
def answeredOnce : State := after .identify State.reset

theorem test_witness_reply_read :
    State.reset.sl.slot = none ∧ (answeredOnce.sl.slot.map fun r => r.frame.length) = some 13 ∧
    0 < 13 ∧ 12 < 13 ∧ 13 < 14 := ⟨rfl, by decide +kernel, by decide⟩

theorem test_witness_well_formed_frames :
    (Instr.identify.wf = true ∧ (encodeRequest .identify).isSome = true) ∧
    ((Instr.setMaskStation 4 0).wf = true ∧ (encodeRequest (.setMaskStation 4 0)).isSome = true) ∧
    ((Instr.placeCeiling place).wf = true ∧ (encodeRequest (.placeCeiling place)).isSome = true) ∧
    ((Instr.writeParkedContext write).wf = true ∧ (encodeRequest (.writeParkedContext write)).isSome = true) := by decide

def extremes : ReportFrame := ⟨3, 15, ⟨-1000, 700, 32767, -32767, 3000, true, false, true⟩⟩

theorem test_witness_reports_and_words :
    (extremes.id ≤ 3 ∧ extremes.echo ≤ 15 ∧ mag extremes.report.torque ≤ 1000 ∧ mag extremes.report.wheel ≤ 700 ∧
      mag extremes.report.motor ≤ 32767 ∧ mag extremes.report.inverter ≤ 32767 ∧ extremes.report.regen ≤ 3000) ∧
    (Desc.span 4095 (-250) 700 .slick true).legal ∧ (Desc.span 0 250 0 .wet false).legal ∧ (Desc.jump 63).legal ∧
    Desc.stop.legal ∧ (Desc.hold .wait).legal := by
  refine ⟨by decide, ?_, ?_, ?_, trivial, trivial⟩ <;> unfold Desc.legal <;> decide

/-- Thirteen records: one more than a LIST_CEILINGS reply holds. -/
def thirteen : State :=
  { State.reset with
    ct := List.replicate 13 ⟨1, .live (speedRecord 300 300 none)⟩ ++ List.replicate 34 ⟨0, .free⟩
      ++ [⟨255, .fading (speedRecord 300 700 (some 1))⟩] }

theorem test_witness_reads :
    State.reset.linkFree ∧
    ((47 ≤ 47 ∧ 1 ≤ 255) ∧ thirteen.ct[47]? = some ⟨255, .fading (speedRecord 300 700 (some 1))⟩ ∧
      (⟨255, .fading (speedRecord 300 700 (some 1))⟩ : Slot).entry.held = some (speedRecord 300 700 (some 1))) ∧
    (listed thirteen.ct 5 47).length ≤ 12 ∧ (listed State.reset.ct 0 0).length ≤ 12 ∧
    12 < (listed thirteen.ct 5 0).length ∧ ((listed thirteen.ct 5 0)[11]?).isSome = true :=
  ⟨rfl, ⟨by decide, rfl, rfl⟩, by decide, by decide, by decide, by decide⟩

theorem test_witness_targets :
    (300 ≤ (speedRecord 300 700 (some 5)).current) ∧
    ((speedRecord 300 700 (some 5)).current < 301 ∧ (speedRecord 300 700 (some 5)).ramp = some 5) ∧
    ((speedRecord 300 300 none).current < 700 ∧ (speedRecord 300 300 none).ramp = none) ∧
    (({ amend with target := none, ramp := .remove }).ramp = .remove ∧ ({ amend with target := none }).target = none ∧
      (speedRecord 300 700 (some 5)).current < (speedRecord 300 700 (some 5)).target) ∧
    ({ amend with target := none, ramp := .replace 1 }).ramp = .replace 1 := by decide

theorem test_witness_place :
    State.reset.linkFree ∧ supervisorCount State.reset.ct < 24 ∧ State.reset.ct[0]? = some ⟨0, .free⟩ ∧
    supervisorCount kept.ct < 24 ∧ (withSlot 0 ⟨255, .free⟩).ct[0]? = some ⟨255, .free⟩ ∧
    (place.kind = 0 ∧ place.scope = some 15 ∧ (scopeOf 15).isSome = true ∧ place.direction = some 2 ∧
      (directionOf 2).isSome = true) ∧
    (∀ scope dir, (Limit.torque scope dir).maximum = 1000) ∧ Limit.speed.maximum = 700 ∧
    (({ place with kind := 1, scope := none, direction := none, target := 700, ramp := some 700 }).kind = 1) ∧
    (place.target ≤ 1000 ∧ 1 ≤ 20 ∧ 20 ≤ 1000 ∧ 0 ≤ 1 ∧ 1 ≤ 100) :=
  ⟨rfl, by decide, rfl, by decide, rfl, by decide, fun _ _ => rfl, rfl, rfl, by decide⟩

/-- With the lower slot taken, the next one is the lowest that is FREE. -/
def oneTaken : State := withSlot 0 ⟨1, .live (speedRecord 300 300 none)⟩

theorem test_witness_place_above_taken_slots :
    oneTaken.ct[1]? = some ⟨0, .free⟩ ∧ ∀ (j : Nat) (x : Slot), j < 1 → oneTaken.ct[j]? = some x → x.entry ≠ .free := by
  refine ⟨rfl, ?_⟩
  intro j x hj hx
  match j, hj with
  | 0, _ =>
    cases hx
    decide

theorem test_witness_amend_and_retire :
    oneTaken.linkFree ∧ oneTaken.ct[0]? = some ⟨1, .live (speedRecord 300 300 none)⟩ ∧
    (speedRecord 300 300 none).holder = .supervisor ∧ (speedRecord 300 300 none).limit.kindCode = 1 ∧
    (speedRecord 300 300 none).limit.scopeCode = none ∧ 700 ≤ (speedRecord 300 300 none).limit.maximum ∧
    ((withSlot 47 ⟨255, .live (speedRecord 699 699 (some 1))⟩).ct[47]? = some ⟨255, .live (speedRecord 699 699 (some 1))⟩ ∧
      (speedRecord 699 699 (some 1)).ramp ≠ none ∧
      (speedRecord 699 699 (some 1)).current < (speedRecord 699 699 (some 1)).limit.maximum) ∧
    (speedRecord 700 700 (some 1)).limit.maximum ≤ (speedRecord 700 700 (some 1)).current ∧
    kept.ct[47]? = some ⟨9, .fading (speedRecord 300 700 (some 5))⟩ :=
  ⟨rfl, rfl, rfl, rfl, rfl, by decide, ⟨rfl, by decide, by decide⟩, by decide, rfl⟩

/-- A record of the SAFE key. -/
def safeRecord : CeilingRecord :=
  { holder := .internal .safe, limit := keyLimit .safe, target := 1000, current := 400, ramp := some 20, expiry := none
    reason := keyReason .safe, notify := false }

/-- A handle that reaches no record: an empty slot, another generation, and generation 0, which reaches none. -/
theorem test_witness_no_record :
    namesNoRecord (withSlot 0 ⟨255, .free⟩).ct 0 255 ∧ namesNoRecord oneTaken.ct 0 2 ∧ namesNoRecord oneTaken.ct 0 0 := by
  refine ⟨?_, ?_, ?_⟩ <;> intro e r h1 h2 h3
  · cases h2
    cases h3
  · cases h2
  · exact absurd h1 (by decide)

/-- One request for each row of R18's table, each with the faults of the rows below it too. -/
theorem test_refusals_of_place :
    let full : State := { State.reset with ct := State.reset.ct.map fun _ => ⟨1, .live (speedRecord 300 300 none)⟩ }
    let bad : PlaceReq := ⟨2, 1001, 3, 1, some 16, some 3, some 0, some (2, 0)⟩
    let answer (r : PlaceReq) := reply (after (.placeCeiling r) full)
    answer bad = some (.refusedValue, some .kind) ∧
    answer { bad with kind := 1 } = some (.refusedValue, some .speedFields) ∧
    answer { bad with kind := 0 } = some (.refusedValue, some .scope) ∧
    answer { bad with kind := 0, scope := some 15 } = some (.refusedValue, some .direction) ∧
    answer { bad with kind := 0, scope := some 15, direction := some 2 } = some (.refusedValue, some .target) ∧
    answer { bad with kind := 0, scope := some 15, direction := some 2, target := 1000 } =
      some (.refusedValue, some .ramp) ∧
    answer { place with ramp := none, expiry := some (2, 1) } = some (.refusedValue, some .expiry) ∧
    answer place = some (.refusedState, some .quota) := by decide +kernel

/-- One request for each row of R19's table and of R20's. -/
theorem test_refusals_of_amend_and_retire :
    let owned := withSlot 0 ⟨3, .live safeRecord⟩
    let bad : AmendReq := ⟨0, 1, some 701, .replace 0, .replace (2, 0), none, some 0, none, none⟩
    let answer (a : AmendReq) (s : State) := reply (after (.amendCeiling a) s)
    answer { bad with slot := 48 } oneTaken = some (.refusedValue, some .handle) ∧
    answer { bad with gen := 2 } oneTaken = some (.stale, some .noRecord) ∧
    answer { bad with gen := 3 } owned = some (.refusedState, some .notOwner) ∧
    answer { bad with slot := 47, gen := 9 } kept = some (.refusedState, some .fading) ∧
    answer bad oneTaken = some (.refusedValue, some .fixedField) ∧
    answer { bad with kind := some 1 } oneTaken = some (.refusedValue, some .target) ∧
    answer { bad with kind := none, target := some 700 } oneTaken = some (.refusedValue, some .ramp) ∧
    answer { bad with kind := none, target := none, ramp := .replace 700 } oneTaken = some (.refusedValue, some .expiry) ∧
    reply (after (.retireCeiling 48 1) oneTaken) = some (.refusedValue, some .handle) ∧
    reply (after (.retireCeiling 0 0) oneTaken) = some (.stale, some .noRecord) ∧
    reply (after (.retireCeiling 0 3) owned) = some (.refusedState, some .notOwner) := by decide +kernel

theorem test_witness_ramp_steps :
    ((speedRecord 695 700 (some 5)).current < (speedRecord 695 700 (some 5)).target ∧
      (speedRecord 695 700 (some 5)).target = (speedRecord 695 700 (some 5)).limit.maximum ∧
      (speedRecord 695 700 (some 5)).ramp = some 5) ∧
    (⟨1, .live (speedRecord 300 300 none)⟩ : Slot).entry.held = some (speedRecord 300 300 none) ∧
    (speedRecord 300 300 none).target ≤ (speedRecord 300 300 none).current := by decide

/-- A countdown taken after an amendment that reloads a full value of 1 brings the counter to 0 (log 45). -/
theorem test_countdown_after_reload_of_one :
    let s := after (.placeCeiling { place with expiry := some (0, 1) }) State.reset
    let t := after (.amendCeiling ⟨0, 1, none, .leave, .leave, none, none, none, none⟩) s
    (t.ct.head?.map fun x => x.entry.isFading) = some false ∧ supervisorCount t.ct = 1 ∧
      supervisorCount (after .tableTimer t).ct = 1 ∧
      ((after .tableTimer t).ct.head?.map fun x => x.entry.isFading) = some true := by decide +kernel

/-- A notifying record whose counter the next countdown brings to 0, or that stands there. -/
def expiring (kind : ExpiryKind) (counter : Nat) (notify : Bool) : CeilingRecord :=
  { speedRecord 300 300 none with expiry := some ⟨kind, 5, counter⟩, notify := notify }

theorem test_witness_countdowns :
    ((∀ x ∈ (State.reset.ct.map Slot.rampStep), ¬ x.tellsExpiry .time) ∧
      (withSlot 47 ⟨2, .live (expiring .distance 1 true)⟩).ct[47]? = some ⟨2, .live (expiring .distance 1 true)⟩ ∧
      (⟨2, .live (expiring .distance 1 true)⟩ : Slot).tellsExpiry .distance) ∧
    ((withSlot 47 ⟨2, .live (expiring .time 0 false)⟩).ct[47]? = some ⟨2, .live (expiring .time 0 false)⟩ ∧
      (expiring .time 0 false).expiry = some ⟨.time, 5, 0⟩) ∧
    ((expiring .time 0 true).notify = true ∧ State.reset.sl.retired.length < 8 ∧ ⟨47, 2⟩ ∉ State.reset.sl.retired) ∧
    (⟨47, 2⟩ ∈ List.replicate 8 (⟨47, 2⟩ : Handle) ∧ 8 ≤ (List.replicate 8 (⟨0, 1⟩ : Handle)).length ∧
      ⟨47, 2⟩ ∉ List.replicate 8 (⟨0, 1⟩ : Handle)) ∧
    0 < (⟨.time, 5, 1⟩ : Countdown).counter ∧
    (∀ g r e, State.reset.ct[0]? = some ⟨g, .live r⟩ → r.expiry = some e → 0 < e.counter) ∧
    (∀ g r e, kept.ct[47]? = some ⟨g, .live r⟩ → r.expiry = some e → 0 < e.counter) ∧
    (∀ g r e, oneTaken.ct[0]? = some ⟨g, .live r⟩ → r.expiry = some e → 0 < e.counter) := by
  refine ⟨⟨?_, rfl, expiring .distance 1 true, ⟨.distance, 5, 1⟩, rfl, rfl, rfl, by decide, rfl⟩, ⟨rfl, rfl⟩,
    by decide, by decide, by decide, (fun _ _ _ h => by cases h), (fun _ _ _ h => by cases h),
    fun _ _ _ h k => by cases h; cases k⟩
  intro x hx
  obtain ⟨y, hy, rfl⟩ := List.mem_map.mp hx
  have : y = ⟨0, .free⟩ := List.eq_of_mem_replicate hy
  subst this
  rintro ⟨r, e, h, -⟩
  cases h

theorem test_witness_claims :
    ((∀ x ∈ State.reset.ct, x.holdsKey .safe = false) ∧ State.reset.ct[0]? = some ⟨0, .free⟩) ∧
    safeRecord.holder = .internal .safe ∧
    ((withSlot 47 ⟨3, .live safeRecord⟩).ct[47]? = some ⟨3, .live safeRecord⟩ ∧
      (withSlot 47 ⟨3, .fading safeRecord⟩).ct[47]? = some ⟨3, .fading safeRecord⟩) ∧
    (∀ x ∈ (withSlot 47 ⟨3, .fading safeRecord⟩).ct.take 47, x.holdsKey .safe = false) := by
  refine ⟨⟨by decide, rfl⟩, rfl, ⟨rfl, rfl⟩, by decide⟩

theorem test_witness_effective :
    ((torqueCeiling (withSlot 47 ⟨3, .fading safeRecord⟩).ct .s3 false).binding = some ⟨47, 3⟩ ∧
      CeilingRecord.limitsTorque .s3 false safeRecord = true) ∧
    (torqueCeiling (withSlot 47 ⟨3, .fading safeRecord⟩).ct .s3 true).binding = none ∧
    (speedCeiling thirteen.ct).binding = some ⟨0, 1⟩ ∧ (speedCeilingBut thirteen.ct .governorTarget).binding = some ⟨0, 1⟩ ∧
    (speedCeilingButOwner thirteen.ct .governor).binding = some ⟨0, 1⟩ ∧ (speedCeiling State.reset.ct).binding = none := by
  decide +kernel

theorem reset_table_legal : tableLegal Ct.reset := by
  refine ⟨by decide, ?_, ?_, by decide⟩
  · intro x hx
    have : x = ⟨0, .free⟩ := List.eq_of_mem_replicate hx
    subst this
    exact ⟨by decide, trivial⟩
  · intro k
    cases k <;> (try rename_i n; cases n) <;> decide

theorem test_witness_table_invariant :
    tableLegal ({ State.reset with pending := [.tableTimer] }).ct ∧
    ∃ t, step { State.reset with pending := [.tableTimer] } = .next t := ⟨reset_table_legal, _, rfl⟩

theorem test_witness_settings :
    State.reset.linkFree ∧ Machine.orderOf 0 = some .fixedA ∧ Machine.orderOf 2 = some .alternate ∧
    ((withDg State.reset .off false).dg.enabled = false ∧ (withDg State.reset .off false).dg.state = .off) ∧
    (State.reset.dg.enabled = true ∧ State.reset.dg.state.active = false) ∧
    ((withDg State.reset .holding true).dg.enabled = true ∧ (withDg State.reset .holding true).dg.state.active = true) ∧
    ((∀ r ∈ EnvTable.default.rows, r.speed ≤ 700 ∧ r.angle ≤ 450) ∧ EnvTable.default.r0.speed = 0 ∧
      EnvTable.default.rows.Pairwise (fun a b => a.speed < b.speed ∧ b.angle ≤ a.angle)) ∧ 100 ≤ 100 :=
  ⟨rfl, rfl, rfl, ⟨rfl, rfl⟩, ⟨rfl, rfl⟩, ⟨rfl, rfl⟩, by decide, by decide⟩

/-- One request for each refusal of R90, R122 and R156. -/
theorem test_refusals_of_settings :
    reply (after (.setBankOrder 3) State.reset) = some (.refusedValue, some .order) ∧
    reply (after (.governorMode 2) State.reset) = some (.refusedValue, some .mode) ∧
    reply (after (.governorMode 0) State.reset) = some (.doneAlert, some .noChange) ∧
    reply (after (.setAssist 2 101) State.reset) = some (.refusedValue, some .enable) ∧
    reply (after (.setAssist 1 101) State.reset) = some (.refusedValue, some .gain) := by decide +kernel

/-- The class, detail and row of the answer to STEER_ENVELOPE. -/
def envelopeReply (e : EnvTable) : Option (ReplyClass × Option Detail × List Byte) :=
  (after (.steerEnvelope e) State.reset).sl.slot.map fun q => (q.cls, q.detail, q.payload)

/-- One request for each refusal of R153: a refused envelope names its lowest row at fault. -/
theorem test_refusals_of_envelope :
    let d := EnvTable.default
    envelopeReply { d with r0 := ⟨1, 0⟩, r6 := ⟨701, 0⟩, r7 := ⟨0, 451⟩ } = some (.refusedValue, some .range, u8 6) ∧
    envelopeReply { d with r0 := ⟨1, 0⟩, r1 := ⟨0, 0⟩ } = some (.refusedValue, some .firstRow, []) ∧
    envelopeReply { d with r1 := ⟨0, 450⟩, r2 := ⟨0, 450⟩ } = some (.refusedValue, some .speedOrder, u8 1) ∧
    envelopeReply { d with r7 := ⟨700, 450⟩ } = some (.refusedValue, some .angleOrder, u8 7) := by decide +kernel

/-- S0 heard from and standing by, in a configured part. -/
def heard : State :=
  let s := configured State.reset
  withStation s .s0 { s.station .s0 with state := .standby, link := .alive }

theorem test_witness_arm :
    State.reset.linkFree ∧ (withTa State.reset .coast 0).ta.state.armed = true ∧
    (State.reset.ta.state.armed = false ∧ unconfigured State.reset ≠ 0) ∧
    (unconfigured (configured State.reset) = 0 ∧
      ∀ n ∈ Station.all, ((configured State.reset).station n).link = .lost) ∧
    (heard.linkFree ∧ heard.ta.state.armed = false ∧ unconfigured heard = 0 ∧ (heard.station .s0).link = .alive ∧
      (heard.station .s0).state ≠ .absent) :=
  ⟨rfl, rfl, ⟨rfl, by decide⟩, ⟨by decide, by decide⟩, ⟨rfl, rfl, by decide, rfl, by decide⟩⟩

/-- ARM accepted, and bank A's check over. -/
def arming : State := after .arm heard

def halfChecked : State := after (.checkTimerExpiry .a) arming

theorem test_witness_check_ends :
    (State.reset.bank .a).state ≠ .checking ∧ (arming.bank .a).state = .checking ∧ (arming.bank .b).state = .checking ∧
    (arming.sl.inFlight = some .arm ∧ (arming.bank Bank.a.other).state = .checking) ∧
    ((halfChecked.bank .b).state = .checking ∧ halfChecked.sl.inFlight = some .arm ∧
      (halfChecked.bank Bank.b.other).state ≠ .checking) := by decide +kernel

/-- With both banks FAILED and no lead under ALTERNATE, bank A, whose check starts first, takes the lead (log 21); the GRID
record and GF stand while a re-check runs (R86, R87). -/
theorem test_arm_on_failed_banks :
    let g : Gd := { heard.gd with
      order := .alternate, lead := none, gf := true, gridValue := some 0
      banks := .fill { BankRec.reset with state := .failed } }
    let t := after .arm { heard with gd := g }
    t.gd.lead = some .a ∧ (t.bank .a).recheck = true ∧ t.gd.gf = true ∧ t.gd.gridValue = some 0 ∧ t.handed = [] := by
  decide +kernel

/-- A bank that fails its check takes the lead with it, claims the GRID record of what is left and begins GF. -/
theorem test_failed_check_is_judged :
    let t := after (.checkTimerExpiry .a) arming
    t.gd.lead = some .b ∧ t.gd.gf = true ∧ t.gd.gridValue = some 0 ∧ t.ct = claimSet arming.ct .grid 0 (some 10) none ∧
    t.handed = [.truckConditionBegins ⟨.gf, none⟩] := by decide +kernel

theorem test_witness_disarm :
    (State.reset.linkFree ∧ State.reset.ta.state = .disarmed ∧ State.reset.ta.state.armed = false) ∧
    ((withTa State.reset .coast 5).ta.state ≠ .disarmed ∧ 5 ≤ (withTa State.reset .coast 5).ta.speed) ∧
    ((withTa State.reset .coast 4).linkFree ∧ (withTa State.reset .coast 4).ta.speed < 5 ∧
      (withTa State.reset .coast 4).ta.state.armed = true) :=
  ⟨⟨rfl, rfl, rfl⟩, ⟨by decide, by decide⟩, ⟨rfl, by decide, rfl⟩⟩

def fullAccum : State := { State.reset with ta := { State.reset.ta with accum := 3599, speed := 700 } }

theorem test_witness_pass : fullAccum.ta.accum ≤ 3599 ∧ fullAccum.ta.speed ≤ 700 ∧ State.reset.ta.accum ≤ 3599 := by decide

def stopping (ref : Option Nat) (count : Nat) : State :=
  let s := withLevel State.reset .safeStop
  { s with ta := { s.ta with safeRef := ref, fallCount := count } }

theorem test_witness_safe_stop :
    ((stopping none 0).pu.level = .safeStop ∧ (stopping none 0).ta.safeRef = none ∧ (stopping none 0).ta.fallCount ≤ 4) ∧
    ((stopping (some 0) 4).ta.safeRef = some 0 ∧ (stopping (some 0) 4).ta.fallCount = 4) ∧
    ((stopping (some 200) 3).ta.safeRef = some 200 ∧ (stopping (some 200) 3).ta.fallCount < 4) ∧
    State.reset.pu.level ≠ .safeStop := by decide

theorem test_witness_reference_kept :
    (∃ t, exec .tableTimer (stopping (some 200) 3) = .next t) ∧ Instr.tableTimer ≠ .softReset ∧
    Instr.tableTimer ≠ .hardReset ∧ ∀ p, Instr.tableTimer ≠ .allocationPass p :=
  ⟨⟨_, rfl⟩, by decide, by decide, fun _ h => by cases h⟩

/-- A pass in FORWARD or REVERSE. -/
def pass (accel retard : Nat) (forward : Bool) : Instr := .allocationPass ⟨accel, retard, forward, false, !forward, 2000⟩

/-- An armed truck at a speed, after one pass. -/
def passed (speed accel retard : Nat) (forward : Bool) : State :=
  after (pass accel retard forward) (withTa State.reset .coast speed)

theorem test_witness_demands :
    ((passed 700 1000 0 true).ta.dr = 0 ∧ (passed 700 1000 0 true).ta.selector = .forward ∧
      (speedCeiling State.reset.ct).value ≤ (passed 700 1000 0 true).ta.speed) ∧
    ((passed 690 1000 0 true).ta.speed < 700 ∧ 700 < (passed 690 1000 0 true).ta.speed + 20) ∧
    (passed 680 1000 0 true).ta.speed + 20 ≤ 700 ∧ 0 < (passed 680 1000 0 true).ta.dp ∧
    State.reset.ta.state.armed = false ∧
    ((passed 5 0 0 false).ta.wheelSign = .forward ∧ (passed 5 0 0 false).ta.selector.direction = some .reverse ∧
      5 ≤ (passed 5 0 0 false).ta.speed) ∧
    (0 < (passed 5 0 1 true).ta.dr ∧ 5 ≤ (passed 5 0 1 true).ta.speed) ∧
    ((passed 4 0 1 true).ta.speed < 5 ∧ (passed 4 0 1 true).ta.dp = 0) := by decide +kernel

/-- All four stations driven, parking, restoring and standing by. -/
def mixed : State :=
  inState (inState (inState (inState (withTa State.reset .coast 100) .s0 .live) .s1 .parking) .s2 .restoring) .s3 .standby

theorem test_witness_grants :
    (mixed.station .s0).state = .live ∧ (mixed.station .s1).state = .parking ∧ (mixed.station .s2).state = .restoring ∧
    ((mixed.station .s3).state.driven = false ∧ (mixed.station .s3).state ≠ .parking) ∧
    (after (pass 0 0 true) mixed).ta.state.armed = true ∧ (after (pass 0 0 true) mixed).ta.demand ≠ .retard ∧
    ((mixed.station Station.s3.partner).state.driven = false) := by decide +kernel

/-- 11.3's clamp: S2 held at 300 retard in a braking pass, its partner S0 LIVE beside it. -/
def clampedPair : State :=
  let live (s : State) (n : Station) : State :=
    withStation s n { s.station n with state := .live, link := .alive, lastGrant := -500 }
  live (live (after (.setClaim (.sl .s2) 300 (some 20) none) (withTa State.reset .retard 200)) .s2) .s0

theorem test_partner_takes_what_the_clamp_left :
    (clampedPair.station .s0).state = .live ∧ (clampedPair.station Station.s0.partner).state.driven = true ∧
    (after (pass 0 500 true) clampedPair).ta.demand = .retard ∧
    (after (pass 0 500 true) clampedPair).ta.handed = ⟨-700, 0, -300, 0⟩ ∧
    (after (pass 0 500 true) clampedPair).ta.target = ⟨-500, 0, -500, 0⟩ := by decide +kernel

/-! ### Chapter 3 -/

def quiet (torque : Int) (echo : Nat) : ReportFrame := ⟨1, echo, ⟨torque, 0, 20, 20, 0, true, false, false⟩⟩

/-- A station whose last two counters sent are 15 and 0. -/
def sentTo (s : State) (n : Station) : State := withStation s n { s.station n with lastTwo := [15, 0] }

theorem test_witness_reports :
    parseReport [] = none ∧ parseReport (encodeReport (quiet 0 1)) = some (quiet 0 1) ∧
    1 ∉ ((sentTo State.reset .s1).station .s1).lastTwo ∧ (quiet 0 1).id ≠ Station.s2.num ∧
    (parseReport (encodeReport (quiet 21 0)) = some (quiet 21 0) ∧ (quiet 21 0).id = Station.s1.num ∧
      (quiet 21 0).echo ∈ ((sentTo mixed .s1).station .s1).lastTwo ∧
      20 < mag (quiet 21 0).report.torque ∧ ((sentTo State.reset .s1).station .s1).state ≠ .parking) ∧
    ((State.reset.station .s0).deadline = none ∧
      ((withStation State.reset .s0 { StationCtx.reset with deadline := some 0 }).station .s0).deadline ≠ none) := by
  decide +kernel

theorem test_witness_park :
    (State.reset.linkFree ∧ 4 ≤ 4 ∧ (State.reset.station .s0).state = .absent ∧
      ((inState State.reset .s3 .parked).station .s3).state = .parked ∧ (inState State.reset .s3 .parked).linkFree) ∧
    ((mixed.station .s0).state, ParkOrigin.live) ∈ [(StationState.standby, ParkOrigin.standby),
      (StationState.live, ParkOrigin.live), (StationState.restoring, ParkOrigin.restoring),
      (StationState.tripped, ParkOrigin.tripped)] ∧
    (parseReport (encodeReport (quiet (-20) 15)) = some (quiet (-20) 15) ∧ (quiet (-20) 15).id = Station.s1.num ∧
      (quiet (-20) 15).echo ∈ ((sentTo mixed .s1).station .s1).lastTwo ∧
      ((sentTo mixed .s1).station .s1).state = .parking ∧ mag (quiet (-20) 15).report.torque ≤ 20) ∧
    ((State.reset.station .s1).state ≠ .parking ∧ (mixed.station .s1).state = .parking ∧
      (mixed.station .s1).parkTimer = none) ∧
    (((after (.parkStation 0) mixed).station .s0).state = .parking ∧
      ((after (.parkStation 0) mixed).station .s0).parkTimer ≠ none) := by
  refine ⟨⟨rfl, by decide, rfl, rfl, rfl⟩, by decide, by decide +kernel, by decide, by decide +kernel⟩

/-- A park slot's copy, clean or with IV set. -/
def copy (iv : Bool) : Settings := { Settings.default with flags := { StationFlags.none with iv := iv } }

/-- S2 parked with a copy and a live link. -/
def parkedWith (p : Settings) : State :=
  withStation State.reset .s2
    { StationCtx.reset with state := .parked, custody := .supervisor, parkSlot := some p, link := .alive }

theorem test_witness_restore :
    ((parkedWith (copy true)).linkFree ∧ ((parkedWith (copy true)).station .s2).state = .parked ∧
      ((parkedWith (copy true)).station .s2).link = .alive ∧
      ((parkedWith (copy true)).station .s2).parkSlot = some (copy true)) ∧
    (State.reset.station .s2).state ≠ .parked ∧
    ((heard.station .s0).state = .standby ∧ (withTa heard .coast 0).ta.state.armed = true ∧
      (heard.station .s0).link = .alive ∧ (heard.station .s0).settings.tripping = false ∧ (copy true).tripping = true) ∧
    (stationMaskOf 15 ≠ none ∧ stationFlagsOf 63 ≠ none ∧ (-50 : Int) ≤ 50 ∧ 50 ≤ 200) :=
  ⟨⟨rfl, rfl, rfl, rfl⟩, by decide, by decide, by decide⟩

/-- One state for each refusal, and the first field of a write that is out of its range. -/
theorem test_refusals_of_restore_rearm_and_write :
    let silent := inState State.reset .s2 .parked
    let cold := inState State.reset .s2 .standby
    let held := parkedWith (copy false)
    reply (after (.restoreStation 4) silent) = some (.refusedValue, some .station) ∧
    reply (after (.rearmStation 4) silent) = some (.refusedValue, some .station) ∧
    reply (after (.restoreStation 2) silent) = some (.refusedState, some .linkLost) ∧
    reply (after (.rearmStation 2) silent) = some (.refusedState, some .notStandby) ∧
    reply (after (.rearmStation 2) cold) = some (.refusedState, some .notArmed) ∧
    reply (after (.rearmStation 2) (withTa cold .coast 0)) = some (.refusedState, some .linkLost) ∧
    reply (after (.writeParkedContext ⟨2, none, none, none, none⟩) cold) = some (.refusedState, some .notParked) ∧
    reply (after (.writeParkedContext ⟨2, some 16, some 51, some 49, some 64⟩) held) = some (.refusedValue, some .mask) ∧
    reply (after (.writeParkedContext ⟨2, some 15, some 51, some 49, some 64⟩) held) = some (.refusedValue, some .trim) ∧
    reply (after (.writeParkedContext ⟨2, none, some 50, some 49, some 64⟩) held) = some (.refusedValue, some .slipScale) ∧
    reply (after (.writeParkedContext ⟨2, none, none, some 50, some 64⟩) held) = some (.refusedValue, some .flags) := by
  decide +kernel

theorem test_witness_claims_on_flags :
    ((parkedWith (copy false)).station .s2).state = .parked ∧ (State.reset.station .s0).state = .absent ∧
    ((inState State.reset .s0 .tripped).station .s0).state = .tripped ∧
    ((mixed.station .s0).state = .live ∧ (mixed.station .s0).settings.mask.masks .oc = true ∧
      (mixed.station .s0).settings.mask.masks .iv = false ∧ (mixed.station .s0).state.tripsHere = true) ∧
    (mixed.station .s1).state = .parking := by decide

/-- A claim sent as tripping trips although its class has been masked since (log 46). -/
theorem test_tripping_claim_of_masked_class :
    (mixed.station .s0).settings.mask.masks .oc = true ∧
    ((after (.raiseClaim .s0 .oc true) mixed).station .s0).state = .tripped ∧
    ((after (.raiseClaim .s0 .oc false) mixed).station .s0).state = .live := by decide +kernel

theorem test_witness_custody_invariant :
    ∃ s t, custodyAgrees s ∧ copiesAgree s ∧ armingAgrees s ∧ step s = .next t := by
  refine ⟨{ withStation heard .s2
      { StationCtx.reset with state := .parked, custody := .supervisor, parkSlot := some (copy true) } with
      pending := [.arm] }, _, ?_, ?_, ⟨by decide, by decide, by decide, ?_⟩, rfl⟩ <;> intro n <;> cases n <;> decide

/-- A park that completes retires the OC record of its station. -/
theorem test_park_retires_station_records :
    let s := after (.setClaim (.oc .s1) 500 (some 20) none) (after (.parkStation 1) (inState State.reset .s1 .live))
    (s.ct.head?.map fun x => x.holdsKey (.oc .s1)) = some true ∧
    ((after (.parkTimerExpiry .s1) s).station .s1).state = .parked ∧
    (after (.parkTimerExpiry .s1) s).ct = claimRetire s.ct (.oc .s1) none ∧
    ((after (.parkTimerExpiry .s1) s).ct.head?.map fun x => x.entry.held.map CeilingRecord.target) =
      some (some 1000) := by decide +kernel

/-! ### Chapters 4 and 5 -/

def bankIn (st : BankState) (avail : Nat) : BankRec := { BankRec.reset with state := st, avail := avail }

def overVolt (count : Nat) (value : Option Nat) : State :=
  { State.reset with gd := { State.reset.gd with ovCount := count, dvValue := value } }

theorem reset_banks_legal : banksLegal Gd.reset := by
  refine ⟨⟨by decide, rfl, rfl⟩, ⟨by decide, rfl, rfl⟩, ?_, ?_⟩
  · intro k hk
    cases k <;> decide
  · intro h
    cases h

theorem failed_banks_legal :
    banksLegal { Gd.reset with lead := none, banks := .fill (bankIn .failed 0) } := by
  refine ⟨⟨by decide, rfl, rfl⟩, ⟨by decide, rfl, rfl⟩, ?_, ?_⟩
  · intro k hk
    cases hk
  · intro _ k
    cases k <;> rfl

theorem test_witness_power :
    banksLegal State.reset.gd ∧ State.reset.gd.lead = some .a ∧
    (({ Gd.reset with lead := none, banks := .fill (bankIn .failed 0) } : Gd).lead = none) ∧
    ((withBank State.reset .a (bankIn .ready 3000)).bank .a).state = .ready ∧ (State.reset.bank .b).state = .offline ∧
    (({ Gd.reset with order := .alternate } : Gd).order = .alternate ∧ min 1000 (999 + 100 / 100) = 1000) ∧
    (State.reset.gd.cfg.dcMax < 2301 ∧ ¬ State.reset.gd.cfg.dcMax < 2300) ∧
    ((overVolt 0 none).gd.ovCount = 0 ∧ (overVolt 1 none).gd.ovCount = 1 ∧ (overVolt 2 (some 200)).gd.ovCount = 2 ∧
      (overVolt 2 (some 200)).gd.dvValue = some 200) :=
  ⟨reset_banks_legal, rfl, rfl, rfl, rfl, by decide, by decide, by decide⟩

/-- A dispatch of no power takes a DISSIPATING bank into READY and publishes; one that keeps it DISSIPATING does not. -/
theorem test_dispatch_into_ready_publishes :
    let s := withBank State.reset .a (bankIn .dissipating 3000)
    s.gd.published.avail.a = 0 ∧
    ((after (.powerArrival 0 0) s).bank .a).state = .ready ∧ (after (.powerArrival 0 0) s).gd.published.avail.a = 3000 ∧
    ((after (.powerArrival 1 0) s).bank .a).state = .dissipating ∧
    (after (.powerArrival 1 0) s).gd.published.avail.a = 0 := by decide +kernel

/-- R81: at 1000 the lead alternates, and the bank that takes it starts at 0. -/
theorem test_alternate_lead_swaps :
    let s := withBank (withBank State.reset .a { bankIn .dissipating 3000 with leadEnergy := 999 }) .b (bankIn .ready 3000)
    let t := after (.powerArrival 100 0) { s with gd := { s.gd with order := .alternate } }
    t.gd.lead = some .b ∧ (t.bank .b).leadEnergy = 0 ∧ (t.bank .b).leadRem = 0 := by decide +kernel

/-- Bank A dissipating at a chopper figure of 110 ‰, with its open-grid count at `n` and heat at 80 % of its capacity. -/
def openGrid (n : Nat) : State :=
  withBank State.reset .a { bankIn .dissipating 3000 with chopper := 110, openCount := n, heat := 48600 }

def noCurrent : Instr := .gridTimer ⟨⟨100, 10⟩, ⟨100, 0⟩⟩

theorem test_witness_grid_timer :
    ((openGrid 1).bank .a).openCount + 1 < 3 ∧ 3 ≤ ((openGrid 2).bank .a).openCount + 1 ∧
    ((after noCurrent (openGrid 2)).bank .a).state = .failed ∧
    ((after noCurrent (openGrid 1)).bank .a).state = .dissipating ∧
    percent 80 60000 ≤ ((after noCurrent (openGrid 1)).bank .a).heat ∧
    ((after noCurrent State.reset).gd.condition = false ∧ (after noCurrent State.reset).gd.gridValue = none ∧
      State.reset.gd.gridValue = none) ∧
    ((after noCurrent (openGrid 2)).gd.condition = true ∧ (openGrid 2).gd.gridValue = none) ∧
    (after noCurrent (openGrid 2)).gd.gridValue.isSome = true ∧
    (openGrid 1).gd.lead =
      settledLead (openGrid 1).gd.order (openGrid 1).gd.lead (fun k => ((openGrid 1).bank k).state == .failed) ∧
    (after noCurrent (openGrid 1)).gd.lead = (openGrid 1).gd.lead := by decide +kernel

/-- R86's table: claimed at a move of 10, let stand at 9, retired with its condition; R87's events as bank A fails. -/
theorem test_grid_record_and_events :
    gridEvaluated Ct.reset (some 500) true 510 = (some 510, claimSet Ct.reset .grid 510 (some 10) none) ∧
    gridEvaluated Ct.reset (some 500) true 509 = (some 500, Ct.reset) ∧
    gridEvaluated Ct.reset (some 500) false 509 = (none, claimRetire Ct.reset .grid none) ∧
    (after noCurrent (openGrid 2)).handed = [.truckConditionBegins ⟨.gf, none⟩] := by decide +kernel

theorem test_witness_bank_invariant :
    banksLegal ({ State.reset with pending := [noCurrent] }).gd ∧ ∃ t, step { State.reset with pending := [noCurrent] } = .next t :=
  ⟨reset_banks_legal, _, rfl⟩

/-- A jump to its own group, a stop, a hold and a span, as words. -/
def wordsGood : List (BitVec 40) := [descWord (.jump 63), descWord .stop, descWord (.hold .wait), descWord (span 0 (-250) 700)]

theorem test_witness_profile :
    State.reset.linkFree ∧ 63 < 64 ∧ groupFault [0x8000000000#40, 0, 0, 0] = some .kind ∧
    (wordsGood.map wordFault = [none, none, none, none]) ∧ storeWf State.reset.rs.store = true :=
  ⟨rfl, by decide, by decide +kernel, by decide +kernel, rfl⟩

def spans : Group := ⟨span 2 (-30) 300, span 1 0 200, .hold .load, .stop⟩

def loop : Group := ⟨.jump 1, .stop, .stop, .stop⟩

def store : List (Nat × Group) := [(0, spans), (1, loop), (63, ⟨.stop, .stop, .stop, span 0 0 100⟩)]

def running (index debt : Nat) : State :=
  let s := onRoute store 0 index
  { s with rs := { s.rs with debt := debt } }

def holding : State :=
  let s := onRoute store 0 0
  { s with rs := { s.rs with state := .holding, pos := s.rs.pos.shift.shift } }

theorem test_witness_metres :
    State.reset.rs.state.counts = false ∧ (running 0 1).rs.state.counts = true ∧ 0 < (running 0 1).rs.debt ∧
    (holding.rs.state = .holding ∧ holding.rs.debt = 0) ∧
    ((running 0 253).rs.debt < 254 ∧ 254 ≤ (running 0 254).rs.debt) ∧
    ((running 0 0).rs.state = .running ∧ (running 0 0).rs.debt = 0 ∧
      (running 0 0).rs.index + 1 ≠ (running 0 0).rs.pos.length) ∧
    (running 1 0).rs.index + 1 = (running 1 0).rs.pos.length ∧
    ((running 1 0).rs.pos.rollover store).c0.map Entry.desc = some (span 1 0 200) := by decide

theorem test_witness_resolutions :
    (resolve store (running 0 0).rs.pos).ending = .span ∧ (resolve store holding.rs.pos).ending = .hold .load ∧
    (resolve [] RoutePos.reset).ending = .stop ∧ (resolve store { RoutePos.reset with next := 1 }).ending = .loop ∧
    (let p : RoutePos := { (RoutePos.reset.fetch [] 0) with
        detour := .active 9, cont := some ⟨some ⟨span 2 0 100, 0, 1⟩, none, none, 1⟩ }
     (resolve [] p).returned = true) ∧
    (resolve store holding.rs.pos).returned = false := by decide

/-- Group 1 jumps to itself: the fourth fetch is allowed and a fifth is called. Group 2 jumps on to group 0. -/
def jumps : List (Nat × Group) := (2, ⟨.jump 0, .stop, .stop, .stop⟩) :: store

theorem test_witness_fetches :
    (((fetchesCalled jumps 2 { RoutePos.reset with next := 2 }).bind standsAt) = some .span ∧
      (resolve jumps { RoutePos.reset with next := 2 }).ending = .span) ∧
    ((fetchesCalled store 4 { RoutePos.reset with next := 1 }).bind (fetchCalled store)).isSome = true ∧
    (let p : RoutePos := { (RoutePos.reset.fetch [] 0) with
        detour := .active 9, cont := some ⟨none, none, none, 1⟩ }
     (p.c0.map Entry.desc) = some .stop ∧ fetchesCalled store 0 p = some p ∧
       (fetchesCalled store 4 { p with c0 := none, c1 := none, c2 := none, c3 := none, next := 1, detour := .none, cont := none }
         |>.bind (fetchCalled store)).isSome = true ∧
       (resolve store p).returned = true ∧ (resolve store p).ending = .loop ∧
       ((fetchesCalled store 1 { p with c0 := none, c1 := none, c2 := none, c3 := none, next := 0, detour := .none, cont := none })
         |>.bind standsAt) = some .span) := by decide

theorem test_witness_route_start :
    (State.reset.linkFree ∧ (255 = 255 ∨ (255 ≤ 63 ∧ 0 ≤ 3)) ∧ 4095 ≤ 4095) ∧
    ((resolve [] (startPos [] 0 0)).ending = .stop) ∧ (resolve store (startPos store 1 0)).ending = .loop ∧
    ((resolve store (startPos store 0 0)).ending = .span ∧ (resolve store (startPos store 0 0)).pos.length ≤ 2) ∧
    ((resolve store (startPos store 0 2)).ending = .hold .load) ∧
    ((resolve store (startPos store 63 3)).ending = .span ∧ 4095 < (resolve store (startPos store 63 3)).pos.length) ∧
    (reply (after (.routeStart 64 4 4096) State.reset) = some (.refusedValue, some .group) ∧
      reply (after (.routeStart 63 4 4096) State.reset) = some (.refusedValue, some .first) ∧
      reply (after (.routeStart 63 3 4096) State.reset) = some (.refusedValue, some .offset) ∧
      reply (after (.routeStart 255 4 4096) State.reset) = some (.refusedValue, some .offset)) ∧
    (running 0 0).linkFree ∧ (running 0 0).rs.state ≠ .idle ∧ State.reset.rs.state = .idle := by
  refine ⟨⟨rfl, by decide, by decide⟩, by decide, by decide, by decide, by decide, by decide, by decide +kernel, rfl, by decide, rfl⟩

def onDetour (d : Detour) : State :=
  { running 0 0 with
    rs := { (running 0 0).rs with
      pos := { (running 0 0).rs.pos with detour := d, cont := some ⟨some ⟨span 1 0 200, 0, 1⟩, none, none, 1⟩ } } }

theorem test_witness_detours :
    ((running 0 0).linkFree ∧ (running 0 0).rs.state.counts = true ∧ (running 0 0).rs.pos.detour = .none ∧ 63 ≤ 63) ∧
    (onDetour (.pending 63)).rs.pos.detour ≠ .none ∧ (onDetour (.active 0)).rs.pos.detour = .active 0 ∧
    (running 0 0).sl.notices.detourDone = false ∧ (running 0 0).rs.state ≠ .holding ∧ holding.rs.state = .holding ∧
    holding.linkFree ∧ (onDetour (.pending 63)).rs.pos.takesDetour = true :=
  ⟨⟨rfl, rfl, rfl, by decide⟩, by decide, rfl, rfl, by decide, rfl, rfl, rfl⟩

theorem span_legal (len : Nat) (grade : Int) (limit : Nat) (h : len ≤ 4095 ∧ -250 ≤ grade ∧ grade ≤ 250 ∧ limit ≤ 700) :
    (span len grade limit).legal := h

theorem test_witness_route_invariant :
    ∃ s t, routeLegal s.rs ∧ storeLegal s.rs.store ∧ step s = .next t := by
  refine ⟨{ running 1 0 with pending := [.forwardMetreEvent] }, _, ⟨?_, ⟨by decide, by decide, by decide⟩, by decide,
    by decide, by decide, ?_⟩, ⟨by decide, ?_⟩, rfl⟩
  · exact ⟨_, rfl, by decide, _, _, _, _, _, rfl⟩
  · intro k h
    cases h
  · intro p hp
    have : p = (0, spans) ∨ p = (1, loop) ∨ p = (63, ⟨.stop, .stop, .stop, span 0 0 100⟩) := by
      simpa [running, onRoute, store] using hp
    rcases this with rfl | rfl | rfl
    · exact ⟨by decide, span_legal _ _ _ (by decide), span_legal _ _ _ (by decide), trivial, trivial⟩
    · exact ⟨by decide, (by decide : 1 ≤ 63), trivial, trivial, trivial⟩
    · exact ⟨by decide, trivial, trivial, trivial, span_legal _ _ _ (by decide)⟩

/-! ### Chapters 6 to 8 -/

def driving : State := withDg (withTa (running 0 0) .coast 100) .tracking true

theorem test_witness_governor :
    ((withPm driving .latched).pm.state = .latched ∧ (withPm driving .empty).pm.state = .empty ∧
      driving.pm.state ≠ .latched ∧ driving.pm.state ≠ .empty) ∧
    ((after .governorUpdate driving).dg.state = .governing ∧ (after .governorUpdate State.reset).dg.state = .standby) ∧
    (driving.dg.state.active = true ∧ State.reset.dg.state.active = false) ∧
    lookAhead (running 0 0).rs = .span := by decide +kernel

theorem test_witness_handed_events :
    (driving.dg.state = .tracking ∧ (withDg driving .holding true).dg.state = .holding ∧ State.reset.dg.state = .standby) ∧
    ((HoldKind.load = .load ∧ PayloadState.loading = .loading) ∧ HoldKind.dump ≠ .wait) ∧
    ((withPm State.reset .loading).pm.state = .loading ∧ (withPm State.reset .dumping).pm.state = .dumping ∧
      State.reset.pm.body = .down ∧
      ({ (withPm State.reset .dumping).pm with body := .up }).body = .up ∧ HoldCause.resume = .resume ∧
      HoldCause.fault ≠ .resume) ∧
    (State.reset.pm.state ≠ .loading ∧ State.reset.pm.state ≠ .dumping) := by decide

def started : State := after (.forecast 1) (running 0 0)

theorem test_witness_forecasts :
    State.reset.linkFree ∧ 2 ≤ 2 ∧ 1 ≤ 1 ∧ State.reset.rs.state.counts = false ∧ State.reset.dg.cursor = .absent ∧
    (running 0 0).linkFree ∧ (running 0 0).rs.state.counts = true ∧ holding.rs.state.counts = true := by
  refine ⟨rfl, by decide, by decide, rfl, rfl, rfl, rfl, rfl⟩

/-- 11.2: the cursor at the head of group 30 with 50 m gone, and at the head of group 32. -/
def cursor (first : Option Nat) (x : Entry) (heat distance : Nat) : Cursor :=
  { apply := true, pendingExcl := false, advance := 0, mass := 540, capacity := 120000, cooling := 960, ceiling := 700
    w0 := some x, w1 := none, w2 := none, w3 := none, ptr := 33, cont := none, firstRem := first, steps := 0
    distance := distance, heat := heat, total := 0, slice := 0 }

theorem test_witness_cursors :
    ({ State.reset.dg with cursor := .stale (cursor none ⟨.stop, 0, 0⟩ 0 0) }).cursor = .stale (cursor none ⟨.stop, 0, 0⟩ 0 0) ∧
    ({ State.reset.dg with cursor := .opened (cursor none ⟨.stop, 0, 0⟩ 0 0) }).cursor =
      .opened (cursor none ⟨.stop, 0, 0⟩ 0 0) := ⟨rfl, rfl⟩

/-- A cursor 70 m out with `d` at the head of its window, and what a walked line leaves of it. -/
def ahead (d : Option Desc) (steps : Nat) (k : Option Continuation) : Cursor :=
  { cursor none ⟨.stop, 0, 0⟩ 0 70 with w0 := d.map fun d => ⟨d, 0, 0⟩, ptr := 0, steps := steps, cont := k }

def seen (c : Cursor × Option WalkEnd) : Option Desc × Nat × Nat × Option WalkEnd :=
  (c.1.w0.map Entry.desc, c.1.steps, c.1.total, c.2)

/-- The walk's lines other than a SPAN: four reads and no fifth, a JUMP, a STOP in and out of a detour, a HOLD. -/
theorem test_walk_lines :
    seen ((ahead none 3 none).walkLine store) = (some (span 2 (-30) 300), 4, 0, none) ∧
    seen ((ahead none 4 none).walkLine store) = (none, 4, 0, some .loop) ∧
    seen ((ahead (some (.jump 0)) 3 none).walkLine store) = (some (span 2 (-30) 300), 4, 1, none) ∧
    seen ((ahead (some (.jump 0)) 4 none).walkLine store) = (some (.jump 0), 4, 0, some .loop) ∧
    seen ((ahead (some .stop) 0 none).walkLine store) = (some .stop, 0, 0, some .stop) ∧
    seen ((ahead (some .stop) 2 (some ⟨some ⟨span 1 0 200, 0, 1⟩, none, none, 1⟩)).walkLine store) =
      (some (span 1 0 200), 2, 0, none) ∧
    seen ((ahead (some (.hold .load)) 0 none).walkLine store) = (some (.hold .load), 0, 1, some (.hold .load 70)) :=
  ⟨by decide, by decide, by decide, by decide, by decide, by decide, by decide⟩

/-- 11.2, with both branches of a walked span met. -/
theorem test_forecast_figures :
    ((cursor (some 150) ⟨span 200 (-30) 300, 30, 0⟩ 40000 0).walkLine []).1.heat = 46558 ∧
    ((cursor none ⟨span 200 (-30) 300, 30, 1⟩ 46558 150).walkLine []).1.heat = 46558 + 8744 ∧
    ((cursor none ⟨span 400 (-90) 350, 32, 0⟩ 107766 1550).walkLine []).2 =
      some (.problem ⟨1550, 32, 0, 400, 190706, 184472, 74⟩) := by decide

def reading (a b w : Int) (fault : Bool) : Instr := .steeringUpdate ⟨⟨a, false⟩, ⟨b, false⟩, ⟨w, fault⟩, 109⟩

/-- In ALIGN after four agreeing updates, in TRACKING after four faulted ones. -/
def aligned : State := { State.reset with sc := { State.reset.sc with agreement := 4 } }

def tracking (faults : Nat) : State := { State.reset with sc := { State.reset.sc with state := .tracking, sensorFault := faults } }

theorem test_witness_steering :
    ((withSc State.reset .direct).sc.state = .direct) ∧ (State.reset.sc.state = .align ∧ State.reset.sc.agreement + 1 < 5) ∧
    (aligned.sc.state = .align ∧ 5 ≤ aligned.sc.agreement + 1 ∧ (after (reading 10 (-5) 0 false) aligned).sc.state = .tracking) ∧
    ((after (reading 10 (-6) 0 false) aligned).sc.state = .align) ∧
    ((after (reading 471 0 0 false) (tracking 4)).sc.state = .direct) ∧
    ((after (reading 471 0 0 false) (tracking 3)).sc.measured = none ∧
      (after (reading 471 0 0 false) (tracking 3)).sc.state = .tracking) ∧
    ((after (reading 470 470 0 false) (tracking 0)).sc.measured = some 450 ∧
      30 < mag ((after (reading 470 470 0 false) (tracking 0)).sc.clamped - 450)) ∧
    (after (reading 0 0 6001 false) (tracking 0)).sc.wheel = none ∧ EnvTable.default.ordered = true := by decide +kernel

theorem test_witness_envelope :
    ((after (reading 0 0 0 false) (tracking 0)).sc.measured = some 0 ∧
      700 ≤ (after (reading 0 0 0 false) (tracking 0)).sc.value) ∧
    ((after (reading 70 71 0 false) (tracking 0)).sc.value = 700 ∧ (after (reading 72 72 0 false) (tracking 0)).sc.value < 700) ∧
    ((after (reading 471 0 0 false) State.reset).sc.sensorA = none ∧ (after (reading 471 0 0 false) State.reset).sc.sensorB = some 0 ∧
      (after (reading 0 471 0 false) State.reset).sc.sensorB = none ∧
      (after (reading 471 471 0 false) State.reset).sc.sensorA = none) ∧
    (State.reset.sc.assistOn = false ∧
      ({ tracking 0 with sc := { (tracking 0).sc with assistOn := true } }).sc.assistOn = true) ∧
    ((withTa State.reset .coast 30).ta.speed = 30 ∧ (withTa State.reset .coast 300).ta.speed ≤ 300) ∧
    (((inState (inState State.reset .s2 .live) .s3 .live).station .s2).state = .live ∧
      ((inState (inState State.reset .s2 .live) .s3 .live).station .s3).state = .live ∧
      (State.reset.station .s2).state ≠ .live) := by decide +kernel

/-- R157: a setting written after an update shows at the next update, not before. -/
theorem test_steering_read_shows_last_update :
    let s := after (reading 0 0 0 false) State.reset
    let t := after (.setAssist 0 20) s
    t.sc.assistOn = true ∧ steeringPayload t = steeringPayload s ∧ t.sc.lastUpdate = s.sc.lastUpdate ∧
    (after (reading 0 0 0 false) t).sc.lastUpdate.assistOn = true ∧
    (after (reading 0 0 0 false) t).sc.lastUpdate.assistGain = 20 := by decide +kernel

/-- PM with 39 still samples of a mean, or with a window to close. -/
def weighing (st : PayloadState) (sum count winSum winCount winMetres : Nat) (latched : Option Nat) : State :=
  { State.reset with
    pm := { State.reset.pm with
      state := st, stillSum := sum, stillCount := count, winSum := winSum, winCount := winCount, winMetres := winMetres
      latched := latched, cls := latched.map (payloadClass 300) } }

/-- A healthy sample of `load` on each strut with the body down. -/
def weigh (load : Nat) : Instr := .payloadSample ⟨.fill ⟨load, true⟩, .down⟩

theorem test_witness_samples :
    ((after (weigh 120) (weighing .unknown (39 * 310) 39 0 0 0 none)).pm.latched = some 310) ∧
    ((after (weigh 120) (weighing .latched (39 * 310) 39 0 0 0 (some 308))).pm.latched = some 308 ∧
      gap 310 308 < 3 ∧ payloadClass 300 310 = payloadClass 300 308) ∧
    ((weighing .measuring 0 0 6200 20 100 none).pm.state = .measuring ∧
      (after (weigh 120) (weighing .measuring 0 0 6200 20 100 none)).pm.latched = some 310) ∧
    (({ (withPm State.reset .dumping).pm with dumpRelease := true }).dumpRelease = true) ∧
    ((after (weigh 120) (weighing .unknown 0 0 0 0 0 none)).pm.stillCount ≠ 40) := by decide +kernel

theorem test_witness_window :
    ((State.reset.pm.state ≠ .measuring ∧ Travel.reverse = .reverse ∧ 100 ≤ (weighing .measuring 0 0 0 0 100 none).pm.winMetres) ∧
      (weighing .measuring 0 0 0 19 99 none).pm.winCount < 20 ∧ (weighing .measuring 0 0 0 19 98 none).pm.winMetres + 1 < 100) ∧
    ((weighing .measuring 0 0 6200 20 99 none).pm.winMetres = 99 ∧ 20 ≤ (weighing .measuring 0 0 6200 20 99 none).pm.winCount) := by
  decide

/-! ### Chapter 9 and the invariants -/

theorem test_witness_pass_arrival :
    tableLegal State.reset.ct ∧ State.reset.pu.osRef = none ∧
    ({ State.reset.pu with osRef := some 0 }).osRef = some 0 ∧ ({ State.reset.pu with osRef := some 700 }).osRef = some 700 :=
  ⟨reset_table_legal, rfl, rfl, rfl⟩

/-- SL begins at the third slipping pass, on a LIVE station with SL unmasked. -/
theorem test_slip_begins :
    let s := inState State.reset .s1 .live
    let slips : Instr := .passArrival ⟨none, some true, none, none⟩ 200
    let t := run [slips, slips, slips] s
    (t.puStation .s1).conds.sl = true ∧ t.handed = [.raiseClaim .s1 .sl false] ∧
      (torqueCeiling t.ct .s1 true).value = 300 ∧ (t.puStation .s1).threshold = 30 := by decide +kernel

theorem test_witness_judgements :
    (StationState.absent = .absent ∧ StationState.live ≠ .absent ∧ StationState.live ≠ .parked) ∧
    ({ StationFlags.none with lk := true }).lk = true ∧ (State.reset.puStation .s0).conds.lk = false ∧
    ({ TruckSet.none with pr := true }).get HandedClass.pr.toTruck = true ∧
    State.reset.pu.conds.get HandedClass.gt.toTruck = false ∧
    ((inState State.reset .s0 .parked).puStation .s0).copy = .parked ∧
    ((inState State.reset .s0 .live).puStation .s0).copy ≠ .parked := by decide

/-- The quiet report that completed a park, judged after it: MT unmasked in the parked copy trips, and nothing stays judged. -/
theorem test_report_judged_after_park :
    let p : Settings := { Settings.default with mask := ⟨false, false, false, false⟩ }
    let t := after (.reportJudgement .s2 .parking ⟨500, 20, false, false⟩) (parkedWith p)
    t.handed = [.raiseClaim .s2 .mt true] ∧ (t.puStation .s2).conds.mt = false ∧ (t.puStation .s2).mtClaimed = none ∧
    t.sl.tripSet.s2 = true ∧
    (after (.reportJudgement .s2 .parking ⟨500, 20, false, false⟩) (parkedWith (copy false))).handed =
      [.raiseClaim .s2 .mt false] := by decide +kernel

theorem test_witness_clears_and_masks :
    (State.reset.linkFree ∧ 5 ≤ 5) ∧
    ((inState State.reset .s0 .parked).linkFree ∧ ((inState State.reset .s0 .parked).station .s0).state = .parked ∧
      (State.reset.station .s0).state ≠ .parked ∧ (State.reset.station .s0).state ≠ .tripped ∧
      ((inState State.reset .s0 .tripped).station .s0).state = .tripped) ∧
    (stationMaskOf 16 = none ∧ stationMaskOf 15 = some ⟨true, true, true, true⟩ ∧ truckMaskOf 32 = none ∧
      truckMaskOf 0 = some TruckSet.none) ∧
    ((withLevel State.reset .safeStop).linkFree ∧ (withLevel State.reset .safeStop).pu.level = .safeStop ∧
      (withLevel State.reset .stoppedSafe).pu.level ≠ .safeStop ∧ (withLevel State.reset .stoppedSafe).pu.level ≠ .normal) ∧
    (State.reset.pu.level = .normal ∧ 5 ≤ (withTa State.reset .coast 5).ta.speed ∧ (withTa State.reset .coast 4).ta.speed < 5) :=
  ⟨⟨rfl, by decide⟩, ⟨rfl, by decide, by decide, by decide, by decide⟩, by decide, ⟨rfl, by decide, by decide, by decide⟩,
    by decide⟩

/-- CLEAR_FAULTS for the truck with bank A FAILED, at STOPPED_SAFE: a check starts; with no bank FAILED, NORMAL comes back. -/
theorem test_witness_truck_clear :
    let stopped := withLevel State.reset .stoppedSafe
    let broken := withBank stopped .a (bankIn .failed 0)
    (broken.bank .a).state = .failed ∧ banksLegal State.reset.gd ∧ broken.pu.level ≠ .safeStop ∧
    reply (after .clearFaultsTruck broken) = some (.doneAlert, some .checkStarted) ∧
    (after .clearFaultsTruck broken).handed = [.truckConditionBegins ⟨.gf, none⟩] ∧
    (after .clearFaultsTruck stopped).pu.level = .normal ∧ (stopped.bank .a).state ≠ .failed :=
  ⟨rfl, reset_banks_legal, by decide, by decide +kernel, by decide +kernel, by decide +kernel, by decide⟩

/-- A second clear while the re-check of the first still runs leaves GF holding (log 50). -/
theorem test_second_clear_keeps_gf :
    let failed := withBank State.reset .a { BankRec.reset with state := .failed }
    let t := run [.clearFaultsTruck, .clearFaultsTruck] { failed with gd := { failed.gd with gf := true } }
    (t.bank .a).state = .checking ∧ (t.bank .a).recheck = true ∧ t.gd.gf = true := by decide +kernel

/-- GF's ends event overtakes a begins event that still waits, and PU's mark is set when that is taken (log 48). -/
theorem test_clear_overtakes_waiting_begins :
    let broken := withBank State.reset .a { BankRec.reset with blowerMark := true }
    let s := { broken with gd := { broken.gd with gf := true }, handed := [.truckConditionBegins ⟨.gf, none⟩] }
    let t := after .clearFaultsTruck s
    t.gd.gf = false ∧ t.pu.conds.gf = false ∧ t.handed = s.handed ∧
    (after (.truckConditionBegins ⟨.gf, none⟩) t).pu.conds.gf = true := by decide +kernel

/-- A set MT flag that SET_MASK opens trips the station. -/
theorem test_witness_opened_class :
    let x := State.reset.station .s0
    let s := withStation State.reset .s0
      { x with state := .live, settings := { x.settings with flags := { StationFlags.none with mt := true } } }
    ([StationClass.oc, .mt, .it, .sl].filter fun c =>
      (s.station .s0).settings.mask.masks c && !(StationMask.masks ⟨false, false, false, false⟩ c) &&
        (s.station .s0).settings.flags.get c).head? = some .mt ∧ stationMaskOf 0 = some ⟨false, false, false, false⟩ := by
  decide

/-- What holds of each of the four stations holds of every one. -/
theorem every_station (P : Station → Prop) (a : P .s0) (b : P .s1) (c : P .s2) (d : P .s3) : ∀ n, P n := by
  intro n
  cases n <;> assumption

theorem reset_fields_in_range : fieldsInRange State.reset := by
  refine ⟨by unfold allocationInRange; decide, ?_, ⟨?_, by simp [State.reset, Gd.reset]⟩,
    by simp [routeInRange, State.reset, Rs.reset, RoutePos.reset], by unfold governorInRange; decide, ?_,
    by simp [payloadInRange, State.reset, Pm.reset], ⟨by simp [State.reset, Pu.reset], by simp [State.reset, Pu.reset], ?_⟩,
    by simp [State.reset], by decide, by decide⟩
  · apply every_station <;> simp [stationInRange, State.reset, State.station, PerStation.fill, PerStation.get,
      StationCtx.reset, Settings.inRange, Settings.default]
  · intro k
    cases k <;> simp [BankRec.inRange, State.reset, Gd.reset, PerBank.fill, PerBank.get, BankRec.reset, GridCfg.default]
  · simp [steeringInRange, State.reset, Sc.reset, EnvTable.default, EnvTable.rows]
    decide
  · apply every_station <;> simp [PuStation.inRange, State.reset, Pu.reset, PuStation.reset, PerStation.fill, PerStation.get]

theorem reset_thresholds_in_range : thresholdsInRange State.reset.pu := by
  apply every_station <;> simp [State.reset, Pu.reset, PuStation.reset, PerStation.fill, PerStation.get]

theorem reset_ceilings_hold : ceilingsHold State.reset := by
  refine ⟨?_, by simp [State.reset], by simp [State.reset, Pu.reset]⟩
  apply every_station <;> decide

/-- A pass arrival at the fastest speed that a pass hands over. -/
theorem test_witness_range_invariant :
    let s := { State.reset with pending := [.passArrival (.fill none) 700] }
    levelHeld s.pu ∧ fieldsInRange s ∧ thresholdsInRange s.pu ∧ tableLegal s.ct ∧ ceilingsHold s ∧
      (∀ marks v rest, s.pending = .passArrival marks v :: rest → v ≤ 700) ∧
      (∀ c rest, s.pending = c :: rest → c.wf = true) ∧ ∃ t, step s = .next t := by
  refine ⟨by unfold levelHeld; decide, reset_fields_in_range, reset_thresholds_in_range, reset_table_legal,
    reset_ceilings_hold, ?_, ?_, _, rfl⟩
  · intro marks v rest h
    cases h
    decide
  · intro c rest h
    cases h
    decide

/-! ### The manual's worked sequences (chapter 11) -/

/-- 11.1: 4200 kW at 51000 kJ in bank A. -/
def overheating (heatA : Nat) : State :=
  let availA := availPower 3000 60000 heatA .dissipating
  let s := withBank (withBank State.reset .a { bankIn .dissipating availA with heat := heatA }) .b
    { bankIn .dissipating 3000 with heat := 30000 }
  { s with gd := { s.gd with published := { s.gd.figures with avail := ⟨availA, 3000⟩ } } }

theorem test_overheating_dispatch :
    let t := after (.powerArrival 4200 2000) (overheating 51000)
    (t.bank .a).share = 2250 ∧ (t.bank .b).share = 1950 ∧ t.gd.unabsorbed = 0 := by decide +kernel

/-- 11.1: the sustainable speed at 540 t and grade −100. -/
theorem test_overheating_target :
    let descending (heatA : Nat) : State :=
      { overheating heatA with
        ta := { State.reset.ta with state := .coast, speed := 350 }
        pm := { State.reset.pm with state := .latched, latched := some 310 }
        rs := (onRoute [(0, ⟨span 2000 (-100) 350, span 2000 (-100) 350, .stop, .stop⟩)] 0 0).rs }
    (after .governorUpdate (descending 51000)).dg.sustainable = some 356 ∧
      (after .governorUpdate (descending 51000)).dg.target = some 350 ∧
      (after .governorUpdate (descending 54000)).dg.target = some 305 ∧
      (after .governorUpdate (descending 57000)).dg.target = some 254 := by decide +kernel

/-- 11.3: S2 clamped to 300 offers its partner what it cannot carry. -/
theorem test_clamped_retard_goes_to_partner :
    let live (s : State) (n : Station) : State := withStation s n { s.station n with state := .live, link := .alive, lastGrant := -500 }
    let s := live (live (live (live (withTa State.reset .retard 200) .s0) .s1) .s2) .s3
    let t := run [.setClaim (.sl .s2) 300 (some 20) none, pass 0 500 true] s
    t.ta.handed = ⟨-700, -500, -300, -500⟩ ∧ t.ta.shortfall = 0 := by decide +kernel

/-- 11.4: a tripped station is parked, edited and restored. -/
theorem test_tripped_station_restores :
    let s0 := withTa (inState State.reset .s3 .live) .retard 100
    let s1 := withStation s0 .s3 { s0.station .s3 with link := .alive }
    let t1 := run [.raiseClaim .s3 .iv true, .parkStation 3] s1
    let report := encodeReport ⟨3, 0, ⟨0, 100, 20, 20, 0, true, false, true⟩⟩
    let t2 := after (.reportFrame .s3 report) t1
    let t3 := run [.writeParkedContext ⟨3, none, none, some 80, some 32⟩, .restoreStation 3] t2
    ((run [.raiseClaim .s3 .iv true] s1).station .s3).state = .tripped ∧
      (run [.raiseClaim .s3 .iv true] s1).faultLine = true ∧ (t1.station .s3).state = .parking ∧ t1.faultLine = false ∧
      (t2.station .s3).state = .parked ∧ (t2.station .s3).custody = .supervisor ∧ reply t2 = some (.done, none) ∧
      (t3.station .s3).state = .restoring ∧ (t3.station .s3).settings.slip = 80 ∧ reply t3 = some (.done, none) := by
  decide +kernel

/-- 11.5: a part that is not configured refuses ARM; one that is arms once both banks have passed. -/
theorem test_arming :
    reply (after .arm State.reset) = some (.refusedState, some .notConfigured) ∧
    reply (run [.arm, .bankCurrentSeen .a, .bankCurrentSeen .b] heard) = some (.done, none) ∧
    reply (run [.arm, .bankCurrentSeen .a, .checkTimerExpiry .b] heard) = some (.doneAlert, some .bankFailed) ∧
    reply (run [.arm, .checkTimerExpiry .a, .checkTimerExpiry .b] heard) = some (.abandoned, some .noGrid) ∧
    ((run [.arm, .bankCurrentSeen .a, .bankCurrentSeen .b, .armingEvent] heard).station .s0).state = .live ∧
    reply (after (.routeStart 255 0 0) State.reset) = some (.refusedValue, some .routeEnds) := by decide +kernel

/-- The step takes the front command, then the oldest handed event, then idles. -/
theorem test_step_order :
    step { State.reset with pending := [.tableTimer, .identify] } = exec .tableTimer { State.reset with pending := [.identify] } ∧
    step { State.reset with handed := [.latchEvent, .routeEditEvent] } =
      exec .latchEvent { State.reset with handed := [.routeEditEvent] } ∧
    step State.reset = .next State.reset ∧ Sys2Proof.core.step State.reset = .next State.reset := ⟨rfl, rfl, rfl, rfl⟩

end Sys2Proof.Tests
end

namespace Sys2Proof.Machine

/-! ### What a slot holds, and a table's quotas (R3 to R6) -/

/-- The slot keeps a LIVE or FADING record of this holder. -/
def Slot.heldBy (h : Holder) (x : Slot) : Bool := x.entry.held.any fun r => r.holder == h

/-- R6: how many records a holder may have. -/
def Holder.quota : Holder → Nat
  | .supervisor => 24
  | .internal _ => 1

theorem Slot.heldBy_iff {h : Holder} {x : Slot} :
    x.heldBy h = true ↔ ∃ r, x.entry.held = some r ∧ r.holder = h := by
  simp [Slot.heldBy, Option.any_eq_true]

theorem Slot.holdsKey_eq_heldBy (x : Slot) (k : Key) : x.holdsKey k = x.heldBy (.internal k) := by
  unfold Slot.holdsKey Slot.heldBy
  cases x.entry.held <;> rfl

theorem supervisorCount_eq_countP (t : List Slot) : supervisorCount t = t.countP (Slot.heldBy .supervisor) := by
  rw [List.countP_eq_length_filter]
  unfold supervisorCount
  congr 2
  funext x
  unfold Slot.heldBy
  cases x.entry.held <;> rfl

/-- A slot holds the record of one holder at most. -/
theorem Slot.heldBy_unique {x : Slot} {h k : Holder} (hh : x.heldBy h = true) (hk : x.heldBy k = true) : h = k := by
  obtain ⟨r, hr, rfl⟩ := Slot.heldBy_iff.1 hh
  obtain ⟨q, hq, rfl⟩ := Slot.heldBy_iff.1 hk
  rw [Option.some.inj (hr.symm.trans hq)]

@[simp] theorem Slot.heldBy_free (g : Nat) (h : Holder) : Slot.heldBy h ⟨g, .free⟩ = false := rfl

@[simp] theorem Slot.heldBy_live (g : Nat) (r : CeilingRecord) (h : Holder) :
    Slot.heldBy h ⟨g, .live r⟩ = (r.holder == h) := rfl

@[simp] theorem Slot.heldBy_fading (g : Nat) (r : CeilingRecord) (h : Holder) :
    Slot.heldBy h ⟨g, .fading r⟩ = (r.holder == h) := rfl

@[simp] theorem SlotEntry.isFree_eq_true {e : SlotEntry} : e.isFree = true ↔ e = .free := by
  cases e <;> simp [SlotEntry.isFree]

/-- R3, R4: the form of one slot, over the record it keeps. -/
theorem Slot.legal_iff (x : Slot) :
    x.legal ↔ x.gen ≤ 255 ∧ ∀ r, x.entry.held = some r → 1 ≤ x.gen ∧ r.legal x.entry.isFading := by
  obtain ⟨g, e⟩ := x
  cases e <;> simp [Slot.legal, SlotEntry.held, SlotEntry.isFading]

theorem Slot.legal_free {g : Nat} (h : g ≤ 255) : Slot.legal ⟨g, .free⟩ := ⟨h, trivial⟩

theorem Slot.legal_live {g : Nat} {r : CeilingRecord} :
    Slot.legal ⟨g, .live r⟩ ↔ g ≤ 255 ∧ 1 ≤ g ∧ r.legal false := Iff.rfl

theorem Slot.legal_fading {g : Nat} {r : CeilingRecord} :
    Slot.legal ⟨g, .fading r⟩ ↔ g ≤ 255 ∧ 1 ≤ g ∧ r.legal true := Iff.rfl

/-- R3 to R6: a legal table, its two quotas as one. -/
theorem tableLegal_iff (t : List Slot) :
    tableLegal t ↔ t.length = 48 ∧ (∀ x ∈ t, x.legal) ∧ ∀ h : Holder, t.countP (Slot.heldBy h) ≤ h.quota := by
  unfold tableLegal
  simp only [Slot.holdsKey_eq_heldBy, ← List.countP_eq_length_filter, supervisorCount_eq_countP]
  refine and_congr_right fun _ => and_congr_right fun _ => ⟨fun ⟨hk, hs⟩ h => ?_,
    fun h => ⟨fun k => h (.internal k), h .supervisor⟩⟩
  cases h with
  | supervisor => exact hs
  | internal k => exact hk k

theorem Slot.legal_of_getElem? {t : List Slot} {i : Nat} {x : Slot} (ht : tableLegal t) (hi : t[i]? = some x) : x.legal :=
  ((tableLegal_iff t).1 ht).2.1 x (List.mem_of_getElem? hi)

/-- One slot rewritten: a record may appear in it only for the holder it had, or for one with room in its quota. -/
theorem tableLegal_set {t : List Slot} {i : Nat} {x y : Slot} (ht : tableLegal t) (hi : t[i]? = some x) (hy : y.legal)
    (hq : ∀ h, y.heldBy h = true → x.heldBy h = true ∨ t.countP (Slot.heldBy h) < h.quota) : tableLegal (t.set i y) := by
  rw [tableLegal_iff] at ht ⊢
  obtain ⟨hlen, hleg, hquota⟩ := ht
  obtain ⟨hlt, hget⟩ := List.getElem?_eq_some_iff.1 hi
  refine ⟨by simpa using hlen, fun z hz => ?_, fun h => ?_⟩
  · rcases List.mem_or_eq_of_mem_set hz with hz | rfl
    · exact hleg z hz
    · exact hy
  · have hle := hquota h
    have hcount : (if x.heldBy h then 1 else 0) ≤ t.countP (Slot.heldBy h) := by
      split
      · next hx => exact List.countP_pos_iff.2 ⟨x, List.mem_of_getElem? hi, hx⟩
      · exact Nat.zero_le _
    rw [List.countP_set hlt, hget]
    by_cases hyh : y.heldBy h = true
    · rcases hq h hyh with hx | hroom
      · simp only [hx, hyh, if_true] at hcount ⊢
        omega
      · simp only [hyh, if_true]
        omega
    · simp only [hyh, Bool.false_eq_true, if_false]
      omega

/-- Every slot rewritten, with no record for a new holder. -/
theorem tableLegal_map {t : List Slot} (f : Slot → Slot) (ht : tableLegal t) (hl : ∀ x, x.legal → (f x).legal)
    (hh : ∀ x h, (f x).heldBy h = true → x.heldBy h = true) : tableLegal (t.map f) := by
  rw [tableLegal_iff] at ht ⊢
  obtain ⟨hlen, hleg, hquota⟩ := ht
  refine ⟨by simpa using hlen, fun z hz => ?_, fun h => ?_⟩
  · obtain ⟨x, hx, rfl⟩ := List.mem_map.1 hz
    exact hl x (hleg x hx)
  · rw [List.countP_map]
    exact (List.countP_mono_left fun x _ => hh x h).trans (hquota h)

/-! ### Records -/

/-- R6: an internal record is of its key's limit and reason, and does not notify. -/
def CeilingRecord.keyed (r : CeilingRecord) : Prop :=
  ∀ k, r.holder = .internal k → r.limit = keyLimit k ∧ r.reason = keyReason k ∧ r.notify = false

theorem CeilingRecord.legal_live_iff (r : CeilingRecord) :
    r.legal false ↔ r.current ≤ r.target ∧ r.target ≤ r.limit.maximum ∧ r.keyed := by
  simp [CeilingRecord.legal, CeilingRecord.keyed]

theorem CeilingRecord.legal_fading_iff (r : CeilingRecord) :
    r.legal true ↔
      r.keyed ∧ r.ramp ≠ none ∧ r.target = r.limit.maximum ∧ r.current < r.limit.maximum ∧ r.expiry = none := by
  unfold CeilingRecord.legal CeilingRecord.keyed
  constructor
  · rintro ⟨-, -, hk, hf⟩
    exact ⟨hk, hf rfl⟩
  · rintro ⟨hk, hramp, htarget, hcurrent, hexpiry⟩
    exact ⟨by omega, by omega, hk, fun _ => ⟨hramp, htarget, hcurrent, hexpiry⟩⟩

/-- R8: a target at or below the current value takes effect at once. -/
theorem CeilingRecord.setTarget_of_le {r : CeilingRecord} {t : Nat} (h : t ≤ r.current) :
    r.setTarget t = { r with target := t, current := t } := by
  simp [CeilingRecord.setTarget, h]

/-- R8: a target above the current value of a record with a ramp is risen to. -/
theorem CeilingRecord.setTarget_of_ramp {r : CeilingRecord} {t k : Nat} (h : r.current < t) (hk : r.ramp = some k) :
    r.setTarget t = { r with target := t } := by
  simp [CeilingRecord.setTarget, Nat.not_le.2 h, hk]

/-- R8: a target above the current value of a record with no ramp takes effect at once. -/
theorem CeilingRecord.setTarget_of_noRamp {r : CeilingRecord} {t : Nat} (hk : r.ramp = none) :
    r.setTarget t = { r with target := t, current := t } := by
  simp [CeilingRecord.setTarget, hk]

/-- R8: of a record, a new target changes the target and the current value only. -/
theorem CeilingRecord.setTarget_eq (r : CeilingRecord) (t : Nat) :
    ∃ c ≤ t, r.setTarget t = { r with target := t, current := c } := by
  by_cases hramp : r.ramp = none
  · exact ⟨t, le_rfl, CeilingRecord.setTarget_of_noRamp hramp⟩
  · obtain ⟨k, hk⟩ := Option.ne_none_iff_exists'.1 hramp
    rcases le_or_gt t r.current with hle | hlt
    · exact ⟨t, le_rfl, CeilingRecord.setTarget_of_le hle⟩
    · exact ⟨r.current, hlt.le, CeilingRecord.setTarget_of_ramp hlt hk⟩

@[simp] theorem CeilingRecord.setTarget_holder (r : CeilingRecord) (t : Nat) : (r.setTarget t).holder = r.holder := by
  obtain ⟨c, -, h⟩ := r.setTarget_eq t
  rw [h]

theorem CeilingRecord.setTarget_legal {r : CeilingRecord} {t : Nat} (hk : r.keyed) (ht : t ≤ r.limit.maximum) :
    (r.setTarget t).legal false := by
  obtain ⟨c, hc, h⟩ := r.setTarget_eq t
  rw [h]
  exact (CeilingRecord.legal_live_iff _).2 ⟨hc, ht, hk⟩

/-- R11: a retirement leaves the slot FREE or FADING toward the maximum. -/
theorem CeilingRecord.retired_of_room {r : CeilingRecord} (hr : r.ramp ≠ none) (hc : r.current < r.limit.maximum) :
    r.retired = .fading { r with target := r.limit.maximum, expiry := none } := by
  simp [CeilingRecord.retired, Option.isSome_iff_ne_none, hr, hc]

theorem CeilingRecord.retired_of_noRoom {r : CeilingRecord} (h : r.ramp = none ∨ r.limit.maximum ≤ r.current) :
    r.retired = .free := by
  rcases h with h | h <;> simp [CeilingRecord.retired, h]

theorem CeilingRecord.retired_cases (r : CeilingRecord) :
    r.retired = .free ∨
      r.ramp ≠ none ∧ r.current < r.limit.maximum ∧
        r.retired = .fading { r with target := r.limit.maximum, expiry := none } := by
  by_cases h : r.ramp ≠ none ∧ r.current < r.limit.maximum
  · exact .inr ⟨h.1, h.2, CeilingRecord.retired_of_room h.1 h.2⟩
  · exact .inl (CeilingRecord.retired_of_noRoom (by rcases not_and_or.1 h with h | h <;> simp_all))

theorem CeilingRecord.retired_heldBy {r : CeilingRecord} {g : Nat} {h : Holder} (hh : Slot.heldBy h ⟨g, r.retired⟩ = true) :
    r.holder = h := by
  rcases r.retired_cases with he | ⟨-, -, he⟩ <;> rw [he] at hh
  · exact absurd hh (by simp)
  · simpa using hh

theorem CeilingRecord.retired_legal {r : CeilingRecord} {g : Nat} (hg : g ≤ 255) (hg1 : 1 ≤ g) (hk : r.keyed) :
    Slot.legal ⟨g, r.retired⟩ := by
  rcases r.retired_cases with he | ⟨hramp, hroom, he⟩ <;> rw [he]
  · exact Slot.legal_free hg
  · exact Slot.legal_fading.2 ⟨hg, hg1, (CeilingRecord.legal_fading_iff _).2 ⟨hk, hramp, rfl, hroom, rfl⟩⟩

theorem nextGen_range {g : Nat} (h : g ≤ 255) : nextGen g ≤ 255 ∧ 1 ≤ nextGen g := by
  unfold nextGen
  split <;> omega

end Sys2Proof.Machine

namespace Sys2Proof.Machine

/-! ### Finding a slot -/

/-- A search that succeeds finds the first element that passes. -/
theorem findIdx?_eq_some_iff_getElem? {α : Type} {p : α → Bool} {l : List α} {i : Nat} :
    l.findIdx? p = some i ↔ (∃ x, l[i]? = some x ∧ p x = true) ∧ ∀ j x, j < i → l[j]? = some x → p x = false := by
  rw [List.findIdx?_eq_some_iff_getElem]
  constructor
  · rintro ⟨hi, hp, hlow⟩
    refine ⟨⟨l[i], List.getElem?_eq_getElem hi, hp⟩, fun j x hj hx => ?_⟩
    obtain ⟨hjl, rfl⟩ := List.getElem?_eq_some_iff.1 hx
    simpa using hlow j hj
  · rintro ⟨⟨x, hx, hp⟩, hlow⟩
    obtain ⟨hi, rfl⟩ := List.getElem?_eq_some_iff.1 hx
    exact ⟨hi, hp, fun j hj => by simpa using hlow j _ hj (List.getElem?_eq_getElem (hj.trans hi))⟩

theorem getD_of_getElem? {t : List Slot} {i : Nat} {x d : Slot} (h : t[i]? = some x) : t.getD i d = x := by
  simp [List.getD_eq_getElem?_getD, h]

theorem set_of_getElem? {α : Type} {l : List α} {i : Nat} {x : α} (h : l[i]? = some x) : l.set i x = l := by
  obtain ⟨hi, rfl⟩ := List.getElem?_eq_some_iff.1 h
  exact List.set_getElem_self hi

/-! ### Placing a record (R7) -/

/-- R7: the record goes to the first FREE slot. -/
theorem placeRecord_of_free {t : List Slot} {i g : Nat} (r : CeilingRecord) (hi : t[i]? = some ⟨g, .free⟩)
    (hlow : ∀ j x, j < i → t[j]? = some x → x.entry ≠ .free) :
    placeRecord t r = (t.set i ⟨nextGen g, .live r⟩, some ⟨i, nextGen g⟩) := by
  have hfind : t.findIdx? (fun x => x.entry.isFree) = some i :=
    findIdx?_eq_some_iff_getElem?.2 ⟨⟨_, hi, rfl⟩, fun j x hj hx => by
      rw [← Bool.not_eq_true, SlotEntry.isFree_eq_true]
      exact hlow j x hj hx⟩
  simp [placeRecord, hfind, hi]

theorem placeRecord_cases (t : List Slot) (r : CeilingRecord) :
    placeRecord t r = (t, none) ∨
      ∃ i g, t[i]? = some ⟨g, .free⟩ ∧ placeRecord t r = (t.set i ⟨nextGen g, .live r⟩, some ⟨i, nextGen g⟩) := by
  cases hfind : t.findIdx? (fun x => x.entry.isFree) with
  | none => exact .inl (by simp [placeRecord, hfind])
  | some i =>
    obtain ⟨⟨⟨g, e⟩, hi, hfree⟩, hlow⟩ := findIdx?_eq_some_iff_getElem?.1 hfind
    obtain rfl : e = .free := SlotEntry.isFree_eq_true.1 hfree
    refine .inr ⟨i, g, hi, placeRecord_of_free r hi fun j x hj hx => ?_⟩
    rw [ne_eq, ← SlotEntry.isFree_eq_true, Bool.not_eq_true]
    exact hlow j x hj hx

/-- R7: a placement within the holder's quota keeps the table legal. -/
theorem placeRecord_legal {t : List Slot} {r : CeilingRecord} (ht : tableLegal t) (hr : r.legal false)
    (hroom : t.countP (Slot.heldBy r.holder) < r.holder.quota) : tableLegal (placeRecord t r).1 := by
  rcases placeRecord_cases t r with h | ⟨i, g, hi, h⟩ <;> rw [h]
  · exact ht
  · obtain ⟨hgen, -⟩ := Slot.legal_of_getElem? ht hi
    refine tableLegal_set ht hi (Slot.legal_live.2 ⟨(nextGen_range hgen).1, (nextGen_range hgen).2, hr⟩) fun h hh => .inr ?_
    obtain rfl : r.holder = h := by simpa using hh
    exact hroom

/-! ### The claims of the internal owners (R13 to R15) -/

theorem claimValue_le (k : Key) (v : Int) : claimValue k v ≤ (keyLimit k).maximum := by
  unfold claimValue hold
  omega

/-- R14: a set claim on a key with no record places one. -/
theorem claimSet_of_absent {t : List Slot} {k : Key} (v : Int) (ramp : Option Nat) (expiry : Option Expiry)
    (h : ∀ x ∈ t, x.holdsKey k = false) :
    claimSet t k v ramp expiry = (placeRecord t (claimedRecord k v ramp expiry)).1 := by
  have hfind : t.findIdx? (fun x => x.holdsKey k) = none := List.findIdx?_eq_none_iff.2 h
  simp only [claimSet, hfind]

/-- R14: a set claim on a key with a record makes it LIVE. -/
theorem claimSet_of_held {t : List Slot} {i : Nat} {x : Slot} {k : Key} {r : CeilingRecord} (v : Int) (ramp : Option Nat)
    (expiry : Option Expiry) (hi : t[i]? = some x) (hx : x.entry.held = some r) (hr : r.holder = .internal k)
    (hlow : ∀ j y, j < i → t[j]? = some y → y.holdsKey k = false) :
    claimSet t k v ramp expiry = t.set i ⟨x.gen, .live (r.reclaimed k v ramp expiry)⟩ := by
  have hfind : t.findIdx? (fun x => x.holdsKey k) = some i :=
    findIdx?_eq_some_iff_getElem?.2 ⟨⟨x, hi, by simp [Slot.holdsKey, hx, hr]⟩, hlow⟩
  simp only [claimSet, hfind, getD_of_getElem? hi, hx]

/-- R15: a retire claim on a key with no record does nothing. -/
theorem claimRetire_of_absent {t : List Slot} {k : Key} (ramp : Option Nat) (h : ∀ x ∈ t, x.holdsKey k = false) :
    claimRetire t k ramp = t := by
  have hfind : t.findIdx? (fun x => x.holdsKey k) = none := List.findIdx?_eq_none_iff.2 h
  simp only [claimRetire, hfind]

theorem claimRetire_of_held {t : List Slot} {i : Nat} {x : Slot} {k : Key} (ramp : Option Nat) (hi : t[i]? = some x)
    (hx : x.holdsKey k = true) (hlow : ∀ j y, j < i → t[j]? = some y → y.holdsKey k = false) :
    claimRetire t k ramp = t.set i (x.retireWith ramp) := by
  have hfind : t.findIdx? (fun x => x.holdsKey k) = some i := findIdx?_eq_some_iff_getElem?.2 ⟨⟨x, hi, hx⟩, hlow⟩
  simp only [claimRetire, hfind, getD_of_getElem? hi]

/-- The first slot that holds a key's record, where the table has one. -/
theorem first_of_key (t : List Slot) (k : Key) :
    (∀ x ∈ t, x.holdsKey k = false) ∨
      ∃ (i : Nat) (x : Slot), t[i]? = some x ∧ x.holdsKey k = true ∧
        ∀ (j : Nat) (y : Slot), j < i → t[j]? = some y → y.holdsKey k = false := by
  cases hfind : t.findIdx? (fun x => x.holdsKey k) with
  | none => exact .inl (List.findIdx?_eq_none_iff.1 hfind)
  | some i =>
    obtain ⟨⟨x, hi, hx⟩, hlow⟩ := findIdx?_eq_some_iff_getElem?.1 hfind
    exact .inr ⟨i, x, hi, hx, hlow⟩

/-- R14: what a set claim can do to the table. -/
theorem claimSet_cases (t : List Slot) (k : Key) (v : Int) (ramp : Option Nat) (expiry : Option Expiry) :
    (∀ x ∈ t, x.holdsKey k = false) ∧
        claimSet t k v ramp expiry = (placeRecord t (claimedRecord k v ramp expiry)).1 ∨
      ∃ i x r, t[i]? = some x ∧ x.entry.held = some r ∧ r.holder = .internal k ∧
        claimSet t k v ramp expiry = t.set i ⟨x.gen, .live (r.reclaimed k v ramp expiry)⟩ := by
  rcases first_of_key t k with h | ⟨i, x, hi, hx, hlow⟩
  · exact .inl ⟨h, claimSet_of_absent v ramp expiry h⟩
  · obtain ⟨r, hr, hk⟩ := Slot.heldBy_iff.1 (x.holdsKey_eq_heldBy k ▸ hx)
    exact .inr ⟨i, x, r, hi, hr, hk, claimSet_of_held v ramp expiry hi hr hk hlow⟩

/-- R15: what a retire claim can do to the table. -/
theorem claimRetire_cases (t : List Slot) (k : Key) (ramp : Option Nat) :
    claimRetire t k ramp = t ∨
      ∃ i x, t[i]? = some x ∧ x.holdsKey k = true ∧ claimRetire t k ramp = t.set i (x.retireWith ramp) := by
  rcases first_of_key t k with h | ⟨i, x, hi, hx, hlow⟩
  · exact .inl (claimRetire_of_absent ramp h)
  · exact .inr ⟨i, x, hi, hx, claimRetire_of_held ramp hi hx hlow⟩

@[simp] theorem CeilingRecord.reclaimed_holder (r : CeilingRecord) (k : Key) (v : Int) (ramp : Option Nat)
    (expiry : Option Expiry) : (r.reclaimed k v ramp expiry).holder = r.holder :=
  CeilingRecord.setTarget_holder _ _

theorem claimedRecord_keyed (k : Key) (v : Int) (ramp : Option Nat) (expiry : Option Expiry) :
    (claimedRecord k v ramp expiry).keyed := by
  rintro j h
  cases h
  exact ⟨rfl, rfl, rfl⟩

/-- R14: a set claim keeps the table legal. -/
theorem claimSet_legal {t : List Slot} (ht : tableLegal t) (k : Key) (v : Int) (ramp : Option Nat)
    (expiry : Option Expiry) : tableLegal (claimSet t k v ramp expiry) := by
  rcases claimSet_cases t k v ramp expiry with ⟨habsent, h⟩ | ⟨i, x, r, hi, hx, hk, h⟩ <;> rw [h]
  · refine placeRecord_legal ht ((CeilingRecord.legal_live_iff _).2
      ⟨le_rfl, claimValue_le k v, claimedRecord_keyed k v ramp expiry⟩) ?_
    have hnone : t.countP (Slot.heldBy (.internal k)) = 0 :=
      List.countP_eq_zero.2 fun x hx => by simp [← Slot.holdsKey_eq_heldBy, habsent x hx]
    exact hnone ▸ Nat.one_pos
  · obtain ⟨hgen, hrec⟩ := (Slot.legal_iff x).1 (Slot.legal_of_getElem? ht hi)
    obtain ⟨hgen1, -, -, hkeyed, -⟩ := hrec r hx
    have hvalue : claimValue k v ≤ r.limit.maximum := (hkeyed k hk).1 ▸ claimValue_le k v
    refine tableLegal_set ht hi
      (Slot.legal_live.2 ⟨hgen, hgen1, CeilingRecord.setTarget_legal (fun j hj => hkeyed j hj) hvalue⟩) fun h hh => .inl ?_
    exact Slot.heldBy_iff.2 ⟨r, hx, by simpa using hh⟩

theorem Slot.retireWith_heldBy {x : Slot} {ramp : Option Nat} {h : Holder} (hh : (x.retireWith ramp).heldBy h = true) :
    x.heldBy h = true := by
  obtain ⟨g, e⟩ := x
  cases e with
  | live r =>
    have hr : r.holder = h :=
      CeilingRecord.retired_heldBy (r := { r with ramp := ramp.orElse fun _ => r.ramp }) hh
    simp [hr]
  | free => exact hh
  | fading r => exact hh

theorem Slot.retireWith_legal {x : Slot} (ramp : Option Nat) (hx : x.legal) : (x.retireWith ramp).legal := by
  obtain ⟨g, e⟩ := x
  cases e with
  | live r =>
    obtain ⟨hg, hg1, -, -, hkeyed, -⟩ := hx
    exact CeilingRecord.retired_legal hg hg1 hkeyed
  | free => exact hx
  | fading r => exact hx

/-- R15: a retire claim keeps the table legal. -/
theorem claimRetire_legal {t : List Slot} (ht : tableLegal t) (k : Key) (ramp : Option Nat) :
    tableLegal (claimRetire t k ramp) := by
  rcases claimRetire_cases t k ramp with h | ⟨i, x, hi, -, h⟩ <;> rw [h]
  · exact ht
  · exact tableLegal_set ht hi (Slot.retireWith_legal ramp (Slot.legal_of_getElem? ht hi)) fun h hh =>
      .inl (Slot.retireWith_heldBy hh)

/-! ### A supervisor's records in passing (R13) -/

/-- Every slot that keeps a supervisor's record in `t` is as it was in `u`. -/
def supervisorStands (t u : List Slot) : Prop :=
  ∀ (i : Nat) (x : Slot), t[i]? = some x → x.heldBy .supervisor = true → u[i]? = some x

theorem supervisorStands_set {t : List Slot} {i : Nat} {x : Slot} (y : Slot) (hi : t[i]? = some x)
    (hx : x.heldBy .supervisor = false) : supervisorStands t (t.set i y) := by
  intro j z hz hsup
  have hne : i ≠ j := by
    rintro rfl
    rw [Option.some.inj (hi.symm.trans hz), hsup] at hx
    exact Bool.noConfusion hx
  rw [List.getElem?_set_ne hne, hz]

theorem supervisorStands_place (t : List Slot) (r : CeilingRecord) : supervisorStands t (placeRecord t r).1 := by
  rcases placeRecord_cases t r with h | ⟨i, g, hi, h⟩ <;> rw [h]
  · exact fun i x hx _ => hx
  · exact supervisorStands_set _ hi rfl

/-- A slot that holds a key's record holds none of the supervisor's. -/
theorem Slot.not_supervisor_of_holdsKey {x : Slot} {k : Key} (h : x.holdsKey k = true) : x.heldBy .supervisor = false := by
  rw [← Bool.not_eq_true]
  intro hs
  exact Holder.noConfusion (Slot.heldBy_unique hs (x.holdsKey_eq_heldBy k ▸ h))

theorem supervisorStands_claimSet (t : List Slot) (k : Key) (v : Int) (ramp : Option Nat) (expiry : Option Expiry) :
    supervisorStands t (claimSet t k v ramp expiry) := by
  rcases claimSet_cases t k v ramp expiry with ⟨-, h⟩ | ⟨i, x, r, hi, hx, hk, h⟩ <;> rw [h]
  · exact supervisorStands_place t _
  · refine supervisorStands_set _ hi (Slot.not_supervisor_of_holdsKey (k := k) ?_)
    exact x.holdsKey_eq_heldBy k ▸ Slot.heldBy_iff.2 ⟨r, hx, hk⟩

theorem supervisorStands_claimRetire (t : List Slot) (k : Key) (ramp : Option Nat) :
    supervisorStands t (claimRetire t k ramp) := by
  rcases claimRetire_cases t k ramp with h | ⟨i, x, hi, hx, h⟩ <;> rw [h]
  · exact fun i x hx _ => hx
  · exact supervisorStands_set _ hi (Slot.not_supervisor_of_holdsKey hx)

/-! ### Claims in turn -/

/-- R14, R15: one set or retire claim of an internal owner on the table. -/
inductive ClaimStep : List Slot → List Slot → Prop where
  | set (t : List Slot) (k : Key) (v : Int) (ramp : Option Nat) (expiry : Option Expiry) :
    ClaimStep t (claimSet t k v ramp expiry)
  | retire (t : List Slot) (k : Key) (ramp : Option Nat) : ClaimStep t (claimRetire t k ramp)

/-- The table after any number of claims in turn. -/
def Claimed : List Slot → List Slot → Prop := Relation.ReflTransGen ClaimStep

/-- R3 to R6: the internal owners' claims keep the table legal. -/
theorem Claimed.legal {t u : List Slot} (h : Claimed t u) (ht : tableLegal t) : tableLegal u := by
  induction h with
  | refl => exact ht
  | tail _ hstep ih =>
    cases hstep with
    | set k v ramp expiry => exact claimSet_legal ih k v ramp expiry
    | retire k ramp => exact claimRetire_legal ih k ramp

/-- R13: the internal owners' claims leave every supervisor's record. -/
theorem Claimed.supervisorStands {t u : List Slot} (h : Claimed t u) : supervisorStands t u := by
  induction h with
  | refl => exact fun i x hx _ => hx
  | tail _ hstep ih =>
    intro i x hx hsup
    cases hstep with
    | set k v ramp expiry => exact supervisorStands_claimSet _ k v ramp expiry i x (ih i x hx hsup) hsup
    | retire k ramp => exact supervisorStands_claimRetire _ k ramp i x (ih i x hx hsup) hsup

end Sys2Proof.Machine

namespace Sys2Proof.Machine

/-! ### The blocks an operation acts on -/

/-- From `s` to `t` no block but those listed changes, and the ceiling table changes by claims of the internal owners
only. -/
structure ActsOn (bs : List Block) (s t : State) : Prop where
  blocks : ∀ b, b ∉ bs → sameBlock b s t
  table : Claimed s.ct t.ct

/-- Every block of one list is in another. -/
def blocksWithin (cs bs : List Block) : Bool := cs.all bs.contains

theorem mem_of_blocksWithin {cs bs : List Block} (h : blocksWithin cs bs = true) {b : Block} (hb : b ∈ cs) : b ∈ bs := by
  simpa using List.all_eq_true.1 h b hb

variable {bs cs : List Block} {s t u : State}

theorem sameBlock_refl (b : Block) (s : State) : sameBlock b s s := by cases b <;> rfl

theorem sameBlock.trans {b : Block} (h : sameBlock b s t) (h' : sameBlock b t u) : sameBlock b s u := by
  cases b <;> exact Eq.trans h' h

theorem ActsOn.refl : ActsOn [] s s := ⟨fun b _ => sameBlock_refl b s, .refl⟩

theorem ActsOn.mono (h : ActsOn bs s t) (hsub : ∀ b ∈ bs, b ∈ cs) : ActsOn cs s t :=
  ⟨fun b hb => h.blocks b fun hb' => hb (hsub b hb'), h.table⟩

/-- The listed blocks may be read off a longer list. -/
theorem ActsOn.within (h : ActsOn bs s t) (hsub : blocksWithin bs cs = true) : ActsOn cs s t :=
  h.mono fun _ hb => mem_of_blocksWithin hsub hb

/-- One operation after another. -/
theorem ActsOn.andThen (h : ActsOn bs s t) (h' : ActsOn cs t u) : ActsOn (bs ++ cs) s u where
  blocks b hb := by
    rw [List.mem_append, not_or] at hb
    exact (h.blocks b hb.1).trans (h'.blocks b hb.2)
  table := h.table.trans h'.table

/-- One operation or another. -/
theorem ActsOn.ite {p : Prop} [Decidable p] (h : ActsOn bs s t) (h' : ActsOn cs s u) :
    ActsOn (bs ++ cs) s (if p then t else u) := by
  split
  · exact h.mono fun _ hb => List.mem_append_left _ hb
  · exact h'.mono fun _ hb => List.mem_append_right _ hb

/-- An operation that leaves the ceiling table acts on the blocks whose state it changes. -/
theorem ActsOn.of_blocks (h : ∀ b, b ∉ bs → sameBlock b s t) (hct : t.ct = s.ct) : ActsOn bs s t :=
  ⟨h, hct ▸ .refl⟩

theorem ActsOn.of_only {b : Block} (h : ∀ c, c ≠ b → sameBlock c s t) (hct : t.ct = s.ct) : ActsOn [b] s t :=
  .of_blocks (fun c hc => h c (by simpa using hc)) hct

/-- One operation for each element of a list in turn. -/
theorem ActsOn.foldl {α : Type} {f : State → α → State} (h : ∀ s a, ActsOn bs s (f s a)) (l : List α) (s : State) :
    ActsOn bs s (l.foldl f s) := by
  induction l generalizing s with
  | nil => exact ActsOn.refl.mono fun _ hb => absurd hb List.not_mem_nil
  | cons a l ih => exact ((h s a).andThen (ih (f s a))).mono fun _ hb => (List.mem_append.1 hb).elim id id

/-! ### Block updates -/

theorem State.withTa_acts (s : State) (x : Ta) : ActsOn [.ta] s (s.withTa x) :=
  .of_only (fun b hb => by cases b <;> first | rfl | exact absurd rfl hb) rfl

theorem State.withSm_acts (s : State) (x : PerStation StationCtx) : ActsOn [.sm] s (s.withSm x) :=
  .of_only (fun b hb => by cases b <;> first | rfl | exact absurd rfl hb) rfl

theorem State.withGd_acts (s : State) (x : Gd) : ActsOn [.gd] s (s.withGd x) :=
  .of_only (fun b hb => by cases b <;> first | rfl | exact absurd rfl hb) rfl

theorem State.withRs_acts (s : State) (x : Rs) : ActsOn [.rs] s (s.withRs x) :=
  .of_only (fun b hb => by cases b <;> first | rfl | exact absurd rfl hb) rfl

theorem State.withDg_acts (s : State) (x : Dg) : ActsOn [.dg] s (s.withDg x) :=
  .of_only (fun b hb => by cases b <;> first | rfl | exact absurd rfl hb) rfl

theorem State.withSc_acts (s : State) (x : Sc) : ActsOn [.sc] s (s.withSc x) :=
  .of_only (fun b hb => by cases b <;> first | rfl | exact absurd rfl hb) rfl

theorem State.withPm_acts (s : State) (x : Pm) : ActsOn [.pm] s (s.withPm x) :=
  .of_only (fun b hb => by cases b <;> first | rfl | exact absurd rfl hb) rfl

theorem State.withPu_acts (s : State) (x : Pu) : ActsOn [.pu] s (s.withPu x) :=
  .of_only (fun b hb => by cases b <;> first | rfl | exact absurd rfl hb) rfl

theorem State.withSl_acts (s : State) (x : Sl) : ActsOn [.sl] s (s.withSl x) :=
  .of_only (fun b hb => by cases b <;> first | rfl | exact absurd rfl hb) rfl

theorem State.withFree_acts (s : State) (x : Nat) : ActsOn [] s (s.withFree x) :=
  .of_blocks (fun b _ => by cases b <;> rfl) rfl

theorem State.withHanded_acts (s : State) (x : List Instr) : ActsOn [] s (s.withHanded x) :=
  .of_blocks (fun b _ => by cases b <;> rfl) rfl

theorem State.claim_acts (s : State) (k : Key) (v : Int) (ramp : Option Nat) (expiry : Option Expiry) :
    ActsOn [.ct] s (s.claim k v ramp expiry) :=
  ⟨fun b hb => by cases b <;> first | rfl | exact absurd (List.mem_singleton_self _) hb, .single (.set ..)⟩

theorem State.release_acts (s : State) (k : Key) (ramp : Option Nat) : ActsOn [.ct] s (s.release k ramp) :=
  ⟨fun b hb => by cases b <;> first | rfl | exact absurd (List.mem_singleton_self _) hb, .single (.retire ..)⟩

/-! ### The shared operations -/

variable (s : State)

theorem State.hand_acts (i : Instr) : ActsOn [] s (s.hand i) := s.withHanded_acts _

theorem State.notify_acts (k : Notice) : ActsOn [.sl] s (s.notify k) := s.withSl_acts _

theorem State.notifyTrip_acts (n : Station) : ActsOn [.sl] s (s.notifyTrip n) := s.withSl_acts _

theorem State.reply_acts (q : Option Req) (a : Answer) : ActsOn [.sl] s (s.reply q a) := s.withSl_acts _

theorem State.takeFrame_acts : ActsOn [.sl] s s.takeFrame := s.withSl_acts _

theorem State.discardFrame_acts : ActsOn [.sl] s s.discardFrame := s.withSl_acts _

theorem State.setStation_acts (n : Station) (x : StationCtx) : ActsOn [.sm] s (s.setStation n x) := s.withSm_acts _

theorem State.setPuStation_acts (n : Station) (x : PuStation) : ActsOn [.pu] s (s.setPuStation n x) := s.withPu_acts _

theorem State.endsEvent_acts (c : HandedClass) : ActsOn [.pu] s (s.endsEvent c) := s.withPu_acts _

theorem State.safeStop_acts : ActsOn [.ct, .pu, .sl] s s.safeStop :=
  .within (.ite (((s.claim_acts ..).andThen (State.withPu_acts ..)).andThen (State.notify_acts ..)) .refl) rfl

theorem State.truckBegins_acts (c : TruckClass) : ActsOn [.ct, .pu, .sl] s (s.truckBegins c) := by
  have hmark : ActsOn [.pu] s
      (s.withPu { s.pu with conds := s.pu.conds.put c true, flags := s.pu.flags.put c true }) := s.withPu_acts _
  have hstop {u : State} (hu : ActsOn [.pu, .sl] s u) :
      ActsOn [.ct, .pu, .sl] s (if u.pu.masks.stops c then u.safeStop else u) :=
    .within (.ite (hu.andThen u.safeStop_acts) hu) rfl
  unfold State.truckBegins
  split
  · exact hstop (hmark.andThen (State.notify_acts ..))
  · exact hstop (hmark.andThen (State.notify_acts ..))
  · exact hstop (hmark.within rfl)

theorem State.beginsEvent_acts (c : HandedClass) : ActsOn [.ct, .pu, .sl] s (s.beginsEvent c) :=
  .ite .refl (s.truckBegins_acts _)

theorem State.handCondition_acts (c : HandedClass) (was now : Bool) : ActsOn [] s (s.handCondition c was now) :=
  .ite (s.hand_acts _) (.ite (s.hand_acts _) .refl)

theorem State.takeCondition_acts (c : HandedClass) (was now : Bool) : ActsOn [.pu] s (s.takeCondition c was now) :=
  .ite (s.hand_acts _) (.ite (s.endsEvent_acts _) .refl)

theorem State.sendDisable_acts (n : Station) : ActsOn [.sm] s (s.sendDisable n) :=
  (s.setStation_acts ..).andThen (State.withFree_acts ..)

theorem State.enter_acts (n : Station) (st : StationState) : ActsOn [.sm, .pu] s (s.enter n st) :=
  (s.setStation_acts ..).andThen (State.setPuStation_acts ..)

theorem State.ceaseJudging_acts (n : Station) : ActsOn [.ct, .pu] s (s.ceaseJudging n) :=
  .within (((((s.release_acts ..).andThen (State.release_acts ..)).andThen (State.release_acts ..)).andThen
    (State.release_acts ..)).andThen (State.setPuStation_acts ..)) rfl

theorem State.answerPark_acts (n : Station) (a : Answer) : ActsOn [.sl] s (s.answerPark n a) :=
  .within (.ite ((s.withSl_acts _).andThen (State.reply_acts ..)) .refl) rfl

theorem State.completePark_acts (n : Station) (c : ReplyClass) (d : Option Detail) :
    ActsOn [.ct, .sm, .pu, .sl] s (s.completePark n c d) :=
  .within (((((s.setStation_acts ..).andThen (State.enter_acts ..)).andThen (State.ceaseJudging_acts ..)).andThen
    (State.sendDisable_acts ..)).andThen (State.answerPark_acts ..)) rfl

theorem State.trip_acts (n : Station) : ActsOn [.sm, .pu] s (s.trip n) :=
  .within ((s.enter_acts ..).andThen (State.sendDisable_acts ..)) rfl

theorem State.takeRaise_acts (n : Station) (c : StationClass) (trips : Bool) :
    ActsOn [.ct, .sm, .pu, .sl] s (s.takeRaise n c trips) := by
  unfold State.takeRaise
  extract_lets x upgraded t u
  have ht : ActsOn [.sm] s t := s.setStation_acts ..
  have hu : ActsOn [.sm, .sl] s u := .within (.ite (ht.andThen (State.notifyTrip_acts ..)) ht) rfl
  refine .within (.ite (s.setStation_acts ..) (.ite (bs := [.ct, .sm, .pu, .sl]) ?_ hu)) rfl
  split
  · exact .within (hu.andThen (State.trip_acts ..)) rfl
  · exact .within (hu.andThen (State.trip_acts ..)) rfl
  · exact .within (hu.andThen (State.trip_acts ..)) rfl
  · exact .within (hu.andThen (State.completePark_acts ..)) rfl
  · exact hu.within rfl

theorem State.takeClear_acts (n : Station) (f : StationFlags) : ActsOn [.sm, .pu] s (s.takeClear n f) :=
  .within (.ite ((s.setStation_acts ..).andThen (State.enter_acts ..)) (s.setStation_acts ..)) rfl

/-! ### Requests -/

/-- R2: what a request's effects act on, whether its checks pass or not. -/
theorem checked_acts {l : List (Bool × Answer)} {ok : State × Answer} (h : ActsOn bs s ok.1) :
    ActsOn bs s (checked s l ok).1 := by
  rcases checked_state s l ok with h' | h' <;> rw [h']
  · exact ActsOn.refl.mono fun _ hb => absurd hb List.not_mem_nil
  · exact h

/-- R193, R195: a request acts on the link and on what its body acts on. -/
theorem request_acts (q : Req) {body : State → State × Answer} (h : ∀ t, ActsOn bs t (body t).1) :
    ActsOn (.sl :: bs) s (request q body s) := by
  refine ActsOn.mono (.ite s.discardFrame_acts ((s.takeFrame_acts.andThen (h _)).andThen (State.reply_acts ..))) ?_
  grind

/-- R195: a request that may stay in flight acts on the link and on what its acceptance acts on. -/
theorem longRequest_acts (q : Req) (m : InFlight) (c : State → List (Bool × Answer)) {f : State → State}
    (h : ∀ t, ActsOn bs t (f t)) : ActsOn (.sl :: bs) s (longRequest q m c f s) := by
  unfold longRequest
  split
  · exact s.discardFrame_acts.mono (by simp)
  · dsimp only
    split
    · exact (s.takeFrame_acts.andThen (State.reply_acts ..)).mono (by simp)
    · exact ((s.takeFrame_acts.andThen (State.withSl_acts ..)).andThen (h _)).mono (by simp)

/-- A request that only reads acts on the link alone. -/
theorem reading_acts (q : Req) (p : State → List Byte) : ActsOn [.sl] s (request q (reading p) s) :=
  request_acts s q fun _ => .refl

end Sys2Proof.Machine

namespace Sys2Proof.Machine

variable (s : State)

/-! ### The grid dispatcher (04) -/

theorem State.setBank_acts (k : Bank) (b : BankRec) : ActsOn [.gd] s (s.setBank k b) := s.withGd_acts _

theorem State.publishGrid_acts : ActsOn [.gd] s s.publishGrid := s.withGd_acts _

theorem State.evalGrid_acts : ActsOn [.ct, .gd] s s.evalGrid :=
  .within (.ite (.ite ((s.withGd_acts _).andThen (State.claim_acts ..)) .refl)
    (.ite ((s.withGd_acts _).andThen (State.release_acts ..)) .refl)) rfl

/-- R87: GF tested, its events handed to PU. -/
theorem State.testGf_later_acts : ActsOn [.gd] s (s.testGf false) :=
  (s.withGd_acts _).andThen (State.handCondition_acts ..)

/-- R187: GF tested, its ends event taken by PU at once. -/
theorem State.testGf_atOnce_acts : ActsOn [.gd, .pu] s (s.testGf true) :=
  (s.withGd_acts _).andThen (State.takeCondition_acts ..)

theorem State.testGt_acts : ActsOn [.gd] s s.testGt :=
  (s.withGd_acts _).andThen (State.handCondition_acts ..)

theorem State.startCheck_acts (k : Bank) : ActsOn [.ct, .gd] s (s.startCheck k) :=
  .within ((((s.setBank_acts ..).andThen (State.withGd_acts ..)).andThen (State.evalGrid_acts _)).andThen
    (State.publishGrid_acts _)) rfl

theorem State.gridClear_acts : ActsOn [.ct, .gd, .pu] s s.gridClear.1 := by
  have hcheck (c : Bool) (k : Bank) {t : State} (h : ActsOn [.ct, .gd] s t) :
      ActsOn [.ct, .gd] s (if c then t.startCheck k else t) := .within (.ite (h.andThen (State.startCheck_acts ..)) h) rfl
  exact .within ((hcheck _ .b (hcheck _ .a ((s.withGd_acts _).within rfl))).andThen (State.testGf_atOnce_acts _)) rfl

theorem State.answerArm_acts (ta : TaState) (a : Answer) : ActsOn [.ta, .sl] s (s.answerArm ta a) :=
  .within (((s.withTa_acts _).andThen (State.withSl_acts ..)).andThen (State.reply_acts ..)) rfl

theorem State.checkCompletion_acts : ActsOn [.ta, .sl] s s.checkCompletion := by
  refine .within (.ite (bs := [.ta, .sl]) ?_ .refl) rfl
  dsimp only
  split
  · exact s.answerArm_acts ..
  · exact (s.hand_acts _).andThen (State.answerArm_acts ..)

theorem State.endCheck_acts (k : Bank) (st : BankState) : ActsOn [.ct, .ta, .gd, .sl] s (s.endCheck k st) :=
  .within ((((((s.setBank_acts ..).andThen (State.withGd_acts ..)).andThen (State.evalGrid_acts _)).andThen
    (State.testGf_later_acts _)).andThen (State.publishGrid_acts _)).andThen (State.checkCompletion_acts _)) rfl

theorem State.countOverVoltage_acts (v : Nat) : ActsOn [.ct, .gd] s (s.countOverVoltage v) := by
  unfold State.countOverVoltage
  dsimp only
  refine .within (.ite (bs := [.ct, .gd]) ?_ (.ite (bs := [.gd, .ct]) ?_ (s.withGd_acts _))) rfl
  · split
    · exact (s.withGd_acts _).within rfl
    · exact .within (((s.withGd_acts _).andThen (State.claim_acts ..)).andThen (State.hand_acts ..)) rfl
    · exact .within ((s.withGd_acts _).andThen (State.claim_acts ..)) rfl
  · exact ((s.withGd_acts _).andThen (State.release_acts ..)).andThen (State.hand_acts ..)

theorem State.dispatchPower_acts (p : Nat) : ActsOn [.gd] s (s.dispatchPower p) :=
  .within (.ite ((s.withGd_acts _).andThen (State.publishGrid_acts _)) (s.withGd_acts _)) rfl

theorem State.bankTimer_acts (k : Bank) (x : GridPorts) : ActsOn [.gd] s (s.bankTimer k x) :=
  .within (((s.setBank_acts ..).andThen (State.withGd_acts ..)).andThen (State.testGf_later_acts _)) rfl

theorem bankOrderBody_acts (code : Nat) : ActsOn [.gd] s (bankOrderBody code s).1 := by
  unfold bankOrderBody
  split
  · exact ActsOn.refl.within rfl
  · exact s.withGd_acts _

/-! ### The station manager (03) -/

theorem State.catchUp_acts (n : Station) (h : GrantHand) : ActsOn [.sm, .pu] s (s.catchUp n h) :=
  .ite (s.enter_acts ..) .refl

theorem State.handover_acts (n : Station) (h : GrantHand) (travel : Travel) :
    ActsOn [.sm, .pu] s (s.handover n h travel) :=
  .within ((s.catchUp_acts n h).andThen (State.setStation_acts ..)) rfl

theorem State.armStation_acts (n : Station) : ActsOn [.sm, .pu] s (s.armStation n) := .ite (s.enter_acts ..) .refl

theorem State.disarmStations_acts : ActsOn [.sm, .pu] s s.disarmStations :=
  .foldl (fun t n => .ite (t.enter_acts n .standby) .refl) _ s

theorem State.handReport_acts (n : Station) (r : Report) : ActsOn [] s (s.handReport n r) := s.hand_acts _

theorem State.takeReport_acts (n : Station) (r : Report) : ActsOn [.ct, .sm, .pu, .sl] s (s.takeReport n r) := by
  unfold State.takeReport
  extract_lets x t
  have ht : ActsOn [.sm] s t := s.setStation_acts ..
  have hreport : ActsOn [.sm] s (t.handReport n r) := ht.andThen (State.handReport_acts ..)
  split
  · exact .within (.ite ((ht.andThen (State.enter_acts ..)).andThen (State.handReport_acts ..)) ht) rfl
  · exact ht.within rfl
  · exact .within (.ite (hreport.andThen (State.completePark_acts ..)) hreport) rfl
  all_goals exact hreport.within rfl

theorem State.beginPark_acts (n : Station) : ActsOn [.sm, .pu] s (s.beginPark n) :=
  .within ((s.setStation_acts ..).andThen (State.enter_acts ..)) rfl

theorem State.cancelPark_acts (n : Station) : ActsOn [.sm, .pu, .sl] s (s.cancelPark n) :=
  .within (((s.setStation_acts ..).andThen (State.enter_acts ..)).andThen (State.answerPark_acts ..)) rfl

theorem State.restore_acts (n : Station) : ActsOn [.sm, .pu] s (s.restore n) :=
  .within ((s.setStation_acts ..).andThen (State.enter_acts ..)) rfl

theorem restoreBody_acts (n : Nat) : ActsOn [.sm, .pu] s (restoreBody n s).1 := by
  refine checked_acts s ?_
  split
  · exact s.restore_acts _
  · exact ActsOn.refl.within rfl

theorem rearmBody_acts (n : Nat) : ActsOn [.sm, .pu] s (rearmBody n s).1 := by
  refine checked_acts s ?_
  split
  · exact s.enter_acts ..
  · exact ActsOn.refl.within rfl

theorem readStationBody_acts (n : Nat) : ActsOn [] s (readStationBody n s).1 := by
  unfold readStationBody
  split <;> exact .refl

theorem writeParkedBody_acts (r : WriteReq) : ActsOn [.sm] s (writeParkedBody r s).1 := by
  refine checked_acts s ?_
  split
  · exact s.setStation_acts ..
  · exact ActsOn.refl.within rfl

/-! ### The torque allocator (02) -/

theorem State.tickTimers_acts : ActsOn [.sm, .gd] s s.tickTimers :=
  (s.withSm_acts _).andThen (State.withGd_acts ..)

theorem State.beginArm_acts : ActsOn [.ct, .ta, .gd] s s.beginArm :=
  .within ((((s.withTa_acts _).andThen (State.startCheck_acts ..)).andThen (State.startCheck_acts ..)).andThen
    (State.testGf_later_acts _)) rfl

theorem disarmBody_acts : ActsOn [.ta, .sm, .pu] s (disarmBody s).1 := by
  unfold disarmBody
  exact checked_acts s ((s.withTa_acts _).andThen (State.disarmStations_acts _))

/-! ### The route sequencer (05) -/

theorem State.leaveHold_acts (cause : HoldCause) : ActsOn [] s (s.leaveHold cause) := by
  unfold State.leaveHold
  split
  · exact (s.hand_acts _).andThen (State.hand_acts ..)
  · exact .refl

theorem State.routeFault_acts (cause : RouteFault) : ActsOn [.rs] s (s.routeFault cause) :=
  (s.withRs_acts _).andThen (State.hand_acts ..)

theorem State.resolveRoute_acts : ActsOn [.rs, .sl] s s.resolveRoute := by
  unfold State.resolveRoute
  extract_lets r rs t u
  have ht : ActsOn [.rs] s t := s.withRs_acts _
  have hu : ActsOn [.rs, .sl] s u := .within (.ite ((ht.andThen (State.notify_acts ..)).andThen (State.hand_acts ..)) ht) rfl
  split
  · exact .within (hu.andThen (State.withRs_acts ..)) rfl
  · exact .within ((((hu.andThen (State.withRs_acts ..)).andThen (State.notify_acts ..)).andThen (State.hand_acts ..)).andThen
      (State.hand_acts ..)) rfl
  · exact .within ((hu.andThen (State.withRs_acts ..)).andThen (State.notify_acts ..)) rfl
  · exact .within (hu.andThen (State.routeFault_acts ..)) rfl

theorem State.rollover_acts : ActsOn [.rs, .sl] s s.rollover := by
  have hroll : ActsOn [.rs] s (s.withRs { s.rs with pos := s.rs.pos.rollover s.rs.store }) := s.withRs_acts _
  exact .within (ActsOn.andThen (.ite ((hroll.andThen (State.notify_acts ..)).andThen (State.hand_acts ..)) hroll)
    (State.resolveRoute_acts _)) rfl

theorem State.endRouteFault_acts : ActsOn [] s s.endRouteFault := .ite (s.hand_acts _) .refl

theorem State.startRoute_acts (g first offset : Nat) : ActsOn [.rs, .sl] s (s.startRoute g first offset) :=
  .within ((((((s.leaveHold_acts _).andThen (State.endRouteFault_acts _)).andThen (State.withRs_acts ..)).andThen
    (State.resolveRoute_acts _)).andThen (State.withRs_acts ..)).andThen (State.hand_acts ..)) rfl

theorem State.stopRoute_acts : ActsOn [.rs] s s.stopRoute :=
  (((s.leaveHold_acts _).andThen (State.endRouteFault_acts _)).andThen (State.withRs_acts ..)).andThen
    (State.hand_acts ..)

theorem State.abortDetour_acts : ActsOn [.rs, .sl] s s.abortDetour := by
  unfold State.abortDetour
  split
  · exact .within ((((s.leaveHold_acts _).andThen (State.withRs_acts ..)).andThen (State.resolveRoute_acts _)).andThen
      (State.withRs_acts ..)) rfl
  · exact (s.withRs_acts _).within rfl

theorem profileWriteBody_acts (g : Nat) (ws : List (BitVec 40)) (x : Group) :
    ActsOn [.rs] s (profileWriteBody g ws x s).1 := by
  unfold profileWriteBody
  split
  · exact ActsOn.refl.within rfl
  · split
    · exact ActsOn.refl.within rfl
    · exact (s.withRs_acts _).andThen (State.hand_acts ..)

/-- R100: a metre event forward, at RS. -/
theorem forwardMetre_acts {t : State} (h : exec .forwardMetreEvent s = .next t) : ActsOn [.rs, .sl] s t := by
  obtain rfl := Host.Outcome.next.inj h
  have hmetre : ActsOn [.rs] s (s.withRs s.rs.advanced) := s.withRs_acts _
  exact .within (.ite (.ite (s.withRs_acts _) (.ite .refl
    (.ite ((ActsOn.ite (hmetre.andThen (State.notify_acts ..)) hmetre).andThen (State.rollover_acts _)) hmetre))) .refl) rfl

/-- R101: a metre event in reverse, at RS. -/
theorem reverseMetre_acts {t : State} (h : exec .reverseMetreEvent s = .next t) : ActsOn [.rs] s t := by
  obtain rfl := Host.Outcome.next.inj h
  have hdebt : ActsOn [.rs] s (s.withRs { s.rs with debt := min 255 (s.rs.debt + 1) }) := s.withRs_acts _
  exact .within
    (.ite (.ite ((hdebt.andThen (State.leaveHold_acts ..)).andThen (State.routeFault_acts ..)) hdebt) .refl) rfl

end Sys2Proof.Machine

namespace Sys2Proof.Machine

variable (s : State)

/-! ### The descent governor (06) -/

theorem State.governorStandsDown_acts : ActsOn [.ct, .dg] s s.governorStandsDown :=
  .within (((s.release_acts ..).andThen (State.release_acts ..)).andThen (State.withDg_acts ..)) rfl

theorem State.claimTarget_acts (v : Nat) : ActsOn [.ct, .dg] s (s.claimTarget v) :=
  .within (.ite (s.withDg_acts _) (((s.withDg_acts _).andThen (State.withDg_acts ..)).andThen (State.claim_acts ..))) rfl

theorem governorUpdate_acts {t : State} (h : exec .governorUpdate s = .next t) : ActsOn [.ct, .dg] s t := by
  obtain rfl := Host.Outcome.next.inj h
  have hfigures (d : Dg) : ActsOn [.ct, .dg] s
      ((if s.dg.state.active && !(selectedState s).active then s.governorStandsDown else s).withDg d) :=
    .within ((ActsOn.ite s.governorStandsDown_acts .refl).andThen (State.withDg_acts ..)) rfl
  exact .within (.ite (((hfigures _).andThen (State.claimTarget_acts ..)).andThen (State.withDg_acts ..))
    ((hfigures _).andThen (State.withDg_acts ..))) rfl

theorem holdReachedAtDg_acts (k : HoldKind) {t : State} (h : exec (.holdReachedAtDg k) s = .next t) :
    ActsOn [.ct, .dg] s t := by
  obtain rfl := Host.Outcome.next.inj h
  split
  · exact .within ((s.withDg_acts _).andThen (State.claimTarget_acts ..)) rfl
  · exact .within ((s.withDg_acts _).andThen (State.claimTarget_acts ..)) rfl
  all_goals exact ActsOn.refl.within rfl

theorem State.setMode_acts (on : Bool) : ActsOn [.ct, .dg] s (s.setMode on) := by
  unfold State.setMode
  exact .within (.ite (s.withDg_acts _) ((ActsOn.ite s.governorStandsDown_acts .refl).andThen (State.withDg_acts ..))) rfl

theorem governorModeBody_acts (mode : Nat) : ActsOn [.ct, .dg] s (governorModeBody mode s).1 := by
  unfold governorModeBody
  split
  · exact ActsOn.refl.within rfl
  · split
    · exact ActsOn.refl.within rfl
    · exact s.setMode_acts _

theorem State.forecastClaims_acts (c : Cursor) (e : WalkEnd) : ActsOn [.ct, .dg] s (s.forecastClaims c e) := by
  have hretire (k : Key) (b : Bool) (d : Dg) : ActsOn [.ct, .dg] s (if b then (s.withDg d).release k none else s) :=
    .within (.ite ((s.withDg_acts _).andThen (State.release_acts ..)) .refl) rfl
  unfold State.forecastClaims
  split
  · split
    · split
      · exact .within ((s.withDg_acts _).andThen (State.claim_acts ..)) rfl
      · exact ActsOn.refl.within rfl
      · exact ActsOn.refl.within rfl
    · exact ActsOn.refl.within rfl
  · exact hretire ..
  · exact hretire ..
  all_goals exact ActsOn.refl.within rfl

theorem State.walk_acts (c : Cursor) (clear : Option Detail) : ActsOn [.ct, .dg] s (s.walk c clear).1 :=
  .within ((s.withDg_acts _).andThen (State.forecastClaims_acts ..)) rfl

theorem forecastBody_acts (apply : Nat) : ActsOn [.ct, .dg] s (forecastBody apply s).1 := by
  unfold forecastBody
  split
  · exact ActsOn.refl.within rfl
  · split
    · exact s.walk_acts ..
    · exact ActsOn.refl.within rfl

theorem forecastContinueBody_acts : ActsOn [.ct, .dg] s (forecastContinueBody s).1 := by
  unfold forecastContinueBody
  split
  · exact ActsOn.refl.within rfl
  · exact ActsOn.refl.within rfl
  · exact s.walk_acts ..

/-! ### The payload monitor (08) -/

theorem State.claimWanted_acts (k : Key) (want claimed : Option Nat) :
    ActsOn [.ct] s (s.claimWanted k want claimed) := by
  unfold State.claimWanted
  split
  · exact .ite .refl (s.claim_acts ..)
  · exact .ite (s.release_acts ..) .refl

theorem State.claimPayload_acts : ActsOn [.ct, .pm] s s.claimPayload :=
  .within (((s.claimWanted_acts ..).andThen (State.claimWanted_acts ..)).andThen (State.withPm_acts ..)) rfl

theorem State.latch_acts (m : Nat) : ActsOn [.ct, .pm, .sl] s (s.latch m) := by
  have hclass (p q : Pm) (was now : Bool) :
      ActsOn [.ct, .pm] s (((s.withPm p).claimPayload.withPm q).handCondition .pl was now) :=
    .within ((((s.withPm_acts _).andThen (State.claimPayload_acts _)).andThen (State.withPm_acts ..)).andThen
      (State.handCondition_acts ..)) rfl
  exact .within (ActsOn.andThen (.ite ((hclass ..).andThen (State.notify_acts ..)) (hclass ..)) (State.hand_acts ..)) rfl

theorem State.stillRun_acts (m : Nat) : ActsOn [.ct, .pm, .sl] s (s.stillRun m) := by
  have hrun : ActsOn [.pm] s (s.withPm { s.pm with stillSum := 0, stillCount := 0 }) := s.withPm_acts _
  unfold State.stillRun
  dsimp only
  split
  · exact .within (.ite (hrun.andThen (State.latch_acts ..)) hrun) rfl
  · exact .within (.ite (hrun.andThen (State.latch_acts ..)) hrun) rfl
  · exact .within (hrun.andThen (State.latch_acts ..)) rfl
  · exact .within (hrun.andThen (State.latch_acts ..)) rfl
  all_goals exact hrun.within rfl

theorem State.sampleWork_acts (b : Body) : ActsOn [.ct, .pm, .sl] s (s.sampleWork b) :=
  .within (.ite (s.stillRun_acts _) (.ite (s.latch_acts _) (.ite (s.withPm_acts _) .refl))) rfl

theorem windowMetre_acts (dir : Travel) {t : State} (h : exec (.windowMetre dir) s = .next t) :
    ActsOn [.ct, .pm, .sl] s t := by
  obtain rfl := Host.Outcome.next.inj h
  have hcount : ActsOn [.pm] s (s.withPm { s.pm with winMetres := s.pm.winMetres + 1 }) := s.withPm_acts _
  exact .within (.ite (.ite (hcount.andThen (State.latch_acts ..)) hcount) .refl) rfl

theorem holdReachedAtPm_acts (k : HoldKind) {t : State} (h : exec (.holdReachedAtPm k) s = .next t) :
    ActsOn [.pm] s t := by
  obtain rfl := Host.Outcome.next.inj h
  cases k
  · exact s.withPm_acts _
  · exact s.withPm_acts _
  · exact ActsOn.refl.within rfl

theorem holdLeftAtPm_acts (k : HoldKind) (c : HoldCause) {t : State} (h : exec (.holdLeftAtPm k c) s = .next t) :
    ActsOn [.pm] s t := by
  obtain rfl := Host.Outcome.next.inj h
  refine .within (.ite .refl (bs := []) (cs := [.pm]) ?_) rfl
  split
  · exact .within (.ite (s.withPm_acts _) (s.withPm_acts _)) rfl
  · exact .within (.ite (s.withPm_acts _) (s.withPm_acts _)) rfl
  · exact ActsOn.refl.within rfl

theorem State.takePlMask_acts (m : Bool) : ActsOn [.ct, .pm] s (s.takePlMask m) :=
  .within ((s.withPm_acts _).andThen (State.claimPayload_acts _)) rfl

/-! ### The steering controller (07) -/

theorem State.steerConditions_acts : ActsOn [.sc] s s.steerConditions :=
  ((s.withSc_acts _).andThen (State.handCondition_acts ..)).andThen (State.handCondition_acts ..)

theorem State.claimEnvelope_acts : ActsOn [.ct, .sc] s s.claimEnvelope :=
  .within (.ite (.ite .refl ((s.withSc_acts _).andThen (State.claim_acts ..)))
    (.ite ((s.withSc_acts _).andThen (State.release_acts ..)) .refl)) rfl

theorem steeringUpdate_acts (x : SteerPorts) {t : State} (h : exec (.steeringUpdate x) s = .next t) :
    ActsOn [.ct, .sc] s t := by
  obtain rfl := Host.Outcome.next.inj h
  exact .within (((((s.withSc_acts _).andThen (State.steerConditions_acts _)).andThen (State.withSc_acts ..)).andThen
    (State.claimEnvelope_acts _)).andThen (State.withSc_acts ..)) rfl

theorem State.steeringClear_acts : ActsOn [.sc, .pu] s s.steeringClear :=
  .within (.ite ((s.withSc_acts _).andThen (State.takeCondition_acts ..)) .refl) rfl

/-! ### The protection unit (09) -/

theorem State.sendRaise_acts (n : Station) (c : StationClass) (trips : Bool) : ActsOn [.sl] s (s.sendRaise n c trips) :=
  (ActsOn.ite (s.notifyTrip_acts n) .refl).andThen (State.hand_acts ..)

theorem State.markStation_acts (n : Station) (c : StationClass) (holds : Bool) :
    ActsOn [.pu] s (s.markStation n c holds) := s.setPuStation_acts ..

theorem State.beginClass_acts (n : Station) (st : StationState) (c : StationClass) (tripped : Bool) :
    ActsOn [.pu, .sl] s (s.beginClass n st c tripped).1 := by
  unfold State.beginClass
  split
  · exact ActsOn.refl.within rfl
  · exact (s.markStation_acts ..).andThen (State.sendRaise_acts ..)

theorem judgeIv_acts (n : Station) (st : StationState) (r : Judged) : ActsOn [.pu, .sl] s (judgeIv n st r s).1 := by
  unfold judgeIv
  split
  · exact s.beginClass_acts ..
  · exact (s.markStation_acts ..).within rfl

theorem judgeOc_acts (n : Station) (st : StationState) (r : Judged) (x : State × Bool) :
    ActsOn [.ct, .pu, .sl] x.1 (judgeOc n st r x).1 := by
  unfold judgeOc
  split
  · exact .within ((x.1.beginClass_acts ..).andThen (State.claim_acts ..)) rfl
  · exact (x.1.markStation_acts ..).within rfl

/-- The class of a report begun, or not. -/
theorem beginIf_acts {p : Prop} [Decidable p] (n : Station) (st : StationState) (c : StationClass) (x : State × Bool) :
    ActsOn [.pu, .sl] x.1 (if p then x.1.beginClass n st c x.2 else x).1 := by
  split
  · exact x.1.beginClass_acts ..
  · exact ActsOn.refl.within rfl

theorem judgeMt_acts (n : Station) (st : StationState) (r : Judged) (x : State × Bool) :
    ActsOn [.ct, .pu, .sl] x.1 (judgeMt n st r x).1 := by
  unfold judgeMt
  extract_lets warn y p
  have hy : ActsOn [.pu, .sl] x.1 y.1 := beginIf_acts ..
  split
  · split
    · exact .within ((hy.andThen (State.release_acts ..)).andThen (State.setPuStation_acts ..)) rfl
    · split
      · exact hy.within rfl
      · exact .within ((hy.andThen (State.claim_acts ..)).andThen (State.setPuStation_acts ..)) rfl
  · exact hy.within rfl

theorem judgeIt_acts (n : Station) (st : StationState) (r : Judged) (x : State × Bool) :
    ActsOn [.ct, .pu, .sl] x.1 (judgeIt n st r x).1 := by
  unfold judgeIt
  extract_lets warn y p
  have hy : ActsOn [.pu, .sl] x.1 y.1 := beginIf_acts ..
  split
  · split
    · exact .within ((hy.andThen (State.release_acts ..)).andThen (State.setPuStation_acts ..)) rfl
    · split
      · exact hy.within rfl
      · exact .within ((hy.andThen (State.claim_acts ..)).andThen (State.setPuStation_acts ..)) rfl
  · exact hy.within rfl

theorem State.judgeReport_acts (n : Station) (st : StationState) (r : Judged) :
    ActsOn [.ct, .pu, .sl] s (s.judgeReport n st r) :=
  .within (((((s.markStation_acts ..).andThen (judgeIv_acts ..)).andThen (judgeOc_acts ..)).andThen
    (judgeMt_acts ..)).andThen (judgeIt_acts ..)) rfl

theorem reportJudgement_acts (n : Station) (st : StationState) (r : Judged) {t : State}
    (h : exec (.reportJudgement n st r) s = .next t) : ActsOn [.ct, .pu, .sl] s t := by
  obtain rfl := Host.Outcome.next.inj h
  exact .within (.ite (.ite ((s.judgeReport_acts ..).andThen (State.ceaseJudging_acts ..)) (s.judgeReport_acts ..)) .refl) rfl

theorem linkLostEvent_acts (n : Station) (st : StationState) {t : State}
    (h : exec (.linkLostEvent n st) s = .next t) : ActsOn [.pu, .sl] s t := by
  obtain rfl := Host.Outcome.next.inj h
  exact .within (.ite (.ite ((s.beginClass_acts ..).andThen (State.setPuStation_acts ..)) (s.beginClass_acts ..)) .refl) rfl

theorem State.judgeSlip_acts (n : Station) : ActsOn [.ct, .pu, .sl] s (s.judgeSlip n) :=
  .within (.ite (((s.setPuStation_acts ..).andThen (State.sendRaise_acts ..)).andThen (State.claim_acts ..))
    (.ite ((s.setPuStation_acts ..).andThen (State.release_acts ..)) .refl)) rfl

theorem State.slipWork_acts (n : Station) (mark : Option Bool) (v : Nat) :
    ActsOn [.ct, .pu, .sl] s (s.slipWork n mark v) :=
  .within (((s.setPuStation_acts ..).andThen (State.judgeSlip_acts ..)).andThen (State.setPuStation_acts ..)) rfl

theorem State.dropDemand_acts (v : Nat) : ActsOn [.pu] s (s.dropDemand v) := .ite (s.withPu_acts _) .refl

theorem State.overspeedWork_acts (v : Nat) : ActsOn [.ct, .pu, .sl] s (s.overspeedWork v) := by
  have hdrop : ActsOn [.pu] s (s.dropDemand v) := s.dropDemand_acts v
  unfold State.overspeedWork
  split
  · exact .within (hdrop.andThen (State.withPu_acts ..)) rfl
  · have hcount := hdrop.andThen (State.withPu_acts _
      { (s.dropDemand v).pu with osCount := min 5 ((s.dropDemand v).pu.osCount + 1) })
    exact .within (.ite (.ite ((hcount.andThen (State.truckBegins_acts ..)).andThen (State.withPu_acts ..)) hcount)
      (hdrop.andThen (State.withPu_acts ..))) rfl

theorem State.stoppedWork_acts (v : Nat) : ActsOn [.pu] s (s.stoppedWork v) :=
  .within (.ite (.ite (.ite (s.withPu_acts _) (s.withPu_acts _)) (s.withPu_acts _)) .refl) rfl

theorem passArrival_acts (marks : PerStation (Option Bool)) (v : Nat) {t : State}
    (h : exec (.passArrival marks v) s = .next t) : ActsOn [.ct, .pu, .sl] s t := by
  obtain rfl := Host.Outcome.next.inj h
  exact .within (((ActsOn.foldl (fun t n => t.slipWork_acts n (marks.get n) v) Station.all s).andThen
    (State.overspeedWork_acts ..)).andThen (State.stoppedWork_acts ..)) rfl

theorem clearStation_acts (n : Station) : ActsOn [.sm, .pu] s (clearStation n s).1 := by
  unfold clearStation
  exact checked_acts s (s.takeClear_acts ..)

theorem State.clearTruckFlags_acts : ActsOn [.ct, .pu] s s.clearTruckFlags :=
  have hflags : ActsOn [.pu] s (s.withPu { s.pu with flags := s.pu.flags.inter s.pu.conds }) := s.withPu_acts _
  .within (.ite ((hflags.andThen (State.withPu_acts ..)).andThen (State.release_acts ..)) hflags) rfl

theorem clearTruck_acts : ActsOn [.ct, .gd, .sc, .pu] s (clearTruck s).1 := by
  unfold clearTruck
  exact checked_acts s (.within ((s.gridClear_acts.andThen (State.steeringClear_acts _)).andThen
    (State.clearTruckFlags_acts _)) rfl)

theorem clearFaultsBody_acts (target : Nat) : ActsOn [.ct, .sm, .gd, .sc, .pu] s (clearFaultsBody target s).1 := by
  unfold clearFaultsBody
  split
  · exact (clearStation_acts ..).within rfl
  · split
    · exact (clearTruck_acts s).within rfl
    · exact ActsOn.refl.within rfl

theorem setStationMask_acts (n : Station) (m : Nat) : ActsOn [.sm, .sl] s (setStationMask n m s).1 := by
  refine checked_acts s ?_
  split
  · exact (s.setStation_acts ..).andThen (State.sendRaise_acts ..)
  · exact (s.setStation_acts ..).within rfl

theorem State.writeTruckMasks_acts (m : TruckSet) : ActsOn [.ct, .pm, .pu] s (s.writeTruckMasks m) :=
  .within (.ite (s.withPu_acts _) ((s.withPu_acts _).andThen (State.takePlMask_acts ..))) rfl

theorem setTruckMask_acts (m : Nat) : ActsOn [.ct, .pm, .pu, .sl] s (setTruckMask m s).1 := by
  have hmask (p : Pu) (up : Bool) : ActsOn [.ct, .pu, .sl] s (if up then (s.withPu p).safeStop else s.withPu p) :=
    .within (.ite ((s.withPu_acts _).andThen (State.safeStop_acts _)) (s.withPu_acts _)) rfl
  exact checked_acts s (.within (.ite (hmask _ _) ((hmask _ _).andThen (State.takePlMask_acts ..))) rfl)

theorem setMaskBody_acts (target m : Nat) : ActsOn [.ct, .sm, .pm, .pu, .sl] s (setMaskBody target m s).1 := by
  unfold setMaskBody
  split
  · exact (setStationMask_acts ..).within rfl
  · split
    · exact (setTruckMask_acts ..).within rfl
    · exact ActsOn.refl.within rfl

theorem protectionInitBody_acts : ActsOn [.ct, .pm, .pu] s (protectionInitBody s).1 := by
  unfold protectionInitBody
  exact checked_acts s (.within ((s.withPu_acts _).andThen (State.writeTruckMasks_acts ..)) rfl)

/-! ### The supervisory link (10) -/

theorem State.readReply_acts (n : Nat) : ActsOn [.sl] s (s.readReply n) := by
  unfold State.readReply
  split
  · exact s.withSl_acts _
  · exact .within (.ite ((s.withSl_acts _).andThen (State.withFree_acts ..)) (s.withSl_acts _)) rfl

theorem State.takeRawFrame_acts (frame : List Byte) (cut : Bool) : ActsOn [.sl] s (s.takeRawFrame frame cut) := by
  unfold State.takeRawFrame
  split
  · exact .within (.ite s.discardFrame_acts (s.takeFrame_acts.andThen (State.reply_acts ..))) rfl
  · exact .ite s.discardFrame_acts .refl

theorem State.takeTransaction_acts (bytes : List Byte) (cut : Bool) : ActsOn [.sl] s (s.takeTransaction bytes cut) := by
  unfold State.takeTransaction
  split
  · exact s.takeRawFrame_acts ..
  · exact s.readReply_acts _
  · exact ActsOn.refl.within rfl

theorem cancel_acts {t : State} (h : exec .cancel s = .next t) : ActsOn [.ta, .sm, .pu, .sl] s t := by
  obtain rfl := Host.Outcome.next.inj h
  split
  · exact .within (s.takeFrame_acts.andThen (State.answerArm_acts ..)) rfl
  · exact .within (s.takeFrame_acts.andThen (State.cancelPark_acts ..)) rfl
  · exact .within (s.takeFrame_acts.andThen (State.reply_acts ..)) rfl

end Sys2Proof.Machine

namespace Sys2Proof.Machine

/-! ### Every command -/

/-- A command that answers the state an operation leaves acts on the blocks that the operation acts on. -/
theorem acts_of_next {bs cs : List Block} {s t u : State} (h : (.next u : Out) = .next t) (hu : ActsOn cs s u)
    (hsub : blocksWithin cs bs = true) : ActsOn bs s t :=
  Host.Outcome.next.inj h ▸ hu.within hsub

/-- R6, R13: but for a placement, and for what acts on the supervisor's records where they stand, each command acts on
its own blocks, and on the ceiling table by claims of the internal owners only. -/
theorem exec_acts {c : Instr} {s t : State} (hc : actsOnSupervisorRecords c = false) (hp : ∀ r, c ≠ .placeCeiling r)
    (h : exec c s = .next t) : ActsOn (touched c) s t := by
  cases c with
  | softReset | hardReset | amendCeiling _ | retireCeiling _ _ | distanceExpiryCount _ | tableTimer | recordExpiry _ =>
    exact Bool.noConfusion hc
  | placeCeiling r => exact absurd rfl (hp r)
  | identify | readEffective | readAllocation | readGrid | readRoute | readGovernor | readSteering | readPayload
  | readProtection => exact acts_of_next h (reading_acts ..) rfl
  | readNotices => exact acts_of_next h (request_acts s _ fun t => t.withSl_acts _) rfl
  | cancel => exact cancel_acts s h
  | malformedFrame bytes cut | frameDiscardedBusy bytes cut => exact acts_of_next h (s.takeTransaction_acts ..) rfl
  | replyRead n => exact acts_of_next h (s.readReply_acts n) rfl
  | queryCeiling _ _ | listCeilings _ _ | profileRead _ =>
    exact acts_of_next h (request_acts s _ fun t => checked_acts t .refl) rfl
  | configureDrive _ _ => exact acts_of_next h (request_acts s _ fun t => checked_acts t (t.withTa_acts _)) rfl
  | arm => exact acts_of_next h (longRequest_acts s _ _ _ State.beginArm_acts) rfl
  | disarm => exact acts_of_next h (request_acts s _ disarmBody_acts) rfl
  | parkStation n =>
    refine acts_of_next (cs := [.sl, .sm, .pu]) h ?_ rfl
    split
    · exact longRequest_acts s _ _ _ fun t => t.beginPark_acts _
    · exact (request_acts s _ fun t => .refl).within rfl
  | restoreStation n => exact acts_of_next h (request_acts s _ fun t => restoreBody_acts t n) rfl
  | rearmStation n => exact acts_of_next h (request_acts s _ fun t => rearmBody_acts t n) rfl
  | readStationContext n => exact acts_of_next h (request_acts s _ fun t => readStationBody_acts t n) rfl
  | writeParkedContext r => exact acts_of_next h (request_acts s _ fun t => writeParkedBody_acts t r) rfl
  | configureGrid r => exact acts_of_next h (request_acts s _ fun t => checked_acts t (t.withGd_acts _)) rfl
  | setBankOrder n => exact acts_of_next h (request_acts s _ fun t => bankOrderBody_acts t n) rfl
  | profileWrite g d0 d1 d2 d3 => exact acts_of_next h (request_acts s _ fun t => profileWriteBody_acts t _ _ _) rfl
  | routeStart g first offset =>
    exact acts_of_next h (request_acts s _ fun t => checked_acts t (t.startRoute_acts ..)) rfl
  | routeStop => exact acts_of_next h (request_acts s _ fun t => checked_acts t t.stopRoute_acts) rfl
  | insertDetour g =>
    exact acts_of_next h (request_acts s _ fun t =>
      checked_acts t ((t.withRs_acts _).andThen (State.hand_acts ..))) rfl
  | abortDetour =>
    exact acts_of_next h (request_acts s _ fun t =>
      checked_acts t (t.abortDetour_acts.andThen (State.hand_acts ..))) rfl
  | resume =>
    exact acts_of_next h (request_acts s _ fun t =>
      checked_acts t ((t.leaveHold_acts _).andThen (State.rollover_acts _))) rfl
  | governorMode m => exact acts_of_next h (request_acts s _ fun t => governorModeBody_acts t m) rfl
  | forecast a => exact acts_of_next h (request_acts s _ fun t => forecastBody_acts t a) rfl
  | forecastContinue => exact acts_of_next h (request_acts s _ forecastContinueBody_acts) rfl
  | configureSteering _ _ _ _ _ | steerEnvelope _ | setAssist _ _ =>
    exact acts_of_next h (request_acts s _ fun t => checked_acts t (t.withSc_acts _)) rfl
  | configurePayload _ _ _ _ =>
    exact acts_of_next h (request_acts s _ fun t => checked_acts t (t.withPm_acts _)) rfl
  | configureProtection _ _ =>
    exact acts_of_next h (request_acts s _ fun t => checked_acts t (t.withPu_acts _)) rfl
  | clearFaultsStation n => exact acts_of_next h (request_acts s _ fun t => clearFaultsBody_acts t n) rfl
  | clearFaultsTruck => exact acts_of_next h (request_acts s _ clearTruck_acts) rfl
  | setMaskStation n m => exact acts_of_next h (request_acts s _ fun t => setMaskBody_acts t n m) rfl
  | setMaskTruck m => exact acts_of_next h (request_acts s _ fun t => setTruckMask_acts t m) rfl
  | protectionInit => exact acts_of_next h (request_acts s _ protectionInitBody_acts) rfl
  | allocationPass p =>
    exact acts_of_next h
      (((s.withTa_acts _).andThen (State.withHanded_acts ..)).andThen (State.tickTimers_acts _)) rfl
  | grantHandover hands travel =>
    exact acts_of_next h (ActsOn.foldl (fun t n => t.handover_acts n (hands.get n) travel) Station.all s) rfl
  | powerArrival p v =>
    exact acts_of_next h ((s.dispatchPower_acts _).andThen (State.countOverVoltage_acts ..)) rfl
  | passArrival marks v => exact passArrival_acts s marks v h
  | forwardMetreEvent => exact forwardMetre_acts s h
  | reverseMetreEvent => exact (reverseMetre_acts s h).within rfl
  | windowMetre dir => exact windowMetre_acts s dir h
  | setClaim k v ramp expiry => exact acts_of_next h (s.claim_acts ..) rfl
  | retireClaim k ramp => exact acts_of_next h (s.release_acts ..) rfl
  | gridTimer x =>
    exact acts_of_next h
      (((((s.bankTimer_acts ..).andThen (State.bankTimer_acts ..)).andThen (State.publishGrid_acts _)).andThen
        (State.evalGrid_acts _)).andThen (State.testGt_acts _)) rfl
  | bankCurrentSeen k | checkTimerExpiry k => exact acts_of_next h (.ite (s.endCheck_acts ..) .refl) rfl
  | armingEvent => exact acts_of_next h (.ite (.foldl State.armStation_acts Station.all s) .refl) rfl
  | reportFrame n bytes =>
    refine acts_of_next (cs := [.ct, .sm, .pu, .sl]) h ?_ rfl
    split
    · exact .ite (s.takeReport_acts ..) .refl
    · exact ActsOn.refl.within rfl
  | reportDeadlineExpiry n =>
    refine acts_of_next h (.ite (bs := [.sm]) ?_ .refl) rfl
    dsimp only
    split
    · exact s.setStation_acts ..
    · exact s.setStation_acts ..
    · exact (s.setStation_acts ..).andThen (State.hand_acts ..)
  | parkTimerExpiry n => exact acts_of_next h (.ite (s.completePark_acts ..) .refl) rfl
  | reportJudgement n carried r => exact reportJudgement_acts s n carried r h
  | linkLostEvent n carried => exact linkLostEvent_acts s n carried h
  | raiseClaim n c trips => exact acts_of_next h (s.takeRaise_acts ..) rfl
  | clearClaim n f => exact acts_of_next h (s.takeClear_acts ..) rfl
  | truckConditionBegins b => exact acts_of_next h (s.beginsEvent_acts _) rfl
  | truckConditionEnds c => exact acts_of_next h (s.endsEvent_acts c) rfl
  | protectionTimer => exact acts_of_next h (s.withPu_acts _) rfl
  | governorUpdate => exact governorUpdate_acts s h
  | holdReachedAtDg k => exact holdReachedAtDg_acts s k h
  | holdLeftAtDg k c => exact acts_of_next h .refl rfl
  | routeEditEvent | latchEvent => exact acts_of_next h (s.withDg_acts _) rfl
  | steeringUpdate x => exact steeringUpdate_acts s x h
  | payloadSample x => exact acts_of_next h ((s.withPm_acts _).andThen (State.sampleWork_acts ..)) rfl
  | holdReachedAtPm k => exact holdReachedAtPm_acts s k h
  | holdLeftAtPm k c => exact holdLeftAtPm_acts s k c h
  | plMaskEvent m => exact acts_of_next h (s.takePlMask_acts m) rfl

end Sys2Proof.Machine

namespace Sys2Proof.Machine

/-! ### Ramp steps and expiries of one slot (R9 to R12) -/

theorem CeilingRecord.rise_of_ramp {r : CeilingRecord} {k : Nat} (h : r.ramp = some k) :
    r.rise = { r with current := min (r.current + k) r.target } := by
  simp [CeilingRecord.rise, h]

theorem CeilingRecord.rise_of_noRamp {r : CeilingRecord} (h : r.ramp = none) : r.rise = r := by
  simp [CeilingRecord.rise, h]

/-- R9: of a record, a ramp step changes the current value only, and never past the target. -/
theorem CeilingRecord.rise_eq {r : CeilingRecord} (h : r.current ≤ r.target) :
    ∃ c ≤ r.target, r.rise = { r with current := c } := by
  by_cases hramp : r.ramp = none
  · exact ⟨r.current, h, CeilingRecord.rise_of_noRamp hramp⟩
  · obtain ⟨k, hk⟩ := Option.ne_none_iff_exists'.1 hramp
    exact ⟨_, min_le_right _ _, CeilingRecord.rise_of_ramp hk⟩

/-- R9: a record at its target is left. -/
theorem Slot.rampStep_of_atTarget {x : Slot} {r : CeilingRecord} (hx : x.entry.held = some r) (h : r.target ≤ r.current) :
    x.rampStep = x := by
  obtain ⟨g, e⟩ := x
  cases e <;> cases hx <;> simp [Slot.rampStep, Nat.not_lt.2 h]

theorem Slot.rampStep_live {g : Nat} {r : CeilingRecord} (h : r.current < r.target) :
    Slot.rampStep ⟨g, .live r⟩ = ⟨g, .live r.rise⟩ := by
  simp [Slot.rampStep, h]

theorem Slot.rampStep_fading {g : Nat} {r : CeilingRecord} (h : r.current < r.target) :
    Slot.rampStep ⟨g, .fading r⟩ = if r.rise.current = r.limit.maximum then ⟨g, .free⟩ else ⟨g, .fading r.rise⟩ := by
  simp [Slot.rampStep, h]

theorem CeilingRecord.rise_holder (r : CeilingRecord) : r.rise.holder = r.holder := by
  unfold CeilingRecord.rise
  split <;> rfl

theorem Slot.rampStep_heldBy {x : Slot} {h : Holder} (hh : x.rampStep.heldBy h = true) : x.heldBy h = true := by
  obtain ⟨g, e⟩ := x
  cases e with
  | free => exact hh
  | live r =>
    rcases lt_or_ge r.current r.target with hlt | hge
    · simpa [Slot.rampStep_live hlt, CeilingRecord.rise_holder] using hh
    · rwa [Slot.rampStep_of_atTarget rfl hge] at hh
  | fading r =>
    rcases lt_or_ge r.current r.target with hlt | hge
    · rw [Slot.rampStep_fading hlt] at hh
      split at hh
      · exact absurd hh (by simp)
      · simpa [CeilingRecord.rise_holder] using hh
    · rwa [Slot.rampStep_of_atTarget rfl hge] at hh

theorem Slot.rampStep_legal {x : Slot} (hx : x.legal) : x.rampStep.legal := by
  obtain ⟨g, e⟩ := x
  cases e with
  | free => exact hx
  | live r =>
    rcases lt_or_ge r.current r.target with hlt | hge
    · obtain ⟨hg, hg1, hr⟩ := Slot.legal_live.1 hx
      obtain ⟨-, hmax, hkeyed⟩ := r.legal_live_iff.1 hr
      obtain ⟨c, hc, hrise⟩ := CeilingRecord.rise_eq hlt.le
      rw [Slot.rampStep_live hlt, hrise]
      exact Slot.legal_live.2 ⟨hg, hg1, (CeilingRecord.legal_live_iff _).2 ⟨hc, hmax, hkeyed⟩⟩
    · rwa [Slot.rampStep_of_atTarget rfl hge]
  | fading r =>
    rcases lt_or_ge r.current r.target with hlt | hge
    · obtain ⟨hg, hg1, hr⟩ := Slot.legal_fading.1 hx
      obtain ⟨hkeyed, hramp, htarget, -, hexpiry⟩ := r.legal_fading_iff.1 hr
      obtain ⟨c, hc, hrise⟩ := CeilingRecord.rise_eq hlt.le
      rw [Slot.rampStep_fading hlt, hrise]
      split
      · exact Slot.legal_free hg
      · next hne =>
        have hroom : c < r.limit.maximum := lt_of_le_of_ne (htarget ▸ hc) hne
        exact Slot.legal_fading.2 ⟨hg, hg1, (CeilingRecord.legal_fading_iff _).2 ⟨hkeyed, hramp, htarget, hroom, hexpiry⟩⟩
    · rwa [Slot.rampStep_of_atTarget rfl hge]

/-- R12: what an expiry leaves of a slot. -/
def Slot.expire (x : Slot) : Slot :=
  match x.entry with
  | .live r => ⟨x.gen, r.retired⟩
  | _ => x

@[simp] theorem Slot.expire_live (g : Nat) (r : CeilingRecord) : Slot.expire ⟨g, .live r⟩ = ⟨g, r.retired⟩ := rfl
@[simp] theorem Slot.expire_free (g : Nat) : Slot.expire ⟨g, .free⟩ = ⟨g, .free⟩ := rfl
@[simp] theorem Slot.expire_fading (g : Nat) (r : CeilingRecord) : Slot.expire ⟨g, .fading r⟩ = ⟨g, .fading r⟩ := rfl

theorem Slot.expire_heldBy {x : Slot} {h : Holder} (hh : x.expire.heldBy h = true) : x.heldBy h = true := by
  obtain ⟨g, e⟩ := x
  cases e with
  | live r =>
    have hr : r.holder = h := CeilingRecord.retired_heldBy hh
    simp [hr]
  | free => exact hh
  | fading r => exact hh

theorem Slot.expire_legal {x : Slot} (hx : x.legal) : x.expire.legal := by
  obtain ⟨g, e⟩ := x
  cases e with
  | live r =>
    obtain ⟨hg, hg1, -, -, hkeyed, -⟩ := hx
    exact CeilingRecord.retired_legal hg hg1 hkeyed
  | free => exact hx
  | fading r => exact hx

/-- A LIVE record's expiry is not read by its retirement (R11). -/
theorem CeilingRecord.retired_expiry (r : CeilingRecord) (e : Option Countdown) :
    CeilingRecord.retired { r with expiry := e } = r.retired := rfl

/-- R10 to R12: how a countdown leaves a slot: untouched, counted down, or retired. -/
theorem Slot.counted_cases (kind : ExpiryKind) (x : Slot) :
    x.counted kind = x ∨ x.counted kind = x.expire ∨
      ∃ r e, x.entry = .live r ∧ x.counted kind = ⟨x.gen, .live { r with expiry := some e }⟩ := by
  obtain ⟨g, e⟩ := x
  cases e with
  | free => exact .inl rfl
  | fading r => exact .inl rfl
  | live r =>
    unfold Slot.counted
    dsimp only
    split
    · split
      · split
        · exact .inr (.inl rfl)
        · exact .inr (.inr ⟨r, _, rfl, rfl⟩)
      · exact .inl rfl
    · exact .inl rfl

theorem Slot.counted_heldBy {kind : ExpiryKind} {x : Slot} {h : Holder} (hh : (x.counted kind).heldBy h = true) :
    x.heldBy h = true := by
  rcases x.counted_cases kind with he | he | ⟨r, e, hx, he⟩ <;> rw [he] at hh
  · exact hh
  · exact Slot.expire_heldBy hh
  · simpa [Slot.heldBy, hx, SlotEntry.held] using hh

theorem Slot.counted_legal {kind : ExpiryKind} {x : Slot} (hx : x.legal) : (x.counted kind).legal := by
  rcases x.counted_cases kind with he | he | ⟨r, e, hentry, he⟩ <;> rw [he]
  · exact hx
  · exact Slot.expire_legal hx
  · obtain ⟨g, entry⟩ := x
    subst hentry
    obtain ⟨hg, hg1, hr⟩ := Slot.legal_live.1 hx
    exact Slot.legal_live.2 ⟨hg, hg1, (CeilingRecord.legal_live_iff _).2 (r.legal_live_iff.1 hr)⟩

/-! ### Handles (R4) -/

/-- R4: a handle whose generation is its slot's reaches what the slot keeps. -/
theorem handleEntry_of_slot {t : List Slot} {slot gen : Nat} {e : SlotEntry} (hgen : 1 ≤ gen)
    (h : t[slot]? = some ⟨gen, e⟩) : handleEntry t slot gen = e := by
  have hne : gen ≠ 0 := by omega
  simp [handleEntry, h, hne]

/-- R4: what a handle reaches is in its slot, under its generation. -/
theorem slot_of_handleEntry {t : List Slot} {slot gen : Nat} {r : CeilingRecord}
    (h : (handleEntry t slot gen).held = some r) :
    1 ≤ gen ∧ ∃ e, t[slot]? = some ⟨gen, e⟩ ∧ e.held = some r ∧ handleEntry t slot gen = e := by
  cases hx : t[slot]? with
  | none => simp [handleEntry, hx, SlotEntry.held] at h
  | some x =>
    by_cases hg : gen = 0 ∨ x.gen ≠ gen
    · simp [handleEntry, hx, hg, SlotEntry.held] at h
    · push Not at hg
      obtain ⟨hne, rfl⟩ := hg
      have hentry : handleEntry t slot x.gen = x.entry := handleEntry_of_slot (by omega) hx
      exact ⟨by omega, x.entry, rfl, hentry ▸ h, hentry⟩

theorem handleEntry_of_namesNoRecord {t : List Slot} {slot gen : Nat} (h : namesNoRecord t slot gen) :
    (handleEntry t slot gen).held = none := by
  by_contra hne
  obtain ⟨r, hr⟩ := Option.ne_none_iff_exists'.1 hne
  obtain ⟨hgen, e, hslot, hheld, -⟩ := slot_of_handleEntry hr
  exact h e r hgen hslot hheld

end Sys2Proof.Machine

namespace Sys2Proof.Proofs.CeilingTable

open Sys2Proof Sys2Proof.Machine

/-- Settles O16: each clause is one case of R8; an amendment without a target sets the record's own target again. -/
theorem targetIsSetByThreeCases : Obligations.TargetIsSetByThreeCases := by
  refine ⟨fun r t h => CeilingRecord.setTarget_of_le h, fun r t k h hk => CeilingRecord.setTarget_of_ramp h hk,
    fun r t _ hk => CeilingRecord.setTarget_of_noRamp hk, fun r a hramp htarget _ => ?_, fun r a k hramp htarget h => ?_⟩
  · simp only [CeilingRecord.amended, hramp, htarget, Option.getD_none]
    rw [CeilingRecord.setTarget_of_noRamp rfl]
  · simp only [CeilingRecord.amended, hramp, htarget, Option.getD_none]
    simp [CeilingRecord.setTarget, Nat.not_le.2 h]

/-- Settles O19: the ramp step of a LIVE slot, of a FADING one, and of a record at its target. -/
theorem rampStepRisesTowardTarget : Obligations.RampStepRisesTowardTarget := by
  refine ⟨fun g k r h hk => ?_, fun g k r h hmax hk => ?_, fun x r hx h => Slot.rampStep_of_atTarget hx h⟩
  · rw [Slot.rampStep_live h, CeilingRecord.rise_of_ramp hk]
  · rw [Slot.rampStep_fading h, CeilingRecord.rise_of_ramp hk, ← hmax]
    by_cases hreach : r.target ≤ r.current + k
    · simp [hreach]
    · have hbelow : r.current + k < r.target := not_le.1 hreach
      simp [min_eq_left hbelow.le, hbelow.ne, hreach]

theorem exec_setClaim (s : State) (k : Key) (v : Int) (ramp : Option Nat) (expiry : Option Expiry) :
    exec (.setClaim k v ramp expiry) s = .next { s with ct := claimSet s.ct k v ramp expiry } := rfl

theorem exec_retireClaim (s : State) (k : Key) (ramp : Option Nat) :
    exec (.retireClaim k ramp) s = .next { s with ct := claimRetire s.ct k ramp } := rfl

/-- Settles O21: with no record of the key, R14 places one and R15 does nothing; with one, both act on the first slot
that holds it. -/
theorem internalClaimsSetAndRetireTheirRecord : Obligations.InternalClaimsSetAndRetireTheirRecord := by
  intro s k v ramp expiry i g
  refine ⟨fun habsent hi hlow => ⟨?_, ?_⟩, fun r hr hlow => ⟨fun hi => ?_, fun hi => ?_, fun hi => ?_⟩⟩
  · rw [exec_setClaim, claimSet_of_absent v ramp expiry habsent, placeRecord_of_free _ hi hlow]
    rfl
  · rw [exec_retireClaim, claimRetire_of_absent ramp habsent]
  · rw [exec_setClaim]
    rcases hi with hi | hi <;> rw [claimSet_of_held v ramp expiry hi rfl hr hlow] <;> rfl
  · rw [exec_retireClaim, claimRetire_of_held ramp hi (by simp [Slot.holdsKey_eq_heldBy, hr]) hlow]
    cases ramp <;> rfl
  · rw [exec_retireClaim, claimRetire_of_held ramp hi (by simp [Slot.holdsKey_eq_heldBy, hr]) hlow]
    simp [Slot.retireWith, set_of_getElem? hi]

end Sys2Proof.Proofs.CeilingTable

namespace Sys2Proof.Machine

/-! ### The expiry of a slot (R12, R198) -/

/-- The slot keeps a LIVE record with its notify flag set. -/
def Slot.notifies (x : Slot) : Prop := ∃ r, x.entry = .live r ∧ r.notify = true

/-- R198: what the link holds once a handle has been entered. -/
def Sl.told (l : Sl) (h : Handle) : Prop := l.notices.recordRetired = true ∧ (h ∈ l.retired ∨ l.overflow = true)

/-- From `l` to `m` the link differs at most in what the entry of a retired handle writes. -/
def Sl.sameBut (l m : Sl) : Prop := m = { l with notices := m.notices, retired := m.retired, overflow := m.overflow }

theorem Sl.sameBut.trans {l m n : Sl} (h : l.sameBut m) (h' : m.sameBut n) : l.sameBut n := by
  unfold Sl.sameBut at *
  rw [h', h]

variable (s : State)

theorem State.enterRetired_of_mem {h : Handle} (hm : h ∈ s.sl.retired) :
    s.enterRetired h = s.withSl { s.sl with notices := { s.sl.notices with recordRetired := true } } := by
  simp [State.enterRetired, hm, State.notify, NoticeSet.raise, State.withSl]

theorem State.enterRetired_of_room {h : Handle} (hm : h ∉ s.sl.retired) (hroom : s.sl.retired.length < 8) :
    s.enterRetired h = s.withSl
      { s.sl with notices := { s.sl.notices with recordRetired := true }, retired := s.sl.retired ++ [h] } := by
  simp [State.enterRetired, hm, hroom, State.notify, NoticeSet.raise, State.withSl]

theorem State.enterRetired_of_full {h : Handle} (hm : h ∉ s.sl.retired) (hfull : 8 ≤ s.sl.retired.length) :
    s.enterRetired h =
      s.withSl { s.sl with notices := { s.sl.notices with recordRetired := true }, overflow := true } := by
  simp [State.enterRetired, hm, Nat.not_lt.2 hfull, State.notify, NoticeSet.raise, State.withSl]

/-- R198: a handle entered is told, what was told before stands, and nothing else of the link changes. -/
theorem State.enterRetired_told (h : Handle) :
    (s.enterRetired h).sl.told h ∧ (∀ k, s.sl.told k → (s.enterRetired h).sl.told k) ∧
      s.sl.sameBut (s.enterRetired h).sl := by
  by_cases hm : h ∈ s.sl.retired
  · rw [s.enterRetired_of_mem hm]
    exact ⟨⟨rfl, .inl hm⟩, fun k hk => ⟨rfl, hk.2⟩, rfl⟩
  · rcases lt_or_ge s.sl.retired.length 8 with hroom | hfull
    · rw [s.enterRetired_of_room hm hroom]
      exact ⟨⟨rfl, .inl (by simp)⟩, fun k hk => ⟨rfl, hk.2.imp_left fun hk => by simp [hk]⟩, rfl⟩
    · rw [s.enterRetired_of_full hm hfull]
      exact ⟨⟨rfl, .inr rfl⟩, fun k hk => ⟨rfl, .inr rfl⟩, rfl⟩

/-- R12: the expiry of a slot whose record notifies. -/
theorem State.expireSlot_of_notify {i g : Nat} {r : CeilingRecord} (hi : s.ct[i]? = some ⟨g, .live r⟩)
    (hn : r.notify = true) : s.expireSlot i = (s.withCt (s.ct.set i ⟨g, r.retired⟩)).enterRetired ⟨i, g⟩ := by
  simp [State.expireSlot, hi, hn]

/-- R12: the expiry of a slot whose record does not notify. -/
theorem State.expireSlot_of_silent {i g : Nat} {r : CeilingRecord} (hi : s.ct[i]? = some ⟨g, .live r⟩)
    (hn : r.notify = false) : s.expireSlot i = s.withCt (s.ct.set i ⟨g, r.retired⟩) := by
  simp [State.expireSlot, hi, hn]

theorem State.expireSlot_of_notLive {i : Nat} (h : ∀ g r, s.ct[i]? ≠ some ⟨g, .live r⟩) : s.expireSlot i = s := by
  unfold State.expireSlot
  cases hi : s.ct[i]? with
  | none => simp [hi]
  | some x =>
    obtain ⟨g, e⟩ := x
    cases e with
    | live r => exact absurd hi (h g r)
    | free => simp [hi]
    | fading r => simp [hi]

/-- R12: what the expiry of a slot leaves of the table. -/
theorem State.expireSlot_ct (i : Nat) : (s.expireSlot i).ct = s.ct.modify i Slot.expire := by
  by_cases h : ∀ g r, s.ct[i]? ≠ some ⟨g, .live r⟩
  · rw [s.expireSlot_of_notLive h]
    refine (List.ext_getElem? fun j => ?_).symm
    rw [List.getElem?_modify]
    by_cases hij : i = j
    · subst hij
      cases hi : s.ct[i]? with
      | none => simp
      | some x =>
        obtain ⟨g, e⟩ := x
        cases e with
        | live r => exact absurd hi (h g r)
        | free => simp
        | fading r => simp
    · simp [hij]
  · push Not at h
    obtain ⟨g, r, hi⟩ := h
    have hct : (s.expireSlot i).ct = s.ct.set i ⟨g, r.retired⟩ := by
      cases hn : r.notify with
      | true => rw [s.expireSlot_of_notify hi hn]; simp
      | false => rw [s.expireSlot_of_silent hi hn]; rfl
    rw [hct, List.modify_eq_set_getElem?, hi]
    rfl

/-- R12: a slot that keeps no notifying record tells the link nothing at its expiry. -/
theorem State.expireSlot_sl_of_silent {i : Nat} (h : ∀ x, s.ct[i]? = some x → ¬ x.notifies) :
    (s.expireSlot i).sl = s.sl := by
  by_cases hlive : ∀ g r, s.ct[i]? ≠ some ⟨g, .live r⟩
  · rw [s.expireSlot_of_notLive hlive]
  · push Not at hlive
    obtain ⟨g, r, hi⟩ := hlive
    have hn : r.notify = false := by simpa using fun hn => h _ hi ⟨r, rfl, hn⟩
    rw [s.expireSlot_of_silent hi hn]
    rfl

/-- R12: a notifying record's handle is told at its expiry. -/
theorem State.expireSlot_told {i : Nat} {x : Slot} (hi : s.ct[i]? = some x) (hx : x.notifies) :
    (s.expireSlot i).sl.told ⟨i, x.gen⟩ := by
  obtain ⟨g, e⟩ := x
  obtain ⟨r, rfl, hn⟩ := hx
  rw [s.expireSlot_of_notify hi hn]
  exact (State.enterRetired_told _ _).1

/-- R12: an expiry takes back nothing that the link was told. -/
theorem State.expireSlot_sl (i : Nat) :
    (∀ k, s.sl.told k → (s.expireSlot i).sl.told k) ∧ s.sl.sameBut (s.expireSlot i).sl := by
  by_cases h : ∃ x, s.ct[i]? = some x ∧ x.notifies
  · obtain ⟨⟨g, e⟩, hi, r, rfl, hn⟩ := h
    rw [s.expireSlot_of_notify hi hn]
    exact (State.enterRetired_told _ _).2
  · push Not at h
    rw [s.expireSlot_sl_of_silent h]
    exact ⟨fun _ hk => hk, rfl⟩

/-! ### Expiries of several slots in turn (R10) -/

variable {s} {l : List Nat}

/-- Each of the slots has expired once. -/
theorem foldl_expireSlot_ct (hl : l.Nodup) (j : Nat) :
    (l.foldl State.expireSlot s).ct[j]? = s.ct[j]?.map fun x => if j ∈ l then x.expire else x := by
  induction l generalizing s with
  | nil => simp
  | cons i l ih =>
    obtain ⟨hi, hl⟩ := List.nodup_cons.1 hl
    rw [List.foldl_cons, ih hl, State.expireSlot_ct, List.getElem?_modify, Option.map_eq_map, Option.map_map]
    congr 1
    funext x
    by_cases hij : i = j
    · subst hij
      simp [hi]
    · simp [hij, Ne.symm hij]

theorem foldl_expireSlot_sl :
    (∀ k, s.sl.told k → (l.foldl State.expireSlot s).sl.told k) ∧ s.sl.sameBut (l.foldl State.expireSlot s).sl := by
  induction l generalizing s with
  | nil => exact ⟨fun _ hk => hk, rfl⟩
  | cons i l ih =>
    exact ⟨fun k hk => ih.1 k ((s.expireSlot_sl i).1 k hk), (s.expireSlot_sl i).2.trans ih.2⟩

/-- An expiry at another slot leaves this one. -/
theorem State.expireSlot_getElem?_ne {i j : Nat} (h : i ≠ j) : (s.expireSlot i).ct[j]? = s.ct[j]? := by
  rw [State.expireSlot_ct, List.getElem?_modify]
  simp [h]

/-- With no notifying record among the slots, the link is unchanged. -/
theorem foldl_expireSlot_sl_of_silent (hl : l.Nodup) (h : ∀ i ∈ l, ∀ x, s.ct[i]? = some x → ¬ x.notifies) :
    (l.foldl State.expireSlot s).sl = s.sl := by
  induction l generalizing s with
  | nil => rfl
  | cons i l ih =>
    obtain ⟨hi, hl⟩ := List.nodup_cons.1 hl
    have hrest : ∀ j ∈ l, ∀ x, (s.expireSlot i).ct[j]? = some x → ¬ x.notifies := fun j hj x hx => by
      rw [State.expireSlot_getElem?_ne (ne_of_mem_of_not_mem hj hi).symm] at hx
      exact h j (List.mem_cons_of_mem _ hj) x hx
    exact (ih hl hrest).trans (s.expireSlot_sl_of_silent (h i List.mem_cons_self))

/-- Each notifying record among the slots is told. -/
theorem foldl_expireSlot_told (hl : l.Nodup) {j : Nat} {x : Slot} (hj : j ∈ l) (hx : s.ct[j]? = some x)
    (hn : x.notifies) : (l.foldl State.expireSlot s).sl.told ⟨j, x.gen⟩ := by
  induction l generalizing s with
  | nil => exact absurd hj (by simp)
  | cons i l ih =>
    obtain ⟨hi, hl⟩ := List.nodup_cons.1 hl
    rcases List.mem_cons.1 hj with rfl | hj
    · exact (foldl_expireSlot_sl (s := s.expireSlot j)).1 _ (s.expireSlot_told hx hn)
    · exact ih hl hj (by rwa [State.expireSlot_getElem?_ne (ne_of_mem_of_not_mem hj hi).symm])

/-- Expiries act on the table and the link alone. -/
theorem foldl_expireSlot_frame :
    l.foldl State.expireSlot s =
      { s with ct := (l.foldl State.expireSlot s).ct, sl := (l.foldl State.expireSlot s).sl } := by
  induction l generalizing s with
  | nil => rfl
  | cons i l ih =>
    rw [List.foldl_cons, ih]
    simp

/-! ### One countdown (R10) -/

theorem expiredSlots_nodup (kind : ExpiryKind) (t : List Slot) : (expiredSlots kind t).Nodup :=
  (List.nodup_zipIdx_map_snd t).sublist ((List.filter_sublist).map _)

theorem mem_expiredSlots {kind : ExpiryKind} {t : List Slot} {i : Nat} :
    i ∈ expiredSlots kind t ↔ ∃ x, t[i]? = some x ∧ x.entry.expiredOf kind = true := by
  simp [expiredSlots, List.mem_zipIdx_iff_getElem?]

/-- R10, R12: a slot counted down, and expired where its counter stands at 0. -/
theorem Slot.counted_eq (kind : ExpiryKind) (x : Slot) :
    x.counted kind =
      if (x.countDown kind).entry.expiredOf kind then (x.countDown kind).expire else x.countDown kind := by
  obtain ⟨g, e⟩ := x
  cases e with
  | free => rfl
  | fading r => rfl
  | live r =>
    cases he : r.expiry with
    | none => simp [Slot.counted, Slot.countDown, SlotEntry.expiredOf, he]
    | some e =>
      by_cases hk : e.kind = kind
      · by_cases hc : e.counter ≤ 1 <;>
          simp [Slot.counted, Slot.countDown, SlotEntry.expiredOf, he, hk, hc, Nat.sub_eq_zero_iff_le,
            CeilingRecord.retired_expiry]
      · simp [Slot.counted, Slot.countDown, SlotEntry.expiredOf, he, hk]

/-- A record tells of its expiry exactly where it notifies and its counter comes to stand at 0. -/
theorem Slot.tellsExpiry_iff (kind : ExpiryKind) (x : Slot) :
    x.tellsExpiry kind ↔ (x.countDown kind).entry.expiredOf kind = true ∧ (x.countDown kind).notifies := by
  obtain ⟨g, e⟩ := x
  cases e with
  | free => simp [Slot.tellsExpiry, Slot.countDown, SlotEntry.expiredOf]
  | fading r => simp [Slot.tellsExpiry, Slot.countDown, SlotEntry.expiredOf]
  | live r =>
    cases he : r.expiry with
    | none => simp [Slot.tellsExpiry, Slot.countDown, SlotEntry.expiredOf, he]
    | some e =>
      by_cases hk : e.kind = kind
      · simp [Slot.tellsExpiry, Slot.countDown, SlotEntry.expiredOf, Slot.notifies, he, hk, Nat.sub_eq_zero_iff_le]
      · simp [Slot.tellsExpiry, Slot.countDown, SlotEntry.expiredOf, Slot.notifies, he, hk]

theorem Slot.countDown_gen (kind : ExpiryKind) (x : Slot) : (x.countDown kind).gen = x.gen := by
  unfold Slot.countDown
  split
  · split
    · split <;> rfl
    · rfl
  · rfl

/-- R10: the table after one countdown. -/
theorem State.countDownAll_ct (s : State) (kind : ExpiryKind) :
    (s.countDownAll kind).ct = s.ct.map (Slot.counted kind) := by
  refine List.ext_getElem? fun j => ?_
  unfold State.countDownAll
  rw [foldl_expireSlot_ct (expiredSlots_nodup ..), State.withCt_ct, List.getElem?_map, List.getElem?_map]
  cases hj : s.ct[j]? with
  | none => rfl
  | some x => simp [mem_expiredSlots, hj, Slot.counted_eq]

theorem State.countDownAll_frame (s : State) (kind : ExpiryKind) :
    s.countDownAll kind = { s with ct := (s.countDownAll kind).ct, sl := (s.countDownAll kind).sl } :=
  foldl_expireSlot_frame

/-- R12, R198: what one countdown tells the link. -/
theorem State.countDownAll_sl (s : State) (kind : ExpiryKind) :
    s.sl.sameBut (s.countDownAll kind).sl ∧
    ((∀ x ∈ s.ct, ¬ x.tellsExpiry kind) → (s.countDownAll kind).sl = s.sl) ∧
    ∀ i x, s.ct[i]? = some x → x.tellsExpiry kind → (s.countDownAll kind).sl.told ⟨i, x.gen⟩ := by
  have hslot : ∀ {i : Nat} {y : Slot}, (s.ct.map (Slot.countDown kind))[i]? = some y →
      ∃ x, s.ct[i]? = some x ∧ x.countDown kind = y := fun h => by simpa using h
  refine ⟨(foldl_expireSlot_sl (s := s.withCt _)).2, fun hsilent => ?_, fun i x hi hx => ?_⟩
  · refine foldl_expireSlot_sl_of_silent (s := s.withCt _) (expiredSlots_nodup ..) fun i hi y hy hn => ?_
    obtain ⟨x, hx, rfl⟩ := hslot hy
    obtain ⟨y, hy', hexp⟩ := mem_expiredSlots.1 hi
    obtain rfl := Option.some.inj (hy.symm.trans hy')
    exact hsilent x (List.mem_of_getElem? hx) ((x.tellsExpiry_iff kind).2 ⟨hexp, hn⟩)
  · obtain ⟨hexp, hn⟩ := (x.tellsExpiry_iff kind).1 hx
    have hget : (s.ct.map (Slot.countDown kind))[i]? = some (x.countDown kind) := by simp [hi]
    rw [← x.countDown_gen kind]
    exact foldl_expireSlot_told (s := s.withCt _) (expiredSlots_nodup ..) (mem_expiredSlots.2 ⟨_, hget, hexp⟩) hget hn

end Sys2Proof.Machine

namespace Sys2Proof.Proofs.CeilingTable

open Sys2Proof Sys2Proof.Machine

/-- RECORD_EXPIRY at a slot that keeps a LIVE record whose counter stands at 0. -/
theorem exec_recordExpiry_of_expired {s : State} {slot g : Nat} {r : CeilingRecord} {e : Countdown}
    (hs : s.ct[slot]? = some ⟨g, .live r⟩) (he : r.expiry = some e) (hc : e.counter = 0) :
    exec (.recordExpiry slot) s = .next (s.expireSlot slot) := by
  simp [exec, execRecordExpiry, hs, SlotEntry.expired, he, hc]

/-- RECORD_EXPIRY does nothing elsewhere (log 8). -/
theorem exec_recordExpiry_of_not {s : State} {slot : Nat}
    (h : ∀ g r e, s.ct[slot]? = some ⟨g, .live r⟩ → r.expiry = some e → 0 < e.counter) :
    exec (.recordExpiry slot) s = .next s := by
  have hnot : (s.ct.getD slot ⟨0, .free⟩).entry.expired = false := by
    cases hs : s.ct[slot]? with
    | none => simp [hs, SlotEntry.expired]
    | some x =>
      obtain ⟨g, entry⟩ := x
      rw [getD_of_getElem? hs]
      cases entry with
      | free => rfl
      | fading r => rfl
      | live r =>
        cases he : r.expiry with
        | none => simp [SlotEntry.expired, he]
        | some e => simpa [SlotEntry.expired, he] using (h g r e hs he).ne'
  simp only [exec, execRecordExpiry, hnot, Bool.false_eq_true, if_false]

/-- Settles O20: both countdowns by the laws of one countdown over the table that the ramp step leaves, and the expiry
row by what the slot keeps and the room in the retired-handle list. -/
theorem countdownsRetireExpiredRecords : Obligations.CountdownsRetireExpiredRecords := by
  refine ⟨fun s kind c before h => ?_, fun s slot g r e hs he => ⟨fun hc hn => ?_, fun hc hn hroom hm => ?_,
    fun hc hn hm => ?_, fun hc hn hfull hm => ?_, fun hpos => ?_⟩, fun s slot h => exec_recordExpiry_of_not h⟩
  · have hexec : exec c s = .next ((s.withCt before).countDownAll kind) := by
      rcases h with ⟨rfl, rfl, rfl⟩ | ⟨⟨d, rfl⟩, rfl, rfl⟩ <;> rfl
    obtain ⟨hsame, hsilent, htold⟩ := (s.withCt before).countDownAll_sl kind
    exact ⟨_, hexec, State.countDownAll_ct _ _, State.countDownAll_frame (s.withCt before) kind, hsame, hsilent, htold⟩
  · rw [exec_recordExpiry_of_expired hs he hc, s.expireSlot_of_silent hs hn]
    rfl
  · rw [exec_recordExpiry_of_expired hs he hc, s.expireSlot_of_notify hs hn]
    exact congrArg _ (State.enterRetired_of_room (s.withCt _) hm hroom)
  · rw [exec_recordExpiry_of_expired hs he hc, s.expireSlot_of_notify hs hn]
    exact congrArg _ (State.enterRetired_of_mem (s.withCt _) hm)
  · rw [exec_recordExpiry_of_expired hs he hc, s.expireSlot_of_notify hs hn]
    exact congrArg _ (State.enterRetired_of_full (s.withCt _) hm hfull)
  · refine exec_recordExpiry_of_not fun g' r' e' hs' he' => ?_
    obtain ⟨-, rfl⟩ : g = g' ∧ r = r' := by simpa [hs] using hs'
    obtain rfl := Option.some.inj (he.symm.trans he')
    exact hpos

end Sys2Proof.Proofs.CeilingTable

namespace Sys2Proof.Machine

variable (s : State)

/-! ### What the supervisor's requests can do to the table (R18 to R20) -/

/-- R2: a request has its effect only where every check passes. -/
theorem checked_cases (l : List (Bool × Answer)) (ok : State × Answer) :
    (checked s l ok).1 = s ∨ (∀ p ∈ l, p.1 = false) ∧ checked s l ok = ok := by
  induction l with
  | nil => exact .inr ⟨by simp, rfl⟩
  | cons p l ih =>
    obtain ⟨b, a⟩ := p
    cases b with
    | true => exact .inl rfl
    | false => exact ih.imp_right fun ⟨hl, hok⟩ => ⟨by simpa using hl, hok⟩

theorem SlotEntry.live_of_held {e : SlotEntry} {r : CeilingRecord} (he : e.held = some r) (hf : e.isFading = false) :
    e = .live r := by
  cases e <;> simp_all [SlotEntry.held, SlotEntry.isFading]

/-- R18: a placement that is not refused is of a record within its kind's range, and within the supervisor's quota. -/
theorem placeBody_cases (r : PlaceReq) :
    (placeBody r s).1 = s ∨
      (placedRecord r s).legal false ∧ supervisorCount s.ct < 24 ∧
        ∃ n, (placeBody r s).1 = (s.withCt (placeRecord s.ct (placedRecord r s)).1).withFree n := by
  refine (checked_cases s (placeChecks r s) _).imp_right fun ⟨hpass, hok⟩ => ?_
  simp only [placeChecks, List.forall_mem_cons, decide_eq_false_iff_not, not_lt, not_le] at hpass
  obtain ⟨hkind, -, -, -, htarget, -, -, hquota, -⟩ := hpass
  have hmax : (placedRecord r s).limit.maximum = kindMaximum r.kind := by
    unfold placedRecord kindMaximum
    dsimp only
    split <;> rfl
  refine ⟨(CeilingRecord.legal_live_iff _).2 ⟨le_rfl, hmax ▸ htarget, fun k hk => ?_⟩, hquota, _, congrArg Prod.fst hok⟩
  exact Holder.noConfusion hk

/-- R19: an amendment that is not refused is of a LIVE supervisor record, with a target within its kind's range. -/
theorem amendBody_cases (a : AmendReq) :
    (amendBody a s).1 = s ∨
      ∃ r, s.ct[a.slot]? = some ⟨a.gen, .live r⟩ ∧ r.holder = .supervisor ∧
        (∀ t, a.target = some t → t ≤ r.limit.maximum) ∧
        (amendBody a s).1 = s.withCt (s.ct.set a.slot ⟨a.gen, .live (r.amended a)⟩) := by
  refine (checked_cases s (amendChecks a s) _).imp_right fun ⟨hpass, hok⟩ => ?_
  cases hheld : (handleEntry s.ct a.slot a.gen).held with
  | none => simp [amendChecks, handleChecks, hheld] at hpass
  | some r =>
    obtain ⟨-, e, hslot, he, hentry⟩ := slot_of_handleEntry hheld
    simp only [amendChecks, handleChecks, hentry, he, List.cons_append, List.nil_append, List.forall_mem_cons] at hpass
    obtain ⟨-, -, howner, hfading, -, htarget, -⟩ := hpass
    obtain rfl := SlotEntry.live_of_held he hfading
    refine ⟨r, hslot, by simpa [notSupervisors, SlotEntry.held] using howner, fun t ht => ?_, ?_⟩
    · simpa [ht] using htarget
    · rw [amendBody, hok, hheld]

/-- R20: a retirement that is not refused is of a LIVE supervisor record. -/
theorem retireBody_cases (slot gen : Nat) :
    (retireBody slot gen s).1 = s ∨
      ∃ r, s.ct[slot]? = some ⟨gen, .live r⟩ ∧ r.holder = .supervisor ∧
        (retireBody slot gen s).1 = s.withCt (s.ct.set slot ⟨gen, r.retired⟩) := by
  refine (checked_cases s (retireChecks slot gen s) _).imp_right fun ⟨hpass, hok⟩ => ?_
  cases hheld : (handleEntry s.ct slot gen).held with
  | none => simp [retireChecks, handleChecks, hheld] at hpass
  | some r =>
    obtain ⟨-, e, hslot, he, hentry⟩ := slot_of_handleEntry hheld
    simp only [retireChecks, handleChecks, hentry, List.cons_append, List.nil_append, List.forall_mem_cons] at hpass
    obtain ⟨-, -, howner, hfading, -⟩ := hpass
    obtain rfl := SlotEntry.live_of_held he hfading
    refine ⟨r, hslot, by simpa [notSupervisors, SlotEntry.held] using howner, ?_⟩
    rw [retireBody, hok, hheld]

/-- R193, R195: a request leaves every block but the link as its body does. -/
theorem request_keeps {P : State → Prop} (q : Req) (body : State → State × Answer) (h : P s)
    (hsl : ∀ t x, P t → P (t.withSl x)) (hbody : ∀ t, P t → P (body t).1) : P (request q body s) := by
  unfold request
  split
  · exact hsl _ _ h
  · exact hsl _ _ (hbody _ (hsl _ _ h))

/-! ### Legality (R3 to R6) -/

theorem placeBody_legal {s : State} (r : PlaceReq) (ht : tableLegal s.ct) : tableLegal (placeBody r s).1.ct := by
  rcases placeBody_cases s r with h | ⟨hrecord, hquota, n, h⟩ <;> rw [h]
  · exact ht
  · exact placeRecord_legal ht hrecord (supervisorCount_eq_countP s.ct ▸ hquota)

theorem CeilingRecord.amended_holder (r : CeilingRecord) (a : AmendReq) : (r.amended a).holder = r.holder :=
  CeilingRecord.setTarget_holder _ _

theorem amendBody_legal {s : State} (a : AmendReq) (ht : tableLegal s.ct) : tableLegal (amendBody a s).1.ct := by
  rcases amendBody_cases s a with h | ⟨r, hslot, howner, htarget, h⟩ <;> rw [h]
  · exact ht
  · obtain ⟨hg, hg1, hr⟩ := Slot.legal_live.1 (Slot.legal_of_getElem? ht hslot)
    obtain ⟨-, hmax, -⟩ := r.legal_live_iff.1 hr
    have hnew : a.target.getD r.target ≤ r.limit.maximum := by
      cases hat : a.target with
      | none => exact hmax
      | some v => exact htarget v hat
    have hkeyed : ∀ q : CeilingRecord, q.holder = r.holder → q.keyed := fun q hq k hk =>
      Holder.noConfusion ((howner.symm.trans hq.symm).trans hk)
    refine tableLegal_set ht hslot (Slot.legal_live.2 ⟨hg, hg1, CeilingRecord.setTarget_legal (hkeyed _ rfl) hnew⟩)
      fun h hh => .inl ?_
    simpa [CeilingRecord.amended_holder] using hh

theorem retireBody_legal {s : State} (slot gen : Nat) (ht : tableLegal s.ct) :
    tableLegal (retireBody slot gen s).1.ct := by
  rcases retireBody_cases s slot gen with h | ⟨r, hslot, -, h⟩ <;> rw [h]
  · exact ht
  · have hx := Slot.legal_of_getElem? ht hslot
    exact tableLegal_set ht hslot (Slot.expire_legal hx) fun h hh => .inl (Slot.expire_heldBy (x := ⟨gen, .live r⟩) hh)

theorem expireSlot_legal {s : State} (i : Nat) (ht : tableLegal s.ct) : tableLegal (s.expireSlot i).ct := by
  rw [State.expireSlot_ct, List.modify_eq_set_getElem?]
  cases hi : s.ct[i]? with
  | none => exact ht
  | some x =>
    exact tableLegal_set ht hi (Slot.expire_legal (Slot.legal_of_getElem? ht hi)) fun h hh => .inl (Slot.expire_heldBy hh)

theorem countDownAll_legal {s : State} (kind : ExpiryKind) (ht : tableLegal s.ct) :
    tableLegal (s.countDownAll kind).ct := by
  rw [State.countDownAll_ct]
  exact tableLegal_map _ ht (fun _ => Slot.counted_legal) fun _ _ => Slot.counted_heldBy

theorem Ct.reset_legal : tableLegal Ct.reset := by
  refine (tableLegal_iff _).2 ⟨List.length_replicate, fun x hx => ?_, fun h => ?_⟩
  · obtain rfl := List.eq_of_mem_replicate hx
    exact Slot.legal_free (Nat.zero_le _)
  · have hnone : Ct.reset.countP (Slot.heldBy h) = 0 :=
      List.countP_eq_zero.2 fun x hx => by simp [List.eq_of_mem_replicate hx]
    exact hnone ▸ Nat.zero_le _

theorem softReset_legal {s : State} (ht : tableLegal s.ct) : tableLegal s.softReset.ct :=
  tableLegal_map _ ht (fun _ hx => Slot.legal_free hx.1) fun _ _ hh => absurd hh (by simp [Slot.softReset])

/-- R3 to R6: every command keeps the table legal. -/
theorem exec_legal {c : Instr} {s t : State} (ht : tableLegal s.ct) (h : exec c s = .next t) : tableLegal t.ct := by
  have hrequest (q : Req) {body : State → State × Answer} (hbody : ∀ u, tableLegal u.ct → tableLegal (body u).1.ct) :
      tableLegal (request q body s).ct := request_keeps s (P := fun u => tableLegal u.ct) q body ht (fun _ _ hu => hu) hbody
  by_cases hplace : ∃ r, c = .placeCeiling r
  · obtain ⟨r, rfl⟩ := hplace
    obtain rfl := Host.Outcome.next.inj h
    exact hrequest _ fun _ => placeBody_legal r
  · push Not at hplace
    by_cases hacts : actsOnSupervisorRecords c = true
    · cases c with
      | amendCeiling a =>
        obtain rfl := Host.Outcome.next.inj h
        exact hrequest _ fun _ => amendBody_legal a
      | retireCeiling slot gen =>
        obtain rfl := Host.Outcome.next.inj h
        exact hrequest _ fun _ => retireBody_legal slot gen
      | tableTimer =>
        obtain rfl := Host.Outcome.next.inj h
        exact countDownAll_legal _ (tableLegal_map _ ht (fun _ => Slot.rampStep_legal) fun _ _ => Slot.rampStep_heldBy)
      | distanceExpiryCount dir =>
        obtain rfl := Host.Outcome.next.inj h
        exact countDownAll_legal _ ht
      | recordExpiry slot =>
        obtain rfl := Host.Outcome.next.inj h
        split
        · exact expireSlot_legal slot ht
        · exact ht
      | softReset =>
        obtain rfl := Host.Outcome.next.inj h
        refine hrequest _ fun u hu => ?_
        rcases checked_state u _ (u.softReset, done []) with h' | h' <;> rw [softResetBody, h']
        · exact hu
        · exact softReset_legal hu
      | hardReset =>
        obtain rfl := Host.Outcome.next.inj h
        exact Ct.reset_legal
      | _ => exact Bool.noConfusion hacts
    · exact (exec_acts (by simpa using hacts) hplace h).table.legal ht

/-! ### Frames of the commands that act on the supervisor's records -/

theorem sameBlock_withCt {b : Block} (hb : b ≠ .ct) (x : List Slot) : sameBlock b s (s.withCt x) := by
  cases b <;> first | rfl | exact absurd rfl hb

/-- A request whose body acts on the table alone leaves every block but the table and the link. -/
theorem request_sameBlock {b : Block} (hb : b ∉ [Block.ct, .sl]) (q : Req) (body : State → State × Answer)
    (hbody : ∀ u, sameBlock b u (body u).1) : sameBlock b s (request q body s) := by
  refine request_keeps s (P := sameBlock b s) q body (sameBlock_refl b s) (fun u x hu => ?_) fun u hu => hu.trans (hbody u)
  exact hu.trans ((u.withSl_acts x).blocks b fun hsl => hb (List.mem_cons_of_mem _ hsl))

/-- Each command leaves the blocks it does not act on. -/
theorem exec_sameBlock {c : Instr} {s t : State} (h : exec c s = .next t) {b : Block} (hb : b ∉ touched c) :
    sameBlock b s t := by
  have htable {u : State} (hu : u = { s with ct := u.ct, sl := u.sl }) (hb : b ∉ [Block.ct, .sl]) : sameBlock b s u := by
    rw [hu]
    cases b <;> first | rfl | simp at hb
  have hct (hb : b ∉ [Block.ct, .sl]) : b ≠ .ct := fun h => hb (h ▸ List.mem_cons_self)
  by_cases hplace : ∃ r, c = .placeCeiling r
  · obtain ⟨r, rfl⟩ := hplace
    obtain rfl := Host.Outcome.next.inj h
    refine request_sameBlock s hb _ _ fun u => ?_
    rcases placeBody_cases u r with h' | ⟨-, -, n, h'⟩ <;> rw [h']
    · exact sameBlock_refl b u
    · exact (sameBlock_withCt u (hct hb) _).trans ((State.withFree_acts ..).blocks b List.not_mem_nil)
  · push Not at hplace
    by_cases hacts : actsOnSupervisorRecords c = true
    · cases c with
      | amendCeiling a =>
        obtain rfl := Host.Outcome.next.inj h
        refine request_sameBlock s hb _ _ fun u => ?_
        rcases amendBody_cases u a with h' | ⟨r, -, -, -, h'⟩ <;> rw [h']
        · exact sameBlock_refl b u
        · exact sameBlock_withCt u (hct hb) _
      | retireCeiling slot gen =>
        obtain rfl := Host.Outcome.next.inj h
        refine request_sameBlock s hb _ _ fun u => ?_
        rcases retireBody_cases u slot gen with h' | ⟨r, -, -, h'⟩ <;> rw [h']
        · exact sameBlock_refl b u
        · exact sameBlock_withCt u (hct hb) _
      | tableTimer =>
        obtain rfl := Host.Outcome.next.inj h
        exact htable (State.countDownAll_frame (s.withCt _) .time) hb
      | distanceExpiryCount dir =>
        obtain rfl := Host.Outcome.next.inj h
        exact htable (State.countDownAll_frame s .distance) hb
      | recordExpiry slot =>
        obtain rfl := Host.Outcome.next.inj h
        split
        · exact htable (foldl_expireSlot_frame (l := [slot])) hb
        · exact sameBlock_refl b s
      | softReset | hardReset => exact absurd (by cases b <;> simp [touched]) hb
      | _ => exact Bool.noConfusion hacts
    · exact (exec_acts (by simpa using hacts) hplace h).blocks b hb

end Sys2Proof.Machine

namespace Sys2Proof.Proofs.CeilingTable

open Sys2Proof Sys2Proof.Machine

/-- Settles O23: a step runs one command, or none, on the same table. -/
theorem ceilingTableStaysLegal : Obligations.CeilingTableStaysLegal := by
  intro s t ht h
  unfold step at h
  split at h
  · next c rest _ => exact exec_legal (s := s.withPending rest) ht h
  · split at h
    · next e rest _ => exact exec_legal (s := s.withHanded rest) ht h
    · obtain rfl := Host.Outcome.next.inj h
      exact ht

/-- Settles O3: the frame of every command; and a supervisor's slot stands under a placement, which takes a FREE one,
and under the internal owners' claims, which are all that the other commands do to the table. -/
theorem commandsChangeOnlyTheirBlocks : Obligations.CommandsChangeOnlyTheirBlocks := by
  refine fun c s t h => ⟨fun b hb => exec_sameBlock h hb, fun i x r hacts hx hr howner => ?_⟩
  have hsup : x.heldBy .supervisor = true := Slot.heldBy_iff.2 ⟨r, hr, howner⟩
  by_cases hplace : ∃ r, c = .placeCeiling r
  · obtain ⟨q, rfl⟩ := hplace
    obtain rfl := Host.Outcome.next.inj h
    refine request_keeps s (P := fun u => u.ct[i]? = some x) _ _ hx (fun _ _ hu => hu) fun u hu => ?_
    rcases placeBody_cases u q with h' | ⟨-, -, n, h'⟩ <;> rw [h']
    · exact hu
    · exact supervisorStands_place _ _ i x hu hsup
  · push Not at hplace
    exact (exec_acts hacts hplace h).table.supervisorStands i x hx hsup

end Sys2Proof.Proofs.CeilingTable

namespace Sys2Proof.Machine

/-! ### Effective ceilings (R17) -/

/-- The binding record of a ceiling over a list in slot order: the first that holds the lowest value. -/
def Ceiling.binds (c : Ceiling) (most : Nat) (l : List (Handle × Nat)) : Prop :=
  (c.binding = none ∧ c.value = most ∧ l = []) ∨
    ∃ pre h post, l = pre ++ (h, c.value) :: post ∧ c.binding = some h ∧ (∀ p ∈ pre, c.value < p.2) ∧
      ∀ p ∈ post, c.value ≤ p.2

theorem lowest_append_singleton (most : Nat) (l : List (Handle × Nat)) (h : Handle) (v : Nat) :
    lowest most (l ++ [(h, v)]) =
      if (lowest most l).binding.isNone || decide (v < (lowest most l).value) then ⟨v, some h⟩ else lowest most l := by
  simp [lowest, List.foldl_append]

/-- R17: the lowest value, held by the first that has it. -/
theorem lowest_binds (most : Nat) (l : List (Handle × Nat)) : (lowest most l).binds most l := by
  induction l using List.reverseRecOn with
  | nil => exact .inl ⟨rfl, rfl, rfl⟩
  | append_singleton l p ih =>
    obtain ⟨h, v⟩ := p
    rw [lowest_append_singleton]
    generalize lowest most l = c at ih
    rcases ih with ⟨hnone, -, rfl⟩ | ⟨pre, k, post, rfl, hbind, hpre, hpost⟩
    · rw [if_pos (by simp [hnone])]
      exact .inr ⟨[], h, [], rfl, rfl, by simp, by simp⟩
    · by_cases hlt : v < c.value
      · rw [if_pos (by simp [hlt])]
        refine .inr ⟨_, h, [], rfl, rfl, fun q hq => ?_, by simp⟩
        rcases List.mem_append.1 hq with hq | hq
        · exact hlt.trans (hpre q hq)
        · rcases List.mem_cons.1 hq with rfl | hq
          · exact hlt
          · exact hlt.trans_le (hpost q hq)
      · rw [if_neg (by simp [hbind, hlt])]
        refine .inr ⟨pre, k, post ++ [(h, v)], by simp, hbind, hpre, fun q hq => ?_⟩
        rcases List.mem_append.1 hq with hq | hq
        · exact hpost q hq
        · rw [List.mem_singleton.1 hq]
          exact not_lt.1 hlt

/-- What a slot, with its number, gives to the records that match. -/
def entryMatching (p : CeilingRecord → Bool) (x : Slot × Nat) : Option (Handle × Nat) :=
  (x.1.entry.held.filter p).map fun r => (⟨x.2, x.1.gen⟩, r.current)

theorem matching_eq (t : List Slot) (p : CeilingRecord → Bool) : matching t p = t.zipIdx.filterMap (entryMatching p) := by
  refine congrArg (List.filterMap · t.zipIdx) (funext fun ⟨⟨g, e⟩, i⟩ => ?_)
  cases e with
  | free => rfl
  | live r | fading r => cases hp : p r <;> simp [SlotEntry.held, entryMatching, hp]

theorem entryMatching_eq_some {p : CeilingRecord → Bool} {x : Slot × Nat} {h : Handle} {v : Nat} :
    entryMatching p x = some (h, v) ↔
      ∃ r, x.1.entry.held = some r ∧ p r = true ∧ (⟨x.2, x.1.gen⟩ : Handle) = h ∧ r.current = v := by
  simp [entryMatching, and_assoc]

/-- The records that match are those of the slots, each with its handle and current value. -/
theorem mem_matching {t : List Slot} {p : CeilingRecord → Bool} {h : Handle} {v : Nat} :
    (h, v) ∈ matching t p ↔ ∃ x r, t[h.slot]? = some x ∧ x.gen = h.gen ∧ x.entry.held = some r ∧ p r = true ∧
      r.current = v := by
  simp only [matching_eq, List.mem_filterMap, Prod.exists, List.mk_mem_zipIdx_iff_getElem?, entryMatching_eq_some]
  constructor
  · rintro ⟨x, i, hx, r, hr, hp, rfl, hv⟩
    exact ⟨x, r, hx, rfl, hr, hp, hv⟩
  · rintro ⟨x, r, hx, hgen, hr, hp, hv⟩
    exact ⟨x, h.slot, hx, r, hr, hp, by rw [hgen], hv⟩

/-- The records that match stand in slot order. -/
theorem matching_pairwise (t : List Slot) (p : CeilingRecord → Bool) :
    (matching t p).Pairwise fun a b => a.1.slot < b.1.slot := by
  have hslots : t.zipIdx.Pairwise fun a b => a.2 < b.2 := by
    rw [← List.pairwise_map (f := Prod.snd) (R := (· < ·)), List.zipIdx_map_snd]
    exact List.pairwise_lt_range'
  rw [matching_eq]
  refine List.pairwise_filterMap.2 (hslots.imp fun hab c hc d hd => ?_)
  obtain ⟨-, -, -, hc, -⟩ := entryMatching_eq_some.1 hc
  obtain ⟨-, -, -, hd, -⟩ := entryMatching_eq_some.1 hd
  rwa [← hc, ← hd]

end Sys2Proof.Machine

namespace Sys2Proof.Proofs.CeilingTable

open Sys2Proof Sys2Proof.Machine

/-- Settles O22: the binding record splits the matching ones, which stand in slot order, into those before it, that lie
above the ceiling, and those after it, that do not lie below. -/
theorem effectiveCeilingIsLowestMatch : Obligations.EffectiveCeilingIsLowestMatch := by
  intro t most p c hlookup
  obtain rfl : c = lowest most (matching t p) := by
    rcases hlookup with ⟨n, retard, rfl, rfl, rfl⟩ | ⟨rfl, rfl, rfl⟩ | ⟨k, rfl, rfl, rfl⟩ | ⟨o, rfl, rfl, rfl⟩ <;> rfl
  have hbinds := lowest_binds most (matching t p)
  generalize lowest most (matching t p) = c at hbinds
  rcases hbinds with ⟨hnone, hvalue, hempty⟩ | ⟨pre, h, post, hsplit, hbind, hpre, hpost⟩
  · refine ⟨fun i x r hx hr hp => ?_, fun _ => hvalue, fun h hh => absurd (hnone.symm.trans hh) (by simp)⟩
    have hmem : (⟨i, x.gen⟩, r.current) ∈ matching t p := mem_matching.2 ⟨x, r, hx, rfl, hr, hp, rfl⟩
    exact absurd hmem (by simp [hempty])
  · have hmatch {q : Handle × Nat} (hq : q ∈ matching t p) : q ∈ pre ∨ q = (h, c.value) ∨ q ∈ post := by
      simpa [hsplit] using hq
    have horder := hsplit ▸ matching_pairwise t p
    have hafter := (List.pairwise_cons.1 (List.pairwise_append.1 horder).2.1).1
    refine ⟨fun i x r hx hr hp => ⟨by simp [hbind], ?_⟩, fun hnone => absurd (hbind.symm.trans hnone) (by simp), ?_⟩
    · rcases hmatch (mem_matching (h := ⟨i, x.gen⟩).2 ⟨x, r, hx, rfl, hr, hp, rfl⟩) with hq | hq | hq
      · exact (hpre _ hq).le
      · exact (congrArg Prod.snd hq).ge
      · exact hpost _ hq
    · intro h' hh'
      obtain rfl : h = h' := Option.some.inj (hbind.symm.trans hh')
      obtain ⟨x, r, hx, hgen, hr, hp, hv⟩ := mem_matching.1 (show (h, c.value) ∈ matching t p by simp [hsplit])
      refine ⟨x, r, hx, hgen, hr, hp, hv, fun j y q hj hy hq hpq => ?_⟩
      rcases hmatch (mem_matching (h := ⟨j, y.gen⟩).2 ⟨y, q, hy, rfl, hq, hpq, rfl⟩) with hm | hm | hm
      · exact hpre _ hm
      · exact absurd (congrArg (·.1.slot) hm) hj.ne
      · exact absurd (hafter _ hm) (Nat.lt_asymm hj)

end Sys2Proof.Proofs.CeilingTable

namespace Sys2Proof.Machine

/-! ### Requests on a free link, answered or refused (R2, R193) -/

/-- R2: the first row that calls for a refusal gives the answer. -/
theorem checked_refused {s : State} {rows : List (Bool × Answer)} {ok : State × Answer} {a : Answer}
    (h : (rows.find? Prod.fst).map Prod.snd = some a) : checked s rows ok = (s, a) := by
  induction rows with
  | nil => exact absurd h (by simp)
  | cons p rows ih =>
    obtain ⟨fails, b⟩ := p
    cases fails with
    | true => exact congrArg (s, ·) (by simpa using h)
    | false => exact ih (by simpa using h)

/-- R194: a request whose body leaves the state that its frame left is answered, and no more. -/
theorem request_unchanged (q : Req) (body : State → State × Answer) {s : State} {a : Answer} (h : s.linkFree)
    (hb : body s.takeFrame = (s.takeFrame, a)) : request q body s = replied s s q a :=
  request_replied q body s s a h hb rfl

/-! ### Operands (R18, R19, R204) -/

theorem scopeOf_isNone (n : Nat) : (scopeOf n).isNone = !decide (1 ≤ n ∧ n ≤ 15) := by
  unfold scopeOf
  by_cases h : 1 ≤ n ∧ n ≤ 15
  · have hin : ¬(n = 0 ∨ 16 ≤ n) := by omega
    simp [h, hin]
  · have hout : n = 0 ∨ 16 ≤ n := by omega
    simp [h, hout]

theorem directionOf_isNone (c : Nat) : (directionOf c).isNone = !decide (c ≤ 2) := by
  match c with
  | 0 | 1 | 2 => rfl
  | c + 3 => simp [directionOf]

theorem expiryOf_isNone (e : Nat × Nat) : (expiryOf e).isNone = decide (1 < e.1 ∨ e.2 = 0) := by
  match e with
  | (0, 0) | (1, 0) | (0, v + 1) | (1, v + 1) => simp [expiryOf]
  | (k + 2, v) => simp [expiryOf]

theorem badRamp_eq (most k : Nat) : badRamp most k = decide (k = 0 ∨ most < k) := by
  simp [badRamp, Bool.decide_or, beq_eq_decide]

theorem bind_isNone_eq_any {α β : Type} (o : Option α) {f : α → Option β} {p : α → Bool} (h : ∀ x, (f x).isNone = !p x) :
    (o.bind f).isNone = !o.any p := by
  cases o with
  | none => rfl
  | some x => exact h x

/-- The expiry that a request's fields name. -/
theorem expiryOf_start {e : Nat × Nat} (h : e.1 ≤ 1 ∧ 1 ≤ e.2) :
    (expiryOf e).map Expiry.start = some ⟨if e.1 = 0 then .time else .distance, e.2, e.2⟩ := by
  obtain ⟨k, v⟩ := e
  obtain ⟨hk, hv⟩ := h
  obtain ⟨v, rfl⟩ : ∃ n, v = n + 1 := ⟨v - 1, by simp at hv; omega⟩
  match k with
  | 0 | 1 => rfl
  | k + 2 => exact absurd hk (by simp)

/-! ### PLACE_CEILING (R18) -/

theorem placeChecks_eq (r : PlaceReq) (s : State) :
    placeChecks r s =
      [ (decide (1 < r.kind), refuseValue .kind),
        (decide (r.kind = 1) && (r.scope.isSome || r.direction.isSome), refuseValue .speedFields),
        (decide (r.kind = 0) && !(r.scope.any fun n => decide (1 ≤ n ∧ n ≤ 15)), refuseValue .scope),
        (decide (r.kind = 0) && !(r.direction.any fun d => decide (d ≤ 2)), refuseValue .direction),
        (decide (kindMaximum r.kind < r.target), refuseValue .target),
        (r.ramp.any fun k => decide (k = 0 ∨ kindMaximum r.kind < k), refuseValue .ramp),
        (r.expiry.any fun e => decide (1 < e.1 ∨ e.2 = 0), refuseValue .expiry),
        (decide (24 ≤ supervisorCount s.ct), refuseState .quota) ] := by
  unfold placeChecks
  rw [bind_isNone_eq_any r.scope scopeOf_isNone, bind_isNone_eq_any r.direction directionOf_isNone,
    funext (badRamp_eq (kindMaximum r.kind)), funext expiryOf_isNone]
  rfl

/-- R18: the limit a placement names, its fields in form. -/
def namesLimit (r : PlaceReq) (limit : Limit) : Prop :=
  (r.kind = 0 ∧ ∃ n c scope dir, r.scope = some n ∧ scopeOf n = some scope ∧ r.direction = some c ∧
    directionOf c = some dir ∧ limit = .torque scope dir) ∨
  (r.kind = 1 ∧ r.scope = none ∧ r.direction = none ∧ limit = .speed)

theorem namesLimit.maximum {r : PlaceReq} {limit : Limit} (h : namesLimit r limit) :
    limit.maximum = kindMaximum r.kind := by
  rcases h with ⟨hk, _, _, _, _, -, -, -, -, rfl⟩ | ⟨hk, -, -, rfl⟩ <;> rw [hk] <;> rfl

theorem placedRecord_limit {r : PlaceReq} {limit : Limit} (h : namesLimit r limit) (s : State) :
    (placedRecord r s).limit = limit := by
  rcases h with ⟨hk, n, c, scope, dir, hs, hscope, hd, hdir, rfl⟩ | ⟨hk, -, -, rfl⟩
  · simp [placedRecord, hk, hs, hscope, hd, hdir]
  · simp [placedRecord, hk]

/-- R18: a placement whose fields are in form, by a supervisor below its quota, passes every check. -/
theorem placeChecks_pass {r : PlaceReq} {limit : Limit} {s : State} (h : namesLimit r limit) (htarget : r.target ≤ limit.maximum)
    (hramp : ∀ k, r.ramp = some k → 1 ≤ k ∧ k ≤ limit.maximum)
    (hexpiry : ∀ e, r.expiry = some e → e.1 ≤ 1 ∧ 1 ≤ e.2)
    (hquota : supervisorCount s.ct < 24) : ∀ p ∈ placeChecks r s, p.1 = false := by
  rw [h.maximum] at htarget hramp
  have hrampRow : (r.ramp.any (badRamp (kindMaximum r.kind))) = false := by
    rw [Option.any_eq_false]
    intro k hk
    obtain ⟨hpos, hle⟩ := hramp k hk
    simp [badRamp_eq]
    omega
  have hexpiryRow : (r.expiry.any fun e => (expiryOf e).isNone) = false := by
    rw [Option.any_eq_false]
    intro e he
    obtain ⟨hkind, hpos⟩ := hexpiry e he
    simp [expiryOf_isNone]
    omega
  simp only [placeChecks, List.forall_mem_cons, hrampRow, hexpiryRow, decide_eq_false_iff_not, not_lt, not_le, htarget, hquota]
  rcases h with ⟨hk, n, c, scope, dir, hs, hscope, hd, hdir, -⟩ | ⟨hk, hs, hd, -⟩
  · simp [hk, hs, hscope, hd, hdir]
  · simp [hk, hs, hd]

theorem placeNotify_eq (r : PlaceReq) (s : State) :
    placeNotify r s = if r.notify = 0 then false else if r.notify = 1 then true else Config.freeNotify s.free := by
  unfold placeNotify
  split
  · next h => simp [h]
  · next h => simp [h]
  · next h0 h1 => rw [if_neg h0, if_neg h1]

end Sys2Proof.Machine

namespace Sys2Proof.Proofs.CeilingTable

open Sys2Proof Sys2Proof.Machine

/-- Settles O17: the rows are the request's checks; where all pass, the lowest FREE slot takes the record they describe. -/
theorem placeCeilingTakesLowestFreeSlot : Obligations.PlaceCeilingTakesLowestFreeSlot := by
  constructor
  · intro s r a hfree most rows hrow
    rw [← show placeChecks r s.takeFrame = rows from placeChecks_eq r s.takeFrame] at hrow
    exact congrArg Host.Outcome.next (request_unchanged _ _ hfree (checked_refused hrow))
  · intro s r i g limit hfree hquota hi hlow hnames htarget hramp hexpiry gen
    have hrecord : placedRecord r s.takeFrame =
        { holder := .supervisor, limit := limit, target := r.target, current := r.target, ramp := r.ramp
          expiry := r.expiry.map fun e => ⟨if e.1 = 0 then .time else .distance, e.2, e.2⟩
          reason := r.reason
          notify := if r.notify = 0 then false else if r.notify = 1 then true else Config.freeNotify s.free } := by
      have hstart : (r.expiry.bind expiryOf).map Expiry.start =
          r.expiry.map fun e => ⟨if e.1 = 0 then .time else .distance, e.2, e.2⟩ := by
        cases he : r.expiry with
        | none => rfl
        | some e => exact expiryOf_start (hexpiry e he)
      rw [← placedRecord_limit hnames s.takeFrame, ← hstart]
      exact congrArg _ (placeNotify_eq r s.takeFrame)
    have hfreed : (s.free + if 1 < r.notify then 1 else 0) = if r.notify ≤ 1 then s.free else s.free + 1 := by
      split <;> split <;> omega
    refine congrArg Host.Outcome.next (checked_replied _ _ _ _ _ _ _ hfree rfl
      (placeChecks_pass (s := s.takeFrame) hnames htarget hramp hexpiry hquota) ?_ rfl)
    rw [hrecord, ← hfreed]
    have hplaced (q : CeilingRecord) : placeRecord s.takeFrame.ct q = _ := placeRecord_of_free q hi hlow
    simp only [hplaced]
    rfl

end Sys2Proof.Proofs.CeilingTable

namespace Sys2Proof.Machine

/-! ### AMEND_CEILING and RETIRE_CEILING (R19, R20) -/

theorem handleChecks_outOfRange {t : List Slot} {slot gen : Nat} (rest : List (Bool × Answer)) (h : 47 < slot) :
    ((handleChecks t slot gen ++ rest).find? Prod.fst).map Prod.snd = some (refuseValue .handle) := by
  simp [handleChecks, h]

theorem handleChecks_noRecord {t : List Slot} {slot gen : Nat} (rest : List (Bool × Answer)) (h : slot ≤ 47)
    (hnone : namesNoRecord t slot gen) :
    ((handleChecks t slot gen ++ rest).find? Prod.fst).map Prod.snd = some (staleAnswer .noRecord) := by
  simp [handleChecks, Nat.not_lt.2 h, handleEntry_of_namesNoRecord hnone]

/-- R4: a handle that reaches a record passes the checks on handles. -/
theorem handleChecks_pass {t : List Slot} {slot gen : Nat} {e : SlotEntry} {r : CeilingRecord} (h : slot ≤ 47)
    (hgen : 1 ≤ gen) (hslot : t[slot]? = some ⟨gen, e⟩) (hr : e.held = some r) :
    ∀ p ∈ handleChecks t slot gen, p.1 = false := by
  simp [handleChecks, handleEntry_of_slot hgen hslot, hr, h]

theorem find?_append_of_pass {l rest : List (Bool × Answer)} (h : ∀ p ∈ l, p.1 = false) :
    (l ++ rest).find? Prod.fst = rest.find? Prod.fst := by
  rw [List.find?_append, List.find?_eq_none.2 (by simpa using h), Option.none_or]

theorem notSupervisors_eq {e : SlotEntry} {r : CeilingRecord} (hr : e.held = some r) :
    notSupervisors e = decide (r.holder ≠ .supervisor) := by
  simp [notSupervisors, hr, bne, beq_eq_decide]

theorem SlotEntry.isFading_eq {e : SlotEntry} {r : CeilingRecord} (hr : e.held = some r) :
    e.isFading = decide (e = .fading r) := by
  cases e <;> simp_all [SlotEntry.held, SlotEntry.isFading]

/-- R19: the checks of an amendment that reaches a record. -/
theorem amendChecks_eq {a : AmendReq} {s : State} {e : SlotEntry} {r : CeilingRecord} (hgen : 1 ≤ a.gen)
    (hslot : s.ct[a.slot]? = some ⟨a.gen, e⟩) (hr : e.held = some r) :
    amendChecks a s = handleChecks s.ct a.slot a.gen ++
      [ (decide (r.holder ≠ .supervisor), refuseState .notOwner),
        (decide (e = .fading r), refuseState .fading),
        ((a.kind.any fun k => decide (k ≠ r.limit.kindCode))
          || (a.scope.any fun n => decide (r.limit.scopeCode ≠ some n))
          || (a.direction.any fun d => decide (r.limit.directionCode ≠ some d)), refuseValue .fixedField),
        (a.target.any fun t => decide (r.limit.maximum < t), refuseValue .target),
        (replacedBad a.ramp fun k => decide (k = 0 ∨ r.limit.maximum < k), refuseValue .ramp),
        (replacedBad a.expiry fun y => decide (1 < y.1 ∨ y.2 = 0), refuseValue .expiry) ] := by
  unfold amendChecks
  simp only [handleEntry_of_slot hgen hslot, hr, Option.any_some, notSupervisors_eq hr, SlotEntry.isFading_eq hr,
    funext (badRamp_eq r.limit.maximum), funext expiryOf_isNone, differsFixed, bne, beq_eq_decide, ne_eq, decide_not]

theorem retireChecks_eq {slot gen : Nat} {s : State} {e : SlotEntry} {r : CeilingRecord} (hgen : 1 ≤ gen)
    (hslot : s.ct[slot]? = some ⟨gen, e⟩) (hr : e.held = some r) :
    retireChecks slot gen s = handleChecks s.ct slot gen ++
      [ (decide (r.holder ≠ .supervisor), refuseState .notOwner),
        (decide (e = .fading r), doneAlert .alreadyFading []) ] := by
  unfold retireChecks
  simp only [handleEntry_of_slot hgen hslot, notSupervisors_eq hr, SlotEntry.isFading_eq hr]

theorem amend_refused {a : AmendReq} {s : State} {x : Answer} (h : s.linkFree)
    (hrow : ((amendChecks a s.takeFrame).find? Prod.fst).map Prod.snd = some x) :
    exec (.amendCeiling a) s = .next (replied s s .amendCeiling x) :=
  congrArg Host.Outcome.next (request_unchanged _ _ h (checked_refused hrow))

theorem retire_refused {slot gen : Nat} {s : State} {x : Answer} (h : s.linkFree)
    (hrow : ((retireChecks slot gen s.takeFrame).find? Prod.fst).map Prod.snd = some x) :
    exec (.retireCeiling slot gen) s = .next (replied s s .retireCeiling x) :=
  congrArg Host.Outcome.next (request_unchanged _ _ h (checked_refused hrow))

/-- R20: a retirement of a LIVE supervisor record. -/
theorem retire_done {slot gen : Nat} {s : State} {r : CeilingRecord} (h : s.linkFree) (hrange : slot ≤ 47) (hgen : 1 ≤ gen)
    (hslot : s.ct[slot]? = some ⟨gen, .live r⟩) (howner : r.holder = .supervisor) :
    exec (.retireCeiling slot gen) s = .next (replied s { s with ct := s.ct.set slot ⟨gen, r.retired⟩ } .retireCeiling
      (done (namedByte r.retired.isFading))) := by
  have hpass : ∀ p ∈ retireChecks slot gen s.takeFrame, p.1 = false := by
    rw [retireChecks_eq (s := s.takeFrame) hgen hslot rfl]
    exact List.forall_mem_append.2 ⟨handleChecks_pass hrange hgen hslot rfl, by simp [howner]⟩
  refine congrArg Host.Outcome.next (checked_replied _ _ _ _ _ _ _ h rfl hpass ?_ rfl)
  rw [show handleEntry s.takeFrame.ct slot gen = .live r from handleEntry_of_slot hgen hslot]
  rfl

/-- R19: an amendment of a LIVE supervisor record that passes its checks. -/
theorem amend_done {a : AmendReq} {s : State} {r : CeilingRecord} (h : s.linkFree) (hgen : 1 ≤ a.gen)
    (hslot : s.ct[a.slot]? = some ⟨a.gen, .live r⟩) (hpass : ∀ p ∈ amendChecks a s.takeFrame, p.1 = false) :
    exec (.amendCeiling a) s = .next (replied s { s with ct := s.ct.set a.slot ⟨a.gen, .live (r.amended a)⟩ } .amendCeiling
      (done (u16 (r.amended a).target ++ u16 (r.amended a).current ++
        optU16 ((r.amended a).expiry.map Countdown.counter)))) := by
  refine congrArg Host.Outcome.next (checked_replied _ _ _ _ _ _ _ h rfl hpass ?_ rfl)
  rw [show handleEntry s.takeFrame.ct a.slot a.gen = .live r from handleEntry_of_slot hgen hslot]
  rfl

theorem replacedBad_eq_false {α : Type} {c : Choice α} {bad : α → Bool} :
    replacedBad c bad = false ↔ ∀ v, c = .replace v → bad v = false := by
  cases c <;> simp [replacedBad]

/-- R19: an amendment in form passes its checks. -/
theorem amendChecks_pass {a : AmendReq} {s : State} {r : CeilingRecord} (hrange : a.slot ≤ 47) (hgen : 1 ≤ a.gen)
    (hslot : s.ct[a.slot]? = some ⟨a.gen, .live r⟩) (howner : r.holder = .supervisor)
    (hkind : ∀ k, a.kind = some k → k = r.limit.kindCode) (hscope : ∀ n, a.scope = some n → r.limit.scopeCode = some n)
    (hdir : ∀ d, a.direction = some d → r.limit.directionCode = some d)
    (htarget : ∀ t, a.target = some t → t ≤ r.limit.maximum)
    (hramp : ∀ k, a.ramp = .replace k → 1 ≤ k ∧ k ≤ r.limit.maximum)
    (hexpiry : ∀ e, a.expiry = .replace e → e.1 ≤ 1 ∧ 1 ≤ e.2) : ∀ p ∈ amendChecks a s, p.1 = false := by
  rw [amendChecks_eq hgen hslot rfl]
  refine List.forall_mem_append.2 ⟨handleChecks_pass hrange hgen hslot rfl, ?_⟩
  simp only [List.forall_mem_cons, Bool.or_eq_false_iff, Option.any_eq_false, replacedBad_eq_false, decide_eq_false_iff_not,
    not_not, not_or, not_lt, ← ne_eq, ← Nat.one_le_iff_ne_zero]
  exact ⟨howner, by simp, ⟨⟨hkind, hscope⟩, hdir⟩, htarget, hramp, hexpiry, by simp⟩

/-- R19: what an amendment makes of a record, its replacement expiry as the request names it. -/
theorem CeilingRecord.amended_eq {r : CeilingRecord} {a : AmendReq}
    (h : ∀ e, a.expiry = .replace e → e.1 ≤ 1 ∧ 1 ≤ e.2) :
    r.amended a = CeilingRecord.setTarget
      { r with
        ramp := match a.ramp with
          | .leave => r.ramp
          | .replace k => some k
          | .remove => none
        notify := a.notify.getD r.notify
        expiry := match a.expiry with
          | .leave => r.expiry.map fun e => { e with counter := e.full }
          | .replace e => some ⟨if e.1 = 0 then .time else .distance, e.2, e.2⟩
          | .remove => none }
      (a.target.getD r.target) := by
  unfold CeilingRecord.amended
  cases hexp : a.expiry with
  | leave | remove => rfl
  | replace e =>
    exact congrArg (fun y => CeilingRecord.setTarget { r with ramp := _, notify := a.notify.getD r.notify, expiry := y } _)
      (expiryOf_start (h e hexp))

end Sys2Proof.Machine

namespace Sys2Proof.Proofs.CeilingTable

open Sys2Proof Sys2Proof.Machine

/-- Settles O18: a refusal is by the first row of the checks, of which those on the handle come first; an accepted request
rewrites its record's slot. -/
theorem amendAndRetireActOnTheirRecord : Obligations.AmendAndRetireActOnTheirRecord := by
  refine ⟨fun s slot gen hfree => ⟨fun hrange => ?_, fun hrange hnone => ?_, fun e r hrange hgen hslot hr => ?_⟩, ?_, ?_⟩
  · refine ⟨retire_refused hfree (handleChecks_outOfRange _ hrange), ?_⟩
    rintro a rfl
    exact amend_refused hfree (handleChecks_outOfRange _ hrange)
  · refine ⟨retire_refused hfree (handleChecks_noRecord _ hrange hnone), ?_⟩
    rintro a rfl rfl
    exact amend_refused hfree (handleChecks_noRecord _ hrange hnone)
  · constructor
    · intro howner
      refine retire_refused hfree ?_
      rw [retireChecks_eq (s := s.takeFrame) hgen hslot hr,
        find?_append_of_pass (handleChecks_pass (t := s.takeFrame.ct) hrange hgen hslot hr)]
      simp [howner]
    · rintro a x rfl rfl rows hrow
      refine amend_refused hfree ?_
      rw [amendChecks_eq (s := s.takeFrame) hgen hslot hr,
        find?_append_of_pass (handleChecks_pass (t := s.takeFrame.ct) hrange hgen hslot hr)]
      have hramp (f : Nat → Bool) : replacedBad a.ramp f = match a.ramp with
          | .replace k => f k
          | .leave | .remove => false := by cases a.ramp <;> rfl
      have hexpiry (f : Nat × Nat → Bool) : replacedBad a.expiry f = match a.expiry with
          | .replace y => f y
          | .leave | .remove => false := by cases a.expiry <;> rfl
      rw [hramp, hexpiry]
      exact hrow
  · intro s a r hfree hrange hgen hslot howner hkind hscope hdir htarget hramp hexpiry q
    have hq : r.amended a = q := CeilingRecord.amended_eq hexpiry
    rw [← hq]
    exact amend_done hfree hgen hslot
      (amendChecks_pass (s := s.takeFrame) hrange hgen hslot howner hkind hscope hdir htarget hramp hexpiry)
  · refine fun s slot gen r hfree hrange hgen howner => ⟨fun hslot hramp hroom => ?_, fun hslot hnoRoom => ?_, fun hslot => ?_⟩
    · rw [retire_done hfree hrange hgen hslot howner, CeilingRecord.retired_of_room hramp hroom]
      rfl
    · rw [retire_done hfree hrange hgen hslot howner, CeilingRecord.retired_of_noRoom hnoRoom]
      rfl
    · refine retire_refused hfree ?_
      rw [retireChecks_eq (s := s.takeFrame) hgen hslot rfl,
        find?_append_of_pass (handleChecks_pass (t := s.takeFrame.ct) hrange hgen hslot rfl)]
      simp [howner]

end Sys2Proof.Proofs.CeilingTable

namespace Sys2Proof.Machine

/-! ### Requests that only read (R21 to R23, and the blocks' own) -/

/-- A request that only reads is answered with what it reads, which its frame does not change. -/
theorem request_reading (q : Req) (p : State → List Byte) {s : State} (h : s.linkFree) (hp : p s.takeFrame = p s) :
    request q (reading p) s = replied s s q (done (p s)) :=
  request_unchanged q _ h (congrArg (fun l => (s.takeFrame, done l)) hp)

theorem stationOf_num (n : Station) : stationOf n.num = some n := by cases n <;> rfl

theorem stationOf_of_le {n : Nat} (h : 4 ≤ n) : stationOf n = none := by
  match n with
  | n + 4 => rfl

theorem exec_readStationContext {k : Nat} {n : Station} {s : State} (h : s.linkFree) (hn : stationOf k = some n) :
    exec (.readStationContext k) s = .next (replied s s .readStationContext (done (s.station n).bytes)) := by
  refine congrArg Host.Outcome.next (request_unchanged _ _ h ?_)
  rw [readStationBody, hn]
  rfl

theorem exec_readStationContext_refused {k : Nat} {s : State} (h : s.linkFree) (hn : stationOf k = none) :
    exec (.readStationContext k) s = .next (replied s s .readStationContext (refuseValue .station)) := by
  refine congrArg Host.Outcome.next (request_unchanged _ _ h ?_)
  rw [readStationBody, hn]

/-- R22: a list that one reply holds. -/
theorem listAnswer_of_le {l : List (Nat × Slot × CeilingRecord)} (h : l.length ≤ 12) :
    listAnswer l = done (u8 l.length ++ u8 255 ++ l.flatMap fun p => summaryBytes p.1 p.2.1 p.2.2) := by
  unfold listAnswer
  rw [List.drop_eq_nil_of_le h, List.take_of_length_le h]

/-- R22: a longer list gives its first twelve records, and the slot after the twelfth. -/
theorem listAnswer_of_lt {l : List (Nat × Slot × CeilingRecord)} {p : Nat × Slot × CeilingRecord} (h : 12 < l.length)
    (hp : l[11]? = some p) :
    listAnswer l = ⟨.partly, some .more,
      u8 12 ++ u8 (p.1 + 1) ++ (l.take 12).flatMap fun p => summaryBytes p.1 p.2.1 p.2.2⟩ := by
  obtain ⟨x, rest, hdrop⟩ := List.exists_cons_of_ne_nil (List.drop_eq_nil_iff.not.2 (Nat.not_le.2 h))
  unfold listAnswer
  rw [hdrop, List.getD_eq_getElem?_getD, hp]
  rfl

/-- R22: a list request in form. -/
theorem exec_listCeilings {filter start : Nat} {s : State} (h : s.linkFree) (hfilter : filter ≤ 5) (hstart : start ≤ 47) :
    exec (.listCeilings filter start) s =
      .next (replied s s .listCeilings (listAnswer (listed s.ct filter start))) := by
  refine congrArg Host.Outcome.next (request_unchanged _ _ h (checked_ok _ _ _ ?_))
  simp [hfilter, hstart]

theorem exec_queryCeiling {slot gen : Nat} {e : SlotEntry} {r : CeilingRecord} {s : State} (h : s.linkFree)
    (hrange : slot ≤ 47) (hgen : 1 ≤ gen) (hslot : s.ct[slot]? = some ⟨gen, e⟩) (hr : e.held = some r) :
    exec (.queryCeiling slot gen) s =
      .next (replied s s .queryCeiling (done (queryPayload s.ct ⟨slot, gen⟩ e r))) := by
  refine congrArg Host.Outcome.next (request_unchanged _ _ h
    ((checked_ok _ _ _ (handleChecks_pass (t := s.takeFrame.ct) hrange hgen hslot hr)).trans ?_))
  rw [show handleEntry s.takeFrame.ct slot gen = e from handleEntry_of_slot hgen hslot, hr]
  rfl

end Sys2Proof.Machine

namespace Sys2Proof.Proofs.CeilingTable

open Sys2Proof Sys2Proof.Machine

/-- Settles O15: no payload reads what the frame's arrival changes; a refusal is the first row that calls for it. -/
theorem readRequestsAnswerAndChangeNothing : Obligations.ReadRequestsAnswerAndChangeNothing := by
  intro s h
  have hreading (q : Req) (p : State → List Byte) (hp : p s.takeFrame = p s) :
      (.next (request q (reading p) s) : Out) = .next (replied s s q (done (p s))) :=
    congrArg _ (request_reading q p h hp)
  refine ⟨hreading _ effectivePayload rfl, hreading _ allocationPayload rfl,
    fun n => exec_readStationContext h (stationOf_num n), hreading _ gridPayload rfl, fun g hg => ?_,
    hreading _ routePayload rfl, hreading _ governorPayload rfl, hreading _ steeringPayload rfl,
    hreading _ payloadPayload rfl, hreading _ protectionPayload rfl,
    fun slot gen e r hrange hgen hslot hr => exec_queryCeiling h hrange hgen hslot hr,
    fun filter start hfilter hstart => ?_, fun slot gen hrange => ?_, fun slot gen hrange hnone => ?_,
    fun filter start hfilter => ?_, fun filter start hfilter hstart => ?_,
    fun n hn => exec_readStationContext_refused h (stationOf_of_le hn), fun g hg => ?_⟩
  · exact congrArg _ (request_unchanged _ _ h (checked_ok _ _ _ (by simp [hg])))
  · intro l
    refine ⟨fun hshort => ?_, fun p hlong hp => ?_⟩ <;> rw [exec_listCeilings h hfilter hstart]
    · rw [listAnswer_of_le hshort]
    · rw [listAnswer_of_lt hlong hp]
  · exact congrArg _ (request_unchanged _ _ h (checked_refused (by simp [handleChecks, hrange])))
  · exact congrArg _ (request_unchanged _ _ h (checked_refused (by
      simpa using handleChecks_noRecord (t := s.takeFrame.ct) [] hrange hnone)))
  · exact congrArg _ (request_unchanged _ _ h (checked_refused (by simp [hfilter])))
  · exact congrArg _ (request_unchanged _ _ h (checked_refused (by simp [hfilter, hstart])))
  · exact congrArg _ (request_unchanged _ _ h (checked_refused (by simp [hg])))

end Sys2Proof.Proofs.CeilingTable

namespace Sys2Proof.Machine

/-! ### Resets (R202, R203) -/

/-- R202: an accepted SOFT_RESET on a free link: the soft reset of the state its frame leaves, then its reply. -/
theorem exec_softReset {s : State} (h : s.linkFree) (harmed : s.ta.state.armed = false) (hspeed : s.ta.speed < 5) :
    exec .softReset s = .next (s.takeFrame.softReset.reply (some .softReset) (done [])) := by
  refine congrArg Host.Outcome.next ((request_idle s _ _ h).trans ?_)
  rw [show softResetBody s.takeFrame = (s.takeFrame.softReset, done []) from
    checked_ok s.takeFrame _ _ (by simp [harmed, hspeed])]

/-- R202: a link that is free has after a soft reset its reset values, but for what outlives it. -/
theorem Sl.softReset_of_free {l : Sl} (h : l.inFlight = none) :
    l.softReset = { Sl.reset with receiving := l.receiving, slot := l.slot, overrun := l.overrun, shifted := l.shifted } := by
  obtain ⟨⟩ := l
  subst h
  rfl

end Sys2Proof.Machine

namespace Sys2Proof.Proofs.CeilingTable

open Sys2Proof Sys2Proof.Machine

/-- Settles O8: the state an accepted SOFT_RESET leaves, block by block. -/
theorem softResetKeepsConfiguration : Obligations.SoftResetKeepsConfiguration := by
  refine ⟨fun s hfree => ⟨fun harmed => ?_, fun harmed hspeed => ?_⟩, fun s hfree hstate hspeed => ?_⟩
  · exact congrArg _ (request_unchanged _ _ hfree (checked_refused (by simp [harmed])))
  · exact congrArg _ (request_unchanged _ _ hfree (checked_refused (by simp [harmed, hspeed])))
  · have hlink := Sl.softReset_of_free (l := s.takeFrame.sl) hfree
    refine ⟨_, exec_softReset hfree (by rw [hstate]; rfl) hspeed, rfl, rfl, rfl, fun k => by cases k <;> rfl, rfl, rfl, rfl,
      rfl, rfl, rfl, rfl, rfl, rfl, rfl, rfl, rfl, rfl, rfl, rfl, rfl, rfl, ?_, rfl, rfl⟩
    unfold State.reply
    rw [show s.takeFrame.softReset.sl = _ from hlink]
    rfl

/-- Settles O9: the reset state is closed, so each of its values is read off by evaluation. -/
theorem hardResetGivesResetValues : Obligations.HardResetGivesResetValues := by
  refine ⟨fun s => ⟨_, rfl, rfl, rfl, rfl, rfl⟩, rfl, rfl, rfl, rfl, rfl, rfl, rfl, fun n => by cases n <;> decide,
    fun k => by cases k <;> decide, rfl, rfl, rfl, fun _ => rfl,
    rfl, rfl, rfl, rfl, rfl, rfl, rfl, rfl, rfl, rfl, rfl, rfl, rfl, rfl, rfl⟩

end Sys2Proof.Proofs.CeilingTable

namespace Sys2Proof.Machine

/-! ### The invariants at the reset state, block by block (R203) -/

@[simp] theorem reset_station (n : Station) : State.reset.station n = StationCtx.reset := by cases n <;> rfl

@[simp] theorem reset_puStation (n : Station) : State.reset.puStation n = PuStation.reset := by cases n <;> rfl

@[simp] theorem reset_inFlight : State.reset.sl.inFlight = none := rfl

@[simp] theorem reset_taState : State.reset.ta.state = .disarmed := rfl

@[simp] theorem Gd.reset_bank (k : Bank) : Gd.reset.banks.get k = BankRec.reset := by cases k <;> rfl

theorem custodyAgrees_reset : custodyAgrees State.reset := by
  intro n
  simp [StationCtx.reset]

theorem copiesAgree_reset : copiesAgree State.reset := fun n => by rw [reset_puStation, reset_station]; rfl

theorem armingAgrees_reset : armingAgrees State.reset := by
  simp [armingAgrees, StationCtx.reset, StationState.driven]

theorem BankRec.reset_legal : BankRec.reset.legal := ⟨by simp [BankRec.reset], rfl, rfl⟩

theorem banksLegal_reset : banksLegal Gd.reset :=
  ⟨BankRec.reset_legal, BankRec.reset_legal, fun k _ => by simp [BankRec.reset], fun h => absurd h (by simp [Gd.reset])⟩

theorem routeLegal_reset : routeLegal Rs.reset := by
  refine ⟨⟨rfl, rfl, rfl, rfl⟩, ?_⟩
  simp [Rs.reset, RoutePos.reset, RoutePos.unbroken, Detour.isActive]

theorem storeLegal_nil : storeLegal [] := ⟨rfl, fun _ h => absurd h List.not_mem_nil⟩

theorem levelHeld_reset : levelHeld Pu.reset := by simp [levelHeld, Pu.reset]

theorem allocationInRange_reset : allocationInRange Ta.reset := by simp [allocationInRange, Ta.reset]

theorem stationInRange_reset : stationInRange StationCtx.reset := by
  simp [stationInRange, StationCtx.reset, Settings.inRange, Settings.default]

theorem gridInRange_reset : gridInRange Gd.reset := by
  refine ⟨fun k => ⟨?_, fun _ => ?_⟩, ?_⟩
  · simp [BankRec.inRange, BankRec.reset]
  · simp [BankRec.reset]
  · simp [Gd.reset]

theorem routeInRange_reset : routeInRange Rs.reset := by simp [routeInRange, Rs.reset, RoutePos.reset]

theorem governorInRange_reset : governorInRange Dg.reset := by simp [governorInRange, Dg.reset]

theorem steeringInRange_reset : steeringInRange Sc.reset := by
  refine ⟨by decide, by decide, ?_⟩
  simp [Sc.reset, mag]

theorem payloadInRange_reset : payloadInRange Pm.reset := by simp [payloadInRange, Pm.reset]

theorem PuStation.reset_inRange : PuStation.reset.inRange := by simp [PuStation.inRange, PuStation.reset]

theorem protectionInRange_reset : protectionInRange Pu.reset :=
  ⟨.inl rfl, Nat.zero_le _, fun n => by cases n <;> exact PuStation.reset_inRange⟩

theorem fieldsInRange_reset : fieldsInRange State.reset :=
  ⟨allocationInRange_reset, fun n => by rw [reset_station]; exact stationInRange_reset, gridInRange_reset,
    routeInRange_reset, governorInRange_reset, steeringInRange_reset, payloadInRange_reset, protectionInRange_reset,
    fun _ _ h => absurd h List.not_mem_nil, Nat.zero_le _, List.nodup_nil⟩

theorem thresholdsInRange_reset : thresholdsInRange Pu.reset := fun n => by cases n <;> decide

theorem ceilingsHold_reset : ceilingsHold State.reset :=
  ⟨fun n => by simp [StationCtx.reset, mag], fun _ _ h => absurd h List.not_mem_nil, by simp [State.reset, Pu.reset]⟩

end Sys2Proof.Machine

namespace Sys2Proof.Proofs.CeilingTable

open Sys2Proof Sys2Proof.Machine

/-- Settles O60: each invariant at its block's reset values. -/
theorem invariantsHoldAtReset : Obligations.InvariantsHoldAtReset :=
  ⟨Ct.reset_legal, custodyAgrees_reset, copiesAgree_reset, armingAgrees_reset, banksLegal_reset, routeLegal_reset,
    storeLegal_nil, levelHeld_reset, fieldsInRange_reset, thresholdsInRange_reset, ceilingsHold_reset⟩

end Sys2Proof.Proofs.CeilingTable


namespace Sys2Proof.Machine
open Sys2Proof

/-- R194, R195: the reply that ends the request in flight. -/
theorem answered_eq (s u : State) (q : Req) (a : Answer) (h : u.sl.busySeen = s.sl.busySeen)
    (ho : u.sl.overrun = s.sl.overrun) :
    (u.withSl { u.sl with inFlight := none }).reply (some q) a = answered s u q a := by
  unfold answered placed State.reply
  rw [← h, ← ho]
  rfl

theorem takeFrame_of_empty {s : State} (h : s.sl.slot = none) :
    s.takeFrame = { s with sl := { s.sl with receiving := [] } } := by
  simp [State.takeFrame, State.withSl, h]

/-- R172: a station's context rewritten, with the state it enters handed to PU. -/
theorem State.setStation_enter (s : State) (n : Station) (x : StationCtx) (st : StationState) :
    (s.setStation n x).enter n st =
      (s.setStation n { x with state := st }).setPuStation n { s.puStation n with copy := st } := by
  cases n <;> rfl

theorem State.answerPark_eq {s : State} {n : Station} (h : s.sl.inFlight = some (.park n)) (a : Answer) :
    s.answerPark n a = (s.withSl { s.sl with inFlight := none }).reply (some .parkStation) a := if_pos h

/-- R67: the park in flight is cancelled, and its request answered. -/
theorem State.cancelPark_eq {s : State} {n : Station} (h : s.sl.inFlight = some (.park n)) :
    s.cancelPark n = answered s
      ((s.setStation n { s.station n with state := s.cancelledState n, parkTimer := none, parkOrigin := none }).setPuStation n
        { s.puStation n with copy := s.cancelledState n })
      .parkStation ⟨.abandoned, some .cancelled, []⟩ := by
  unfold State.cancelPark
  dsimp only
  rw [State.setStation_enter, State.answerPark_eq (by simpa using h)]
  exact answered_eq s _ _ _ rfl rfl

end Sys2Proof.Machine

namespace Sys2Proof.Proofs.TorqueAllocation
open Sys2Proof Sys2Proof.Machine

/-- Settles O7, by what is in flight: nothing, an ARM, or the park of a station. -/
theorem cancelEndsRequestInFlight : Obligations.CancelEndsRequestInFlight := by
  refine fun s => ⟨fun h => ?_, fun h hslot => ?_, fun n h hslot => ?_⟩
  · simp only [exec, execCancel, h]
    rfl
  · simp only [exec, execCancel, h]
    rw [takeFrame_of_empty hslot]
    exact congrArg _ (answered_eq s _ _ _ rfl rfl)
  · intro x st
    have hst : s.cancelledState n = st := by
      simp only [State.cancelledState, st, x, Bool.and_eq_true, Bool.or_eq_true, beq_iff_eq]
    simp only [exec, execCancel, h]
    rw [takeFrame_of_empty hslot, State.cancelPark_eq (by exact h), ← hst]
    rfl

end Sys2Proof.Proofs.TorqueAllocation


namespace Sys2Proof.Machine
open Sys2Proof

/-- R2: a request on a free link is refused by the first row that calls for it, and otherwise has its effect. -/
theorem request_rows {q : Req} {body : State → State × Answer} {s u : State} {a : Answer} {rows : List (Bool × Answer)}
    {ok : State × Answer} (h : s.linkFree) (hb : body s.takeFrame = checked s.takeFrame rows ok) (hok : ok = (framed s u, a))
    (hs : u.sl.busySeen = s.sl.busySeen) :
    request q body s =
      rows.foldr (fun row t => if row.1 then replied s s q row.2 else t) (replied s u q a) := by
  subst hok
  induction rows generalizing body with
  | nil => exact request_replied q body s u a h hb hs
  | cons row rows ih =>
    obtain ⟨fails, b⟩ := row
    cases fails with
    | true => exact request_unchanged q body h hb
    | false => exact ih (body := body) hb

theorem notDisarmed_iff (s : State) : notDisarmed s = true ↔ s.ta.state ≠ .disarmed := by simp [notDisarmed]

theorem badRamp_iff (most r : Nat) : badRamp most r = true ↔ r = 0 ∨ most < r := by simp [badRamp]

end Sys2Proof.Machine

namespace Sys2Proof.Proofs.TorqueAllocation
open Sys2Proof Sys2Proof.Machine

/-- Settles O24: each request's rows are its checks, in the order of its table. -/
theorem configureRequestsCheckThenWrite : Obligations.ConfigureRequestsCheckThenWrite := by
  refine fun s h => ⟨fun w slew => ?_, fun r => ?_, fun ratio gain ramp most reserve => ?_, fun e r sprung v => ?_,
    fun motor inverter => ?_⟩
  · refine congrArg Host.Outcome.next ((request_rows
      (u := s.withTa { s.ta with weights := w, slew := slew, configured := true }) h rfl rfl rfl).trans ?_)
    simp only [configureDriveChecks, PerStation.toList, List.foldr, List.any, List.all, notDisarmed_iff, Bool.or_eq_true,
      Bool.and_eq_true, decide_eq_true_eq, beq_iff_eq, Bool.or_false, Bool.and_true, List.flatMap_cons, List.flatMap_nil,
      List.append_nil, List.append_assoc]
    rfl
  · refine congrArg Host.Outcome.next ((request_rows (u := s.withGd (s.gd.configure (gridValues r))) h rfl rfl rfl).trans ?_)
    simp only [configureGridChecks, List.foldr, notDisarmed_iff, Bool.or_eq_true, decide_eq_true_eq, or_assoc]
    rfl
  · refine congrArg Host.Outcome.next ((request_rows
      (u := s.withSc { s.sc with
        ratio := ratio, gain := gain, envRamp := ramp, assistMax := most, reserve := reserve, configured := true })
      h rfl rfl rfl).trans ?_)
    simp only [configureSteeringChecks, List.foldr, notDisarmed_iff, badRamp_iff, Bool.or_eq_true, decide_eq_true_eq,
      beq_iff_eq]
    rfl
  · refine congrArg Host.Outcome.next ((request_rows
      (u := s.withPm { s.pm with emptyMass := e, rated := r, sprung := sprung, over10Speed := v, configured := true })
      h rfl rfl rfl).trans ?_)
    simp only [configurePayloadChecks, List.foldr, notDisarmed_iff, Bool.or_eq_true, decide_eq_true_eq]
    rfl
  · refine congrArg Host.Outcome.next ((request_rows
      (u := s.withPu { s.pu with motorWarn := motor, inverterWarn := inverter, configured := true }) h rfl rfl rfl).trans ?_)
    simp only [List.foldr, notDisarmed_iff, Bool.or_eq_true, decide_eq_true_eq]
    rfl

end Sys2Proof.Proofs.TorqueAllocation


namespace Sys2Proof.Machine
open Sys2Proof

/-- R55, R172: the stations that `goes` names enter `st`, and PU's copies with them. -/
def State.moved (s : State) (goes : Station → Bool) (st : StationState) : State :=
  { s with
    sm := .of fun n => { s.station n with state := if goes n then st else (s.station n).state }
    pu := { s.pu with
      stations := .of fun n => { s.puStation n with copy := if goes n then st else (s.puStation n).copy } } }

@[simp] theorem State.moved_station (s : State) (goes : Station → Bool) (st : StationState) (n : Station) :
    (s.moved goes st).station n = { s.station n with state := if goes n then st else (s.station n).state } := by
  cases n <;> rfl

@[simp] theorem State.moved_puStation (s : State) (goes : Station → Bool) (st : StationState) (n : Station) :
    (s.moved goes st).puStation n = { s.puStation n with copy := if goes n then st else (s.puStation n).copy } := by
  cases n <;> rfl

theorem State.moved_none (s : State) (st : StationState) : s.moved (fun _ => false) st = s := rfl

theorem State.enter_eq_moved (s : State) (n : Station) (st : StationState) : s.enter n st = s.moved (· == n) st := by
  cases n <;> rfl

theorem State.moved_moved (s : State) (p q : Station → Bool) (st : StationState) :
    (s.moved p st).moved q st = s.moved (fun n => p n || q n) st := by
  have hor (n : Station) (x : StationState) :
      (if q n then st else if p n then st else x) = if p n || q n then st else x := by
    cases p n <;> cases q n <;> rfl
  refine congrArg₂ (fun x y => ({ s with sm := .of x, pu := { s.pu with stations := .of y } } : State))
    (funext fun n => ?_) (funext fun n => ?_)
  · rw [State.moved_station, hor]
  · rw [State.moved_puStation, hor]

/-- Stations that enter a state in turn, each by its own context, enter it together when one that has entered it
does not do so again. -/
theorem foldl_enter (goes : StationCtx → Bool) (st : StationState)
    (hst : ∀ x : StationCtx, goes { x with state := st } = false)
    (l : List Station) (s : State) :
    l.foldl (fun t n => if goes (t.station n) then t.enter n st else t) s =
      s.moved (fun n => l.contains n && goes (s.station n)) st := by
  induction l generalizing s with
  | nil => rfl
  | cons n l ih =>
    have hone : (if goes (s.station n) then s.enter n st else s) = s.moved (fun m => m == n && goes (s.station n)) st := by
      cases goes (s.station n) with
      | true => simpa using s.enter_eq_moved n st
      | false => simpa using (s.moved_none st).symm
    rw [List.foldl_cons, ih, hone, State.moved_moved]
    refine congrArg (s.moved · st) (funext fun m => ?_)
    rw [State.moved_station]
    by_cases hm : m = n
    · subst hm
      cases hg : goes (s.station m) <;> simp [hg, hst]
    · simp [hm]

theorem State.armStations_eq (s : State) :
    Station.all.foldl State.armStation s =
      s.moved (fun n => (s.station n).state == .standby && !(s.station n).settings.tripping) .live := by
  refine (foldl_enter (fun x => x.state == .standby && !x.settings.tripping) .live (fun _ => rfl) Station.all s).trans ?_
  refine congrArg (s.moved · .live) (funext fun n => ?_)
  cases n <;> rfl

theorem State.disarmStations_eq (s : State) :
    s.disarmStations = s.moved (fun n => (s.station n).state.driven) .standby := by
  have hone : State.standDown = fun t n => if (t.station n).state.driven then t.enter n .standby else t := by
    funext t n
    unfold State.standDown
    cases (t.station n).state <;> rfl
  unfold State.disarmStations
  rw [hone]
  refine (foldl_enter (fun x => x.state.driven) .standby (fun _ => rfl) Station.all s).trans ?_
  refine congrArg (s.moved · .standby) (funext fun n => ?_)
  cases n <;> rfl

end Sys2Proof.Machine

namespace Sys2Proof.Proofs.TorqueAllocation
open Sys2Proof Sys2Proof.Machine

/-- Settles O28: the stations that move enter their state in turn, which is to enter it together (`State.moved`). -/
theorem disarmAndArmingMoveStations : Obligations.DisarmAndArmingMoveStations := by
  intro s
  refine ⟨fun h hst => ?_, fun h hst hspeed => ?_, fun h hst hspeed => ?_, fun harmed => ?_, fun harmed => ?_⟩
  · exact congrArg _ (request_unchanged _ _ h (checked_refused (by simp [hst])))
  · exact congrArg _ (request_unchanged _ _ h (checked_refused (by simp [hst, hspeed])))
  · refine congrArg _ (request_replied _ _ s
      ((s.withTa { s.ta with state := .disarmed }).moved (fun n => (s.station n).state.driven) .standby) _ h ?_ rfl)
    rw [disarmBody, checked_ok _ _ _ (by simp [hst, hspeed]), State.disarmStations_eq]
    rfl
  · simp [exec, execArmingEvent, harmed]
  · simp only [exec, execArmingEvent, harmed, if_true, State.armStations_eq]
    rfl

end Sys2Proof.Proofs.TorqueAllocation


namespace Sys2Proof.Machine
open Sys2Proof

/-! ### What a pass leaves -/

/-- The state that a pass leaves. -/
def State.passed (p : PassPorts) (s : State) : State :=
  ((s.withTa (Ta.afterPass p.held s)).withHanded (s.handed ++ passEvents p.held s)).tickTimers

theorem exec_allocationPass (p : PassPorts) (s : State) : exec (.allocationPass p) s = .next (s.passed p) := rfl

theorem State.passed_eq (p : PassPorts) (s : State) :
    s.passed p = { s with
      ta := (s.passed p).ta, sm := (s.passed p).sm, gd := (s.passed p).gd, handed := (s.passed p).handed } := rfl

@[simp] theorem State.passed_ta (p : PassPorts) (s : State) : (s.passed p).ta = Ta.afterPass p.held s := rfl

@[simp] theorem State.passed_handed (p : PassPorts) (s : State) :
    (s.passed p).handed = s.handed ++ passEvents p.held s := rfl

@[simp] theorem State.passed_station (p : PassPorts) (s : State) (n : Station) :
    (s.passed p).station n =
      { s.station n with deadline := tick (s.station n).deadline, parkTimer := tick (s.station n).parkTimer } := by
  cases n <;> rfl

@[simp] theorem State.passed_bank (p : PassPorts) (s : State) (k : Bank) :
    (s.passed p).bank k = { s.bank k with checkTimer := tick (s.bank k).checkTimer } := by
  cases k <;> rfl

/-! ### The safe-stop reference (R38) -/

theorem safeStopRef_absent (count speed : Nat) : safeStopRef .safeStop none count speed = (some speed, 0) := rfl

theorem safeStopRef_present {count : Nat} (r speed : Nat) (h : count < 4) :
    safeStopRef .safeStop (some r) count speed = (some r, count + 1) := if_neg (by omega)

theorem safeStopRef_falls (r speed : Nat) : safeStopRef .safeStop (some r) 4 speed = (some (r - 1), 0) := rfl

theorem safeStopRef_elsewhere {level : Level} (h : level ≠ .safeStop) (ref : Option Nat) (count speed : Nat) :
    safeStopRef level ref count speed = (none, 0) := by
  cases level with
  | safeStop => exact absurd rfl h
  | normal | stoppedSafe => rfl

/-- In SAFE_STOP a pass leaves a reference. -/
theorem safeStopRef_isSome (ref : Option Nat) (count speed : Nat) :
    ∃ r, (safeStopRef .safeStop ref count speed).1 = some r := by
  cases ref with
  | none => exact ⟨speed, rfl⟩
  | some r =>
    simp only [safeStopRef]
    split
    · exact ⟨_, rfl⟩
    · exact ⟨_, rfl⟩

theorem safeStopDemand_some (r speed : Nat) : safeStopDemand (some r) speed = if r < speed then 1000 else 0 := by
  simp [safeStopDemand]

/-- What a pass makes of the reference, its fall count and the demand. -/
theorem afterPass_safe (p : PassPorts) (s : State) :
    ((Ta.afterPass p s).safeRef, (Ta.afterPass p s).fallCount) =
        safeStopRef s.pu.level s.ta.safeRef s.ta.fallCount (Ta.afterPass p s).speed ∧
      (Ta.afterPass p s).drSafe = safeStopDemand (Ta.afterPass p s).safeRef (Ta.afterPass p s).speed := ⟨rfl, rfl⟩

/-- TA's figures stand: at most its state and its DRIVE group have changed. -/
def Ta.figuresStand (a b : Ta) : Prop :=
  b = { a with state := b.state, weights := b.weights, slew := b.slew, configured := b.configured }

theorem Ta.figuresStand_refl (a : Ta) : a.figuresStand a := rfl

@[simp] theorem State.evalGrid_ta (s : State) : s.evalGrid.ta = s.ta := s.evalGrid_acts.blocks .ta (by simp)

@[simp] theorem State.testGf_later_ta (s : State) : (s.testGf false).ta = s.ta :=
  s.testGf_later_acts.blocks .ta (by simp)

@[simp] theorem State.startCheck_ta (s : State) (k : Bank) : (s.startCheck k).ta = s.ta :=
  (s.startCheck_acts k).blocks .ta (by simp)

@[simp] theorem State.beginArm_ta (s : State) : s.beginArm.ta = { s.ta with state := .arming } := by
  simp [State.beginArm]

@[simp] theorem State.disarmStations_ta (s : State) : s.disarmStations.ta = s.ta :=
  s.disarmStations_acts.blocks .ta (by simp)

@[simp] theorem State.cancelPark_ta (s : State) (n : Station) : (s.cancelPark n).ta = s.ta :=
  (s.cancelPark_acts n).blocks .ta (by simp)

theorem checkCompletion_figures {a : Ta} {s : State} (h : s.ta = a) : a.figuresStand s.checkCompletion.ta := by
  subst h
  unfold State.checkCompletion
  split
  · dsimp only
    split <;> rfl
  · rfl

theorem endCheck_figures (s : State) (k : Bank) (st : BankState) : s.ta.figuresStand (s.endCheck k st).ta := by
  unfold State.endCheck
  exact checkCompletion_figures (by simp [State.setBank])

/-- No command but a pass and the resets moves a figure of TA. -/
theorem exec_figuresStand {c : Instr} {s t : State} (h : exec c s = .next t) (hsoft : c ≠ .softReset)
    (hhard : c ≠ .hardReset) (hpass : ∀ p, c ≠ .allocationPass p) : s.ta.figuresStand t.ta := by
  have hrequest (q : Req) {body : State → State × Answer} (hbody : ∀ u, u.ta = s.ta → s.ta.figuresStand (body u).1.ta) :
      s.ta.figuresStand (request q body s).ta := by
    unfold request
    split
    · rfl
    · exact hbody _ rfl
  by_cases hta : Block.ta ∈ touched c
  · cases c with
    | softReset => exact absurd rfl hsoft
    | hardReset => exact absurd rfl hhard
    | allocationPass p => exact absurd rfl (hpass p)
    | cancel =>
      obtain rfl := Host.Outcome.next.inj h
      split
      · rfl
      · rw [State.cancelPark_ta]
        rfl
      · rfl
    | configureDrive w slew =>
      obtain rfl := Host.Outcome.next.inj h
      refine hrequest _ fun u hu => ?_
      rcases checked_state u (configureDriveChecks w slew u) (_, _) with h' | h' <;> rw [configureDriveBody, h', ← hu] <;> rfl
    | arm =>
      obtain rfl := Host.Outcome.next.inj h
      unfold longRequest
      split
      · rfl
      · dsimp only
        split
        · rfl
        · rw [State.beginArm_ta]
          rfl
    | disarm =>
      obtain rfl := Host.Outcome.next.inj h
      refine hrequest _ fun u hu => ?_
      rcases checked_state u _ (_, _) with h' | h' <;> rw [disarmBody, h', ← hu]
      · rfl
      · rw [State.disarmStations_ta]
        rfl
    | bankCurrentSeen k | checkTimerExpiry k =>
      obtain rfl := Host.Outcome.next.inj h
      split
      · exact endCheck_figures ..
      · rfl
    | _ => simp [touched] at hta
  · exact (exec_sameBlock h hta : t.ta = s.ta) ▸ rfl

end Sys2Proof.Machine

namespace Sys2Proof.Proofs.TorqueAllocation
open Sys2Proof Sys2Proof.Machine

/-- Settles O30: each clause of the first half is a row of R38's table; the figures stand at every other command. -/
theorem safeStopReferenceFollowsLevel : Obligations.SafeStopReferenceFollowsLevel := by
  refine ⟨fun s p hcount => ⟨s.passed p, exec_allocationPass p s, ?_⟩, fun c s t h hsoft hhard hpass => ?_⟩
  · obtain ⟨href, hdemand⟩ := afterPass_safe p.held s
    rw [State.passed_ta]
    generalize Ta.afterPass p.held s = t at href hdemand
    refine ⟨fun hlevel hnone => ?_, fun r hlevel hsome => ⟨fun hlt => ?_, fun hfour => ?_⟩, fun hlevel => ?_, fun hlevel => ?_⟩
    · rw [hlevel, hnone, safeStopRef_absent] at href
      exact Prod.mk.inj href
    · rw [hlevel, hsome, safeStopRef_present _ _ hlt] at href
      exact Prod.mk.inj href
    · rw [hlevel, hsome, hfour, safeStopRef_falls] at href
      exact Prod.mk.inj href
    · rw [safeStopRef_elsewhere hlevel] at href
      obtain ⟨hnone, -⟩ := Prod.mk.inj href
      exact ⟨hnone, by rw [hdemand, hnone]; rfl⟩
    · rw [hlevel] at href
      obtain ⟨r, hr⟩ := safeStopRef_isSome s.ta.safeRef s.ta.fallCount t.speed
      have hsome : t.safeRef = some r := (Prod.mk.inj href).1.trans hr
      exact ⟨r, hsome, by rw [hdemand, hsome, safeStopDemand_some]⟩
  · have hstand := exec_figuresStand h hsoft hhard hpass
    rw [Ta.figuresStand] at hstand
    rw [hstand]
    exact ⟨rfl, rfl, rfl⟩

end Sys2Proof.Proofs.TorqueAllocation


namespace Sys2Proof.Machine
open Sys2Proof

/-! ### Speed, travel and metres of a pass (R34 to R37) -/

theorem StationState.measures_iff (x : StationState) :
    x.measures = true ↔ x = .live ∨ x = .restoring ∨ x = .standby := by
  cases x <;> decide

/-- R35: which stations' wheels are read. -/
theorem StationCtx.qualifies_eq (x : StationCtx) :
    x.qualifies = if (x.state = .live ∨ x.state = .restoring ∨ x.state = .standby) ∧ x.link = .alive
      then x.report.map Report.wheel else none := by
  simp [StationCtx.qualifies, StationState.measures_iff]

/-- R35: the wheel speeds that contribute are those of qualifying stations that do not slip. -/
theorem State.contributions_eq (s : State) :
    s.contributions = Station.all.filterMap fun n => (s.station n).qualifies.filter fun w =>
      !decide ((s.puStation n).threshold < gap (mag w) s.ta.speed) := by
  refine congrArg (Station.all.filterMap ·) (funext fun n => ?_)
  cases hq : (s.station n).qualifies with
  | none => simp [State.slipMark, hq]
  | some w => simp [State.slipMark, hq, Option.filter]

theorem State.newSpeed_eq (s : State) :
    s.newSpeed = if s.contributions = [] then s.ta.speed
      else min 700 ((s.contributions.map mag).sum / s.contributions.length) := by
  simp [State.newSpeed, List.isEmpty_iff]

theorem State.newSpeed_le {s : State} (h : s.ta.speed ≤ 700) : s.newSpeed ≤ 700 := by
  rw [State.newSpeed_eq]
  split
  · exact h
  · exact min_le_left _ _

theorem selectorOf_eq (p : PassPorts) :
    selectorOf p =
      if p.selForward ∧ ¬ p.selNeutral ∧ ¬ p.selReverse then .forward
      else if p.selReverse ∧ ¬ p.selForward ∧ ¬ p.selNeutral then .reverse else .neutral := by
  unfold selectorOf PassPorts.direction
  cases p.selForward <;> cases p.selNeutral <;> cases p.selReverse <;> rfl

theorem Travel.eq_opposite_iff (a b : Travel) : a = b.opposite ↔ a ≠ b := by cases a <;> cases b <;> decide

/-- R36: the reversal condition, in a selector that names a direction. -/
theorem reversalHolds_iff (sel : Selector) (sign : Travel) (speed : Nat) :
    reversalHolds sel sign speed = true ↔ ∃ d, sel.direction = some d ∧ sign ≠ d ∧ 5 ≤ speed := by
  unfold reversalHolds
  cases sel.direction with
  | none => simp
  | some d => simp [Travel.eq_opposite_iff]

theorem presentTravel_neutral (sign : Travel) (reversal : Bool) : presentTravel .neutral sign reversal = sign := rfl

/-- R36: the present travel, in a selector that names a direction. -/
theorem presentTravel_of_direction {sel : Selector} {d : Travel} (h : sel.direction = some d) (sign : Travel) (speed : Nat) :
    presentTravel sel sign (reversalHolds sel sign speed) = if sign ≠ d ∧ 5 ≤ speed then sign else d := by
  have hiff : reversalHolds sel sign speed = true ↔ sign ≠ d ∧ 5 ≤ speed := by
    rw [reversalHolds_iff]
    simp [h]
  simp only [presentTravel, h, hiff]

/-- R37: the distance accumulator keeps what is left of a metre. -/
theorem passAccum_eq {accum speed : Nat} (haccum : accum ≤ 3599) (hspeed : speed ≤ 700) :
    (if 3600 ≤ accum + speed then accum + speed - 3600 else accum + speed) = (accum + speed) % 3600 := by
  split <;> omega

theorem State.retardPower_eq (s : State) :
    s.retardPower = min 12000
      (Station.all.map fun n =>
        if (s.station n).link = .alive then ((s.station n).report.map Report.regen).getD 0 else 0).sum := rfl

/-- What a pass hands on, by the figures it leaves in TA. -/
theorem passEvents_eq (p : PassPorts) (s : State) :
    passEvents p s =
      [.passArrival (Ta.afterPass p s).slipMark (Ta.afterPass p s).speed]
        ++ (if 3600 ≤ s.ta.accum + (Ta.afterPass p s).speed then metreEvents (Ta.afterPass p s).travel else [])
        ++ [.grantHandover (.of (handOf s (passFigures p s))) (Ta.afterPass p s).travel,
          .powerArrival (Ta.afterPass p s).power p.dcLink] := by
  have hmetre : (passFigures p s).metre = decide (3600 ≤ s.ta.accum + (Ta.afterPass p s).speed) := rfl
  unfold passEvents
  simp only [hmetre, decide_eq_true_eq]
  rfl

end Sys2Proof.Machine

namespace Sys2Proof.Proofs.TorqueAllocation
open Sys2Proof Sys2Proof.Machine

/-- Settles O29: what a pass derives from the reports, from the selector, and from the distance it adds up. -/
theorem passDerivesSpeedTravelAndMetres : Obligations.PassDerivesSpeedTravelAndMetres := by
  intro s p haccum hspeed wheel slips used
  have hwheel (n : Station) : (s.station n).qualifies = wheel n := (s.station n).qualifies_eq
  have hused : s.contributions = used := by
    simp only [State.contributions_eq, hwheel]
    rfl
  have hslip : s.slipMark = fun n => (wheel n).map (slips n) := by
    simp only [← hwheel]
    rfl
  refine ⟨s.passed p, .of (handOf s (passFigures p.held s)), exec_allocationPass p s, rfl, ?_, ?_, ?_, ?_, ?_, rfl, rfl, ?_, ?_, ?_,
    rfl, ?_, ?_, ?_, rfl, rfl, rfl⟩
  · rw [← hslip]
    rfl
  · rw [← hused]
    exact s.newSpeed_eq
  · exact State.newSpeed_le hspeed
  · rw [← hused]
    rfl
  · exact selectorOf_eq p.held
  · intro h
    exact (congrArg (presentTravel · _ _) h).trans (presentTravel_neutral _ _)
  · intro d h
    exact presentTravel_of_direction h _ _
  · exact passAccum_eq haccum (State.newSpeed_le hspeed)
  · rw [State.passed_handed, passEvents_eq, ← List.append_assoc, ← List.append_assoc]
    rfl
  · exact s.passed_station p
  · exact s.passed_bank p

end Sys2Proof.Proofs.TorqueAllocation


namespace Sys2Proof.Machine
open Sys2Proof

/-! ### Demands and the state selected (R39, R40, R46, R47) -/

section Scaled
variable {ceiling speed : Nat} {sel : Selector}

theorem scaledPropel_zero : scaledPropel 0 ceiling speed sel = 0 := by simp [scaledPropel]

theorem scaledPropel_atCeiling (dp : Nat) (h : (if sel = .reverse then min 80 ceiling else ceiling) ≤ speed) :
    scaledPropel dp ceiling speed sel = 0 := if_pos h

theorem scaledPropel_nearCeiling (dp : Nat) (hlow : speed < if sel = .reverse then min 80 ceiling else ceiling)
    (hhigh : (if sel = .reverse then min 80 ceiling else ceiling) < speed + 20) :
    scaledPropel dp ceiling speed sel =
      dp * ((if sel = .reverse then min 80 ceiling else ceiling) - speed) / 20 :=
  (if_neg hlow.not_ge).trans (if_pos hhigh)

theorem scaledPropel_below (dp : Nat) (h : speed + 20 ≤ if sel = .reverse then min 80 ceiling else ceiling) :
    scaledPropel dp ceiling speed sel = dp :=
  (if_neg (by omega)).trans (if_neg (by omega))

end Scaled

section Select
variable {dr speed dp : Nat} {sel : Selector}

theorem selectState_reversal : selectState true dr speed dp sel = (.reversalWait, if 0 < dr then .retard else .none) := rfl

theorem selectState_retard (hdr : 0 < dr) (hspeed : 5 ≤ speed) : selectState false dr speed dp sel = (.retard, .retard) := by
  simp [selectState, hdr, hspeed]

theorem selectState_neutral (h : dr = 0 ∨ speed < 5) (hsel : sel = .neutral) :
    selectState false dr speed dp sel = (.neutral, .none) := by
  have hno : ¬(0 < dr ∧ 5 ≤ speed) := by omega
  simp [selectState, hno, hsel]

theorem selectState_propel (h : dr = 0 ∨ speed < 5) (hsel : sel ≠ .neutral) (hdp : 0 < dp) :
    selectState false dr speed dp sel = (.propel, .propel) := by
  have hno : ¬(0 < dr ∧ 5 ≤ speed) := by omega
  simp [selectState, hno, hsel, hdp]

theorem selectState_coast (h : dr = 0 ∨ speed < 5) (hsel : sel ≠ .neutral) (hdp : dp = 0) :
    selectState false dr speed dp sel = (.coast, .none) := by
  have hno : ¬(0 < dr ∧ 5 ≤ speed) := by omega
  simp [selectState, hno, hsel, hdp]

end Select

/-- R36: the reversal condition, by the figures a pass leaves. -/
def Ta.reverses (t : Ta) : Prop := ∃ d, t.selector.direction = some d ∧ t.wheelSign ≠ d ∧ 5 ≤ t.speed

section Pass
variable {p : PassPorts} {s : State}

theorem afterPass_reverses :
    reversalHolds (Ta.afterPass p s).selector (Ta.afterPass p s).wheelSign (Ta.afterPass p s).speed = true ↔
      (Ta.afterPass p s).reverses := reversalHolds_iff ..

/-- R40: what a pass chooses, by the figures it leaves. -/
theorem afterPass_chosen :
    ((Ta.afterPass p s).state, (Ta.afterPass p s).demand) =
      if s.ta.state.armed then
        selectState
          (reversalHolds (Ta.afterPass p s).selector (Ta.afterPass p s).wheelSign (Ta.afterPass p s).speed)
          (Ta.afterPass p s).dr (Ta.afterPass p s).speed (Ta.afterPass p s).dp (Ta.afterPass p s).selector
      else (s.ta.state, .none) := rfl

theorem afterPass_unarmed (h : s.ta.state.armed = false) :
    (Ta.afterPass p s).state = s.ta.state ∧ (Ta.afterPass p s).demand = .none := by
  have hchosen := afterPass_chosen (p := p) (s := s)
  rw [if_neg (by simp [h])] at hchosen
  exact Prod.mk.inj hchosen

theorem afterPass_reversing (h : s.ta.state.armed = true) (hrev : (Ta.afterPass p s).reverses) :
    (Ta.afterPass p s).state = .reversalWait ∧
      (Ta.afterPass p s).demand = if 0 < (Ta.afterPass p s).dr then .retard else .none := by
  have hchosen := afterPass_chosen (p := p) (s := s)
  rw [if_pos h, afterPass_reverses.2 hrev, selectState_reversal] at hchosen
  exact Prod.mk.inj hchosen

theorem afterPass_driving (h : s.ta.state.armed = true) (hnot : ¬ (Ta.afterPass p s).reverses) {x : TaState} {d : Demand}
    (hx : selectState false (Ta.afterPass p s).dr (Ta.afterPass p s).speed (Ta.afterPass p s).dp
      (Ta.afterPass p s).selector = (x, d)) : (Ta.afterPass p s).state = x ∧ (Ta.afterPass p s).demand = d := by
  have hchosen := afterPass_chosen (p := p) (s := s)
  rw [if_pos h, Bool.eq_false_iff.2 (afterPass_reverses.not.2 hnot), hx] at hchosen
  exact Prod.mk.inj hchosen

/-- R39: the propel demand of a pass, by the figures it leaves. -/
theorem afterPass_dp :
    (Ta.afterPass p s).dp =
      scaledPropel
        (if s.ta.state.armed && (Ta.afterPass p s).dr == 0 && (Ta.afterPass p s).selector != .neutral
            && !reversalHolds (Ta.afterPass p s).selector (Ta.afterPass p s).wheelSign (Ta.afterPass p s).speed
          then p.accel else 0)
        (speedCeiling s.ct).value (Ta.afterPass p s).speed (Ta.afterPass p s).selector := rfl

/-- R39: whether the accelerator pedal is followed. -/
theorem afterPass_followsPedal :
    (s.ta.state.armed && (Ta.afterPass p s).dr == 0 && (Ta.afterPass p s).selector != .neutral
        && !reversalHolds (Ta.afterPass p s).selector (Ta.afterPass p s).wheelSign (Ta.afterPass p s).speed) = true ↔
      s.ta.state.armed = true ∧ (Ta.afterPass p s).dr = 0 ∧ (Ta.afterPass p s).selector ≠ .neutral ∧
        ¬ (Ta.afterPass p s).reverses := by
  rw [← afterPass_reverses]
  simp only [Bool.and_eq_true, beq_iff_eq, bne_iff_ne, Bool.not_eq_true', Bool.not_eq_true, and_assoc]

end Pass

theorem State.anyLive_iff (s : State) :
    s.anyLive = true ↔ ∃ n ∈ [Station.s0, .s1, .s2, .s3], (s.station n).state = .live := by
  simp [State.anyLive, PerStation.toList, State.station, PerStation.get]

/-- R47: the brake blend of a pass, by the figures it leaves. -/
theorem afterPass_blend (p : PassPorts) (s : State) :
    (Ta.afterPass p s).blend =
      blendOf (Ta.afterPass p s).shortfall (Ta.afterPass p s).dr (Ta.afterPass p s).speed s.pu.level s.anyLive := rfl

end Sys2Proof.Machine

namespace Sys2Proof.Proofs.TorqueAllocation
open Sys2Proof Sys2Proof.Machine

/-- Settles O31: the propel demand by whether the pedal is followed and by the three rows of its scaling, the state by
the rows of R40. -/
theorem passSelectsStateFromDemands : Obligations.PassSelectsStateFromDemands := by
  refine fun s p => ⟨s.passed p, exec_allocationPass p s, ⟨rfl, rfl, rfl, rfl⟩, fun harmed hzero hsel hnot => ?_,
    fun hany => ?_, afterPass_unarmed, fun harmed hyes => ?_,
    fun harmed hnot => ⟨fun hpos hspeed => ?_, fun hlow => ⟨fun hsel => ?_, fun hsel hpos => ?_, fun hsel hzero => ?_⟩⟩,
    rfl, ?_⟩
  · rw [State.passed_ta, afterPass_dp, if_pos (afterPass_followsPedal.2 ⟨harmed, hzero, hsel, hnot⟩)]
    exact ⟨scaledPropel_atCeiling _, scaledPropel_nearCeiling _, scaledPropel_below _⟩
  · have hno : ¬ (s.ta.state.armed = true ∧ (Ta.afterPass p.held s).dr = 0 ∧
        (Ta.afterPass p.held s).selector ≠ .neutral ∧ ¬ (Ta.afterPass p.held s).reverses) := by
      rintro ⟨harmed, hzero, hsel, hnot⟩
      rcases hany with h | h | h | h
      · exact Bool.noConfusion (harmed.symm.trans h)
      · exact h hzero
      · exact hsel h
      · exact hnot h
    rw [State.passed_ta, afterPass_dp, if_neg (afterPass_followsPedal.not.2 hno), scaledPropel_zero]
  · obtain ⟨hstate, hdemand⟩ := afterPass_reversing harmed hyes
    rw [State.passed_ta, hdemand]
    refine ⟨hstate, ?_, ?_⟩ <;> split <;> simp_all
  · exact afterPass_driving harmed hnot (selectState_retard hpos hspeed)
  · exact afterPass_driving harmed hnot (selectState_neutral hlow hsel)
  · exact afterPass_driving harmed hnot (selectState_propel hlow hsel hpos)
  · exact afterPass_driving harmed hnot (selectState_coast hlow hsel hzero)
  · rw [State.passed_ta, afterPass_blend, blendOf]
    simp only [State.anyLive_iff]

end Sys2Proof.Proofs.TorqueAllocation


namespace Sys2Proof

theorem le_hold {lo hi : Int} (x : Int) : lo ≤ hold lo hi x := le_max_left _ _

theorem hold_le {lo hi : Int} (h : lo ≤ hi) (x : Int) : hold lo hi x ≤ hi := max_le h (min_le_left _ _)

theorem hold_of_mem {lo hi x : Int} (hlo : lo ≤ x) (hhi : x ≤ hi) : hold lo hi x = x := by
  rw [hold, min_eq_right hhi, max_eq_right hlo]

end Sys2Proof

namespace Sys2Proof.Machine
open Sys2Proof

/-! ### Grants (R41 to R45) -/

section Clamp
variable (t : List Slot) (n : Station)

/-- R43: a clamped value lies between the station's two ceilings. -/
theorem clampTo_mem (v : Int) :
    -((torqueCeiling t n true).value : Int) ≤ clampTo t n v ∧ clampTo t n v ≤ (torqueCeiling t n false).value :=
  ⟨le_hold v, hold_le (by omega) v⟩

theorem clampTo_clampTo (v : Int) : clampTo t n (clampTo t n v) = clampTo t n v :=
  hold_of_mem (clampTo_mem t n v).1 (clampTo_mem t n v).2

theorem clampTo_zero : clampTo t n 0 = 0 := hold_of_mem (by omega) (by omega)

end Clamp

section Grant
variable {s : State} {f : PassFigures} {n : Station}

/-- R44: what a station offers its partner. -/
def offeredBy (s : State) (f : PassFigures) (n : Station) : Nat :=
  if f.demand = .retard ∧ (s.station n).state.driven = true then clampShort s f n else 0

/-- R44: what a station takes of its partner's offer. -/
theorem taken_eq :
    taken s f n =
      if (s.station n).state = .live ∧ (s.station n).lastGrant ≤ 0 ∧ clampOf s f n ≤ 0 then
        min (offeredBy s f n.partner) ((torqueCeiling s.ct n true).value - mag (clampOf s f n)) else 0 := by
  unfold taken offeredBy
  by_cases hoffer : f.demand = .retard ∧ (s.station n.partner).state.driven = true
  · simp [hoffer, and_assoc]
  · rw [if_neg hoffer, Nat.zero_min, ite_self]
    exact if_neg fun h => hoffer (by simp_all)

theorem taken_of_notLive (h : (s.station n).state ≠ .live) : taken s f n = 0 := by
  rw [taken_eq, if_neg fun hlive => h hlive.1]

theorem taken_of_noOffer (h : f.demand ≠ .retard ∨ (s.station n.partner).state.driven = false) : taken s f n = 0 := by
  have hoffer : offeredBy s f n.partner = 0 := if_neg fun ⟨hretard, hdriven⟩ =>
    h.elim (· hretard) fun hnot => Bool.noConfusion (hdriven.symm.trans hnot)
  rw [taken_eq, hoffer, Nat.zero_min, ite_self]

/-- R43: the grant of a station that takes nothing is its slewed value, clamped. -/
theorem grantOf_of_taken_zero (h : taken s f n = 0) : grantOf s f n = clampTo s.ct n (slewOf s f n) := by
  rw [grantOf, h, Int.natCast_zero, Int.sub_zero, clampOf, clampTo_clampTo]

theorem slewOf_live (h : (s.station n).state = .live) (harmed : f.state.armed = true) :
    slewOf s f n = slewed (s.station n).lastGrant (aimOf (s.station n).lastGrant (targetOf s f n)) s.ta.slew := by
  simp [slewOf, h, harmed]

theorem slewOf_restoring (h : (s.station n).state = .restoring) (harmed : f.state.armed = true) :
    slewOf s f n = slewed (s.station n).lastGrant (aimOf (s.station n).lastGrant (targetOf s f n)) (min 20 s.ta.slew) := by
  simp [slewOf, h, harmed]

theorem slewOf_parking (h : (s.station n).state = .parking) : slewOf s f n = slewed (s.station n).lastGrant 0 100 := by
  simp [slewOf, h]

theorem slewOf_undriven (h : (s.station n).state.driven = false) (hpark : (s.station n).state ≠ .parking) :
    slewOf s f n = 0 := by
  unfold slewOf
  cases hst : (s.station n).state <;> simp_all [StationState.driven]

theorem enableFor_iff :
    enableFor s f n = true ↔
      (s.station n).state = .parking ∨ ((s.station n).state.driven = true ∧ f.state.armed = true) := by
  simp [enableFor, or_comm]

/-- R41: the magnitude of a driven station's target. -/
def targetMagnitude (s : State) (f : PassFigures) (n : Station) : Int :=
  hold 0 1000
    (divZ ((f.magnitude * s.ta.weights.get n / 1000 : Nat) * (1000 + (s.station n).settings.trim)) 1000
      + biasOf n f.demand s.sc.bias)

theorem targetOf_eq :
    targetOf s f n =
      if (s.station n).state.driven = true ∧ f.demand = .propel then targetMagnitude s f n
      else if (s.station n).state.driven = true ∧ f.demand = .retard then -targetMagnitude s f n else 0 := by
  unfold targetOf
  cases hdriven : (s.station n).state.driven <;> cases hd : f.demand <;> simp [hdriven, hd, targetMagnitude]

end Grant

end Sys2Proof.Machine

namespace Sys2Proof.Proofs.TorqueAllocation
open Sys2Proof Sys2Proof.Machine

/-- Settles O32: the figures of the statement are the model's own, station by station; a grant is clamped last, and what
is taken of another station's shortfall is taken by LIVE stations only. -/
theorem grantsStayWithinCeilings : Obligations.GrantsStayWithinCeilings := by
  intro s p
  refine ⟨s.passed p, .of (handOf s (passFigures p.held s)), exec_allocationPass p s, ?_, ?_⟩
  · simp [passEvents_eq]
  set f := passFigures p.held s
  intro magnitude bias held toward aim slewed' clamped offered taken' n x g m
  have htarget (n : Station) : (s.passed p).ta.target.get n = targetOf s f n := PerStation.get_of _ n
  have hg : g = grantOf s f n := congrArg GrantHand.grant (PerStation.get_of (handOf s f) n)
  have haim (n : Station) : aim n = aimOf (s.station n).lastGrant (targetOf s f n) := by
    simp only [aim, htarget]
    rfl
  have hslew (n : Station) : slewed' n = slewOf s f n := by
    simp only [slewed', haim]
    unfold slewOf
    dsimp only
    cases (s.station n).state <;> rfl
  have hclamp (n : Station) : clamped n = clampOf s f n := congrArg (held n) (hslew n)
  have htaken : taken' n = taken s f n := by
    rw [taken_eq]
    simp only [taken', offered, hclamp, hslew]
    rfl
  have hbounds := clampTo_mem s.ct n (clampOf s f n - taken s f n)
  have hm : targetMagnitude s f n = m := by
    simp only [m, magnitude, bias, targetMagnitude, biasOf, PassFigures.magnitude]
    have hd : (s.passed p).ta.demand = f.demand := rfl
    rw [hd]
    cases n <;> cases f.demand <;> rfl
  have hnotLive (h : x.state ≠ .live) : g = held n (slewOf s f n) := hg.trans (grantOf_of_taken_zero (taken_of_notLive h))
  refine ⟨?_, ?_, ?_, ?_, ?_, fun hdriven hpark => ?_, fun hpark => ?_, fun hrest harmed => ?_, fun hlive harmed hno => ?_,
    ?_, ?_⟩
  · rw [htarget, targetOf_eq, hm]
    rfl
  · rw [hg]
    exact PerStation.get_of _ n
  · exact hg ▸ hbounds.1
  · exact hg ▸ hbounds.2
  · rw [hg, hclamp, htaken]
    rfl
  · have hlive : x.state ≠ .live := fun h => by simp [h, StationState.driven] at hdriven
    rw [hnotLive hlive, slewOf_undriven hdriven hpark]
    exact clampTo_zero s.ct n
  · rw [hnotLive (by simp [hpark]), slewOf_parking hpark]
    rfl
  · rw [hnotLive (by simp [hrest]), slewOf_restoring hrest harmed, haim]
    rfl
  · rw [hg, grantOf_of_taken_zero (taken_of_noOffer hno), slewOf_live hlive harmed, haim]
    rfl
  · rw [PerStation.get_of]
    exact enableFor_iff
  · rw [PerStation.get_of, htarget]
    rfl

end Sys2Proof.Proofs.TorqueAllocation


namespace Sys2Proof.Machine
open Sys2Proof

/-! ### A bank renewed: the lead settled and the GRID record evaluated (R81, R86) -/

theorem Gd.settle_lead (g : Gd) :
    g.settle.lead = settledLead g.order g.lead fun k => (g.banks.get k).state == .failed := by
  unfold Gd.settle
  dsimp only
  split
  · next h => exact h.symm
  · rfl

theorem Gd.settle_of_kept {g : Gd} (h : g.settle.lead = g.lead) : g.settle = g := by
  rw [Gd.settle_lead] at h
  exact if_pos h

theorem Gd.settle_of_moved {g : Gd} (h : g.settle.lead ≠ g.lead) :
    g.settle = { g with lead := g.settle.lead, banks := .of fun k => (g.banks.get k).noLead } := by
  have hlead := h
  rw [Gd.settle_lead] at h
  rw [Gd.settle_lead]
  exact if_neg h

/-- A bank's record as another has it, but for the lead energy and its remainder. -/
def BankRec.sameButLead (b c : BankRec) : Prop := c = { b with leadEnergy := c.leadEnergy, leadRem := c.leadRem }

theorem Gd.settle_bank (g : Gd) (k : Bank) : (g.banks.get k).sameButLead (g.settle.banks.get k) := by
  by_cases h : g.settle.lead = g.lead
  · rw [Gd.settle_of_kept h]
    rfl
  · rw [Gd.settle_of_moved h, PerBank.get_of]
    rfl

theorem Gd.settle_frame (g : Gd) : g.settle = { g with banks := g.settle.banks, lead := g.settle.lead } := by
  by_cases h : g.settle.lead = g.lead
  · rw [Gd.settle_of_kept h]
  · rw [Gd.settle_of_moved h]

/-- From `s` to `t` the record of bank `k` becomes `b`, the lead is settled, and the GRID record is evaluated. -/
structure Renewed (s : State) (k : Bank) (b : BankRec) (t : State) : Prop where
  frame : t = { s with ct := t.ct, gd := t.gd }
  gd : t.gd = { s.gd with
    banks := t.gd.banks, lead := t.gd.lead, gridValue := t.gd.gridValue, published := t.gd.published }
  bank : (b.sameButLead (t.bank k))
  other : ((s.bank k.other).sameButLead (t.bank k.other))
  lead : t.gd.lead = settledLead s.gd.order s.gd.lead fun j => (t.bank j).state == .failed
  moved : t.gd.lead ≠ s.gd.lead → ∀ j, (t.bank j).leadEnergy = 0 ∧ (t.bank j).leadRem = 0
  kept : t.gd.lead = s.gd.lead → t.bank k = b ∧ t.bank k.other = s.bank k.other
  evaluated : (t.gd.gridValue, t.ct) = gridEvaluated s.ct s.gd.gridValue t.gd.condition t.gd.recordValue

theorem BankRec.sameButLead.state {b c : BankRec} (h : b.sameButLead c) : c.state = b.state := by rw [h]

@[simp] theorem State.setBank_bank_other (s : State) (k : Bank) (b : BankRec) :
    (s.setBank k b).bank k.other = s.bank k.other := by
  cases k <;> rfl

@[simp] theorem State.setBank_bank_same (s : State) (k : Bank) (b : BankRec) : (s.setBank k b).bank k = b := by
  cases k <;> rfl

/-- A bank's record replaced, with the lead settled and the GRID record evaluated. -/
def State.renew (s : State) (k : Bank) (b : BankRec) : State :=
  ((s.setBank k b).withGd (s.setBank k b).gd.settle).evalGrid

theorem State.renew_spec (s : State) (k : Bank) (b : BankRec) : Renewed s k b (s.renew k b) := by
  set g := (s.setBank k b).gd with hg
  have hsame (j : Bank) : (g.banks.get j).sameButLead (g.settle.banks.get j) := g.settle_bank j
  have hmoved (h : g.settle.lead ≠ g.lead) (j : Bank) :
      (g.settle.banks.get j).leadEnergy = 0 ∧ (g.settle.banks.get j).leadRem = 0 := by
    rw [Gd.settle_of_moved h, PerBank.get_of]
    exact ⟨rfl, rfl⟩
  have hkept (h : g.settle.lead = g.lead) (j : Bank) : g.settle.banks.get j = g.banks.get j := by
    rw [Gd.settle_of_kept h]
  have hlead : g.settle.lead = settledLead g.order g.lead fun j => (g.settle.banks.get j).state == .failed := by
    simp only [(hsame _).state]
    exact g.settle_lead
  have hrenew : s.renew k b = _ := State.evalGrid_eq _
  rw [← hg, g.settle_frame] at hrenew
  rw [hrenew]
  have hk : g.banks.get k = b := s.setBank_bank_same k b
  have hother : g.banks.get k.other = s.bank k.other := s.setBank_bank_other k b
  exact ⟨rfl, rfl, hk ▸ hsame k, hother ▸ hsame k.other, hlead, hmoved,
    fun h => ⟨(hkept h k).trans hk, (hkept h k.other).trans hother⟩, rfl⟩

theorem Renewed.publish {s t : State} {k : Bank} {b : BankRec} (h : Renewed s k b t) : Renewed s k b t.publishGrid where
  frame := congrArg State.publishGrid h.frame
  gd := congrArg (fun g : Gd => { g with published := t.gd.figures }) h.gd
  bank := h.bank
  other := h.other
  lead := h.lead
  moved := h.moved
  kept := h.kept
  evaluated := h.evaluated

theorem BankRec.sameButLead.trans {b c d : BankRec} (h : b.sameButLead c) (h' : c.sameButLead d) : b.sameButLead d := by
  rw [BankRec.sameButLead, h', h]

theorem BankRec.sameButLead.startCheck {b c : BankRec} (h : b.sameButLead c) : b.startCheck.sameButLead c.startCheck := by
  rw [h]
  rfl

theorem State.startCheck_renewed (s : State) (k : Bank) : Renewed s k (s.bank k).startCheck (s.startCheck k) :=
  (s.renew_spec k (s.bank k).startCheck).publish

theorem State.handCondition_eq (s : State) (c : HandedClass) (was now : Bool) :
    s.handCondition c was now = s.withHanded (s.handed ++ told c was now) := by
  cases was <;> cases now <;> simp [State.handCondition, told, State.hand, State.withHanded]

/-- R87: GF tested, its event handed to PU. -/
theorem State.testGf_later_eq (s : State) :
    s.testGf false =
      (s.withGd { s.gd with gf := s.gd.faulty }).withHanded (s.handed ++ told .gf s.gd.gf s.gd.faulty) :=
  State.handCondition_eq _ _ _ _

/-! ### Both self-checks started (R31, R78) -/

/-- Both banks' self-checks started, A before B. -/
def State.startBoth (s : State) : State := (s.startCheck .a).startCheck .b

section Both
variable (s : State)

theorem State.startBoth_bank (k : Bank) : (s.bank k).startCheck.sameButLead (s.startBoth.bank k) := by
  have ha := s.startCheck_renewed .a
  have hb := (s.startCheck .a).startCheck_renewed .b
  cases k with
  | a => exact ha.bank.trans hb.other
  | b => exact ha.other.startCheck.trans hb.bank

theorem State.startBoth_frame : s.startBoth = { s with ct := s.startBoth.ct, gd := s.startBoth.gd } := by
  have ha := s.startCheck_renewed .a
  have hb := (s.startCheck .a).startCheck_renewed .b
  exact hb.frame.trans (congrArg (fun u : State => { u with ct := s.startBoth.ct, gd := s.startBoth.gd }) ha.frame)

theorem State.startBoth_gd :
    s.startBoth.gd = { s.gd with
      banks := s.startBoth.gd.banks, lead := s.startBoth.gd.lead, gridValue := s.startBoth.gd.gridValue
      published := s.startBoth.gd.published } := by
  have ha := s.startCheck_renewed .a
  have hb := (s.startCheck .a).startCheck_renewed .b
  exact hb.gd.trans (congrArg (fun g : Gd => { g with
    banks := s.startBoth.gd.banks, lead := s.startBoth.gd.lead, gridValue := s.startBoth.gd.gridValue
    published := s.startBoth.gd.published }) ha.gd)

theorem State.startBoth_published : s.startBoth.gd.published = s.startBoth.gd.figures := rfl

end Both

end Sys2Proof.Machine


namespace Sys2Proof.Machine
open Sys2Proof

theorem Renewed.order {s t : State} {k : Bank} {b : BankRec} (h : Renewed s k b t) : t.gd.order = s.gd.order := by
  rw [h.gd]

theorem Renewed.cfg {s t : State} {k : Bank} {b : BankRec} (h : Renewed s k b t) : t.gd.cfg = s.gd.cfg := by
  rw [h.gd]

/-- R81: over legal banks, settling the lead once bank A has left FAILED, and again once B has too, leaves the lead that the
order calls for when none is FAILED; and only a lead that stands at the end has stood in between. -/
theorem settledLead_twice {order : LeadOrder} {lead : Option Bank} {failed before : Bank → Bool} (ha : failed .a = false)
    (hb : failed .b = before .b) (hlead : ∀ k, lead = some k → before k = false)
    (hnone : lead = none → ∀ k, before k = true) :
    settledLead order (settledLead order lead failed) (fun _ => false) = settledLead order lead (fun _ => false) ∧
      (settledLead order lead (fun _ => false) = lead → settledLead order lead failed = lead) := by
  cases order with
  | fixedA => simp [settledLead, ha]
  | fixedB =>
    refine ⟨by simp [settledLead], fun h => ?_⟩
    obtain rfl : some Bank.b = lead := by simpa [settledLead] using h
    simp [settledLead, hb, hlead]
  | alternate =>
    match lead with
    | none => simp [settledLead, ha]
    | some .a => simp [settledLead, ha]
    | some .b => simp [settledLead, hb, hlead]

section Evaluation
variable {g : Gd} {x y : BankRec}

/-- R86: the grid condition, from the banks' records but for their lead energies. -/
theorem Gd.condition_eq (hx : x.sameButLead (g.banks.get .a)) (hy : y.sameButLead (g.banks.get .b)) :
    g.condition = (decide (percent 80 (g.cfg.capacity.get .a) ≤ x.heat) || decide (percent 80 (g.cfg.capacity.get .b) ≤ y.heat)
      || x.unproven || y.unproven) := by
  unfold Gd.condition Gd.hot
  rw [show g.banks.a = _ from hx, show g.banks.b = _ from hy, hx, hy]
  rfl

theorem Gd.recordValue_eq (hx : x.sameButLead (g.banks.get .a)) (hy : y.sameButLead (g.banks.get .b)) :
    g.recordValue = min 1000 (1000 * (x.avail + y.avail) / (g.cfg.rated.a + g.cfg.rated.b)) := by
  unfold Gd.recordValue
  rw [show g.banks.a = _ from hx, show g.banks.b = _ from hy]

theorem Gd.faulty_eq (hx : x.sameButLead (g.banks.get .a)) (hy : y.sameButLead (g.banks.get .b)) :
    g.faulty = (x.unproven || y.unproven || x.blowerMark || y.blowerMark) := by
  unfold Gd.faulty
  rw [show g.banks.a = _ from hx, show g.banks.b = _ from hy]
  rfl

end Evaluation

/-- R78: a bank at the start of its check is unproven when it was FAILED. -/
@[simp] theorem BankRec.startCheck_unproven (b : BankRec) : b.startCheck.unproven = (b.state == .failed) := rfl

section Both
variable (s : State)

theorem State.startBoth_lead (hlegal : banksLegal s.gd) :
    s.startBoth.gd.lead = settledLead s.gd.order s.gd.lead (fun _ => false) ∧
      (s.startBoth.gd.lead = s.gd.lead → (s.startCheck .a).gd.lead = s.gd.lead) := by
  obtain ⟨-, -, hlead, hnone⟩ := hlegal
  have ha := s.startCheck_renewed .a
  have hb := (s.startCheck .a).startCheck_renewed .b
  have hfirst := ha.lead
  have hlast : s.startBoth.gd.lead = settledLead s.gd.order (s.startCheck .a).gd.lead (fun _ => false) := by
    refine hb.lead.trans ?_
    rw [ha.order]
    refine congrArg (settledLead _ _) (funext fun k => ?_)
    rw [show ((s.startCheck .a).startCheck .b).bank k = s.startBoth.bank k from rfl, (s.startBoth_bank k).state]
    rfl
  have htwice := settledLead_twice (order := s.gd.order) (lead := s.gd.lead)
    (failed := fun j => ((s.startCheck .a).bank j).state == .failed) (before := fun j => (s.bank j).state == .failed)
    (by rw [ha.bank.state]; rfl)
    (by rw [show (s.startCheck .a).bank .b = (s.startCheck .a).bank Bank.a.other from rfl, ha.other.state]; rfl)
    (fun k hk => beq_eq_false_iff_ne.2 (hlead k hk)) (fun h k => beq_iff_eq.2 (hnone h k))
  rw [← hfirst, ← hlast] at htwice
  exact ⟨htwice.1, fun h => htwice.2 (htwice.1.symm.trans h)⟩

theorem State.startBoth_moved (h : s.startBoth.gd.lead ≠ s.gd.lead) (k : Bank) :
    (s.startBoth.bank k).leadEnergy = 0 ∧ (s.startBoth.bank k).leadRem = 0 := by
  have ha := s.startCheck_renewed .a
  have hb := (s.startCheck .a).startCheck_renewed .b
  by_cases hlast : s.startBoth.gd.lead = (s.startCheck .a).gd.lead
  · obtain ⟨hkb, hka⟩ := hb.kept hlast
    have hfirst := ha.moved fun h' => h (hlast.trans h')
    cases k with
    | a => exact (show s.startBoth.bank .a = _ from hka) ▸ hfirst .a
    | b => exact (show s.startBoth.bank .b = _ from hkb) ▸ hfirst .b
  · exact hb.moved hlast k

theorem State.startBoth_kept (h : s.startBoth.gd.lead = s.gd.lead) (hfirst : (s.startCheck .a).gd.lead = s.gd.lead)
    (k : Bank) :
    (s.startBoth.bank k).leadEnergy = (s.bank k).leadEnergy ∧ (s.startBoth.bank k).leadRem = (s.bank k).leadRem := by
  obtain ⟨haa, hab⟩ := (s.startCheck_renewed .a).kept hfirst
  obtain ⟨hbb, hba⟩ := ((s.startCheck .a).startCheck_renewed .b).kept (h.trans hfirst.symm)
  have hk : s.startBoth.bank k = (s.bank k).startCheck := by
    cases k with
    | a => exact hba.trans haa
    | b => exact hbb.trans (congrArg BankRec.startCheck hab)
  rw [hk]
  exact ⟨rfl, rfl⟩

/-- R86: the GRID record, evaluated at each of the two starts. -/
theorem State.startBoth_evaluated :
    let hot : Bool := [Bank.a, .b].any fun k => decide (percent 80 (s.gd.cfg.capacity.get k) ≤ (s.bank k).heat)
    let failed (k : Bank) : Bool := (s.bank k).state == .failed
    let half := gridEvaluated s.ct s.gd.gridValue
      (hot || failed .a || failed .b || ((s.bank .b).state == .checking && (s.bank .b).recheck))
      (min 1000 (1000 * (s.bank .b).avail / (s.gd.cfg.rated.a + s.gd.cfg.rated.b)))
    (s.startBoth.gd.gridValue, s.startBoth.ct) = gridEvaluated half.2 half.1 (hot || failed .a || failed .b) 0 := by
  intro hot failed half
  have ha := s.startCheck_renewed .a
  have hb := (s.startCheck .a).startCheck_renewed .b
  have hhalf : ((s.startCheck .a).gd.gridValue, (s.startCheck .a).ct) = half := by
    refine ha.evaluated.trans (congrArg₂ (gridEvaluated s.ct s.gd.gridValue) ?_ ?_)
    · rw [Gd.condition_eq ha.bank ha.other, ha.cfg]
      simp only [hot, List.any_cons, List.any_nil, Bool.or_false, Bool.or_assoc]
      rfl
    · rw [Gd.recordValue_eq ha.bank ha.other, ha.cfg]
      simp [BankRec.startCheck, Bank.other]
  have hlast : (s.startBoth.gd.gridValue, s.startBoth.ct) = _ := hb.evaluated
  rw [hlast, ← hhalf]
  refine congrArg₂ (gridEvaluated (s.startCheck .a).ct (s.startCheck .a).gd.gridValue) ?_ ?_
  · refine (Gd.condition_eq (s.startBoth_bank .a) (s.startBoth_bank .b)).trans ?_
    rw [show s.startBoth.gd.cfg = s.gd.cfg from hb.cfg.trans ha.cfg]
    simp only [hot, List.any_cons, List.any_nil, Bool.or_false, Bool.or_assoc]
    rfl
  · refine (Gd.recordValue_eq (s.startBoth_bank .a) (s.startBoth_bank .b)).trans ?_
    simp [BankRec.startCheck]

end Both

/-- What starting both self-checks, A before B, leaves of `s` in `w`. -/
structure BothStarted (s w : State) : Prop where
  frame : w = { s with ct := w.ct, gd := w.gd }
  gd : w.gd = { s.gd with
    banks := w.gd.banks, lead := w.gd.lead, gridValue := w.gd.gridValue, published := w.gd.published }
  bank : ∀ k, (s.bank k).startCheck.sameButLead (w.bank k)
  published : w.gd.published = w.gd.figures
  lead : banksLegal s.gd → w.gd.lead = settledLead s.gd.order s.gd.lead (fun _ => false)
  moved : w.gd.lead ≠ s.gd.lead → ∀ k, (w.bank k).leadEnergy = 0 ∧ (w.bank k).leadRem = 0
  kept : banksLegal s.gd → w.gd.lead = s.gd.lead →
    ∀ k, (w.bank k).leadEnergy = (s.bank k).leadEnergy ∧ (w.bank k).leadRem = (s.bank k).leadRem
  evaluated :
    let hot : Bool := [Bank.a, .b].any fun k => decide (percent 80 (s.gd.cfg.capacity.get k) ≤ (s.bank k).heat)
    let failed (k : Bank) : Bool := (s.bank k).state == .failed
    let half := gridEvaluated s.ct s.gd.gridValue
      (hot || failed .a || failed .b || ((s.bank .b).state == .checking && (s.bank .b).recheck))
      (min 1000 (1000 * (s.bank .b).avail / (s.gd.cfg.rated.a + s.gd.cfg.rated.b)))
    (w.gd.gridValue, w.ct) = gridEvaluated half.2 half.1 (hot || failed .a || failed .b) 0
  faulty : w.gd.faulty =
    ((s.bank .a).state == .failed || (s.bank .b).state == .failed || (s.bank .a).blowerMark || (s.bank .b).blowerMark)

theorem State.startBoth_started (s : State) : BothStarted s s.startBoth where
  frame := s.startBoth_frame
  gd := s.startBoth_gd
  bank := s.startBoth_bank
  published := rfl
  lead h := (s.startBoth_lead h).1
  moved := s.startBoth_moved
  kept h hkept := s.startBoth_kept hkept ((s.startBoth_lead h).2 hkept)
  evaluated := s.startBoth_evaluated
  faulty := Gd.faulty_eq (s.startBoth_bank .a) (s.startBoth_bank .b)

/-! ### ARM (R31) -/

theorem longRequest_refused {q : Req} {m : InFlight} {checks : State → List (Bool × Answer)} {accept : State → State}
    {s : State} {a : Answer} (h : s.linkFree) (hc : firstFailure (checks s.takeFrame) = some a) :
    longRequest q m checks accept s = replied s s q a := by
  have hfree : s.sl.inFlight = none := h
  simp only [longRequest, hfree, Option.isSome_none, Bool.false_eq_true, if_false, hc]
  rfl

theorem longRequest_accepted {q : Req} {m : InFlight} {checks : State → List (Bool × Answer)} {accept : State → State}
    {s : State} (h : s.linkFree) (hc : firstFailure (checks s.takeFrame) = none) :
    longRequest q m checks accept s = accept (s.withSl { s.takeFrame.sl with inFlight := some m }) := by
  have hfree : s.sl.inFlight = none := h
  simp only [longRequest, hfree, Option.isSome_none, Bool.false_eq_true, if_false, hc]
  rfl

/-- R31: a station with its link ALIVE that is not ABSENT. -/
theorem anyPresent_iff (s : State) :
    s.sm.toList.any StationCtx.present = true ↔ ∃ n, (s.station n).link = .alive ∧ (s.station n).state ≠ .absent := by
  constructor
  · simp only [PerStation.toList, List.any_cons, List.any_nil, Bool.or_eq_true, Bool.or_false, StationCtx.present,
      Bool.and_eq_true, beq_iff_eq, bne_iff_ne]
    rintro (h | h | h | h)
    exacts [⟨.s0, h⟩, ⟨.s1, h⟩, ⟨.s2, h⟩, ⟨.s3, h⟩]
  · rintro ⟨n, hlink, hstate⟩
    refine List.any_eq_true.2 ⟨s.station n, by cases n <;> simp [PerStation.toList, State.station, PerStation.get], ?_⟩
    simp [StationCtx.present, hlink, hstate]

/-- The state in which an accepted ARM starts the self-checks. -/
def State.arming (s : State) : State :=
  (s.withSl { s.takeFrame.sl with inFlight := some .arm }).withTa { s.ta with state := .arming }

theorem exec_arm_accepted {s : State} (h : s.linkFree) (hc : firstFailure (armChecks s) = none) :
    ∃ w, BothStarted s.arming w ∧ exec .arm s = .next
      ((w.withGd { w.gd with gf := w.gd.faulty }).withHanded (s.handed ++ told .gf s.gd.gf w.gd.faulty)) := by
  have hw := s.arming.startBoth_started
  refine ⟨_, hw, congrArg Host.Outcome.next ((longRequest_accepted (checks := armChecks) h hc).trans ?_)⟩
  have hgf : s.arming.startBoth.gd.gf = s.gd.gf := (congrArg Gd.gf hw.gd).trans rfl
  have hhanded : s.arming.startBoth.handed = s.handed := (congrArg State.handed hw.frame).trans rfl
  rw [← hgf, ← hhanded]
  exact s.arming.startBoth.testGf_later_eq

end Sys2Proof.Machine

namespace Sys2Proof.Proofs.TorqueAllocation
open Sys2Proof Sys2Proof.Machine

/-- Settles O26: the rows of R31's table, and for an accepted request the two checks started one after the other
(`BothStarted`). -/
theorem armStartsBothChecks : Obligations.ArmStartsBothChecks := by
  intro s hfree
  have hrefused {a : Answer} (h : firstFailure (armChecks s) = some a) : exec .arm s = .next (replied s s .arm a) :=
    congrArg _ (longRequest_refused (checks := armChecks) hfree h)
  refine ⟨fun harmed => hrefused ?_, fun harmed hgroups => hrefused ?_, fun harmed hgroups habsent => hrefused ?_,
    fun n harmed hgroups hlink hstate => ?_⟩
  · simp [armChecks, firstFailure, harmed]
  · simp [armChecks, firstFailure, harmed, hgroups]
  · have hnone : s.sm.toList.any StationCtx.present = false := Bool.eq_false_iff.2 fun hany => by
      obtain ⟨n, hlink, hstate⟩ := (anyPresent_iff s).1 hany
      rcases habsent n with h | h
      · exact LinkStatus.noConfusion (hlink.symm.trans h)
      · exact hstate h
    simp [armChecks, firstFailure, harmed, hgroups, hnone]
  · have hpresent : s.sm.toList.any StationCtx.present = true := (anyPresent_iff s).2 ⟨n, hlink, hstate⟩
    obtain ⟨w, hw, hexec⟩ := exec_arm_accepted hfree (by simp [armChecks, firstFailure, harmed, hgroups, hpresent])
    refine ⟨_, hexec, ?_, ?_, ?_, hw.bank, ?_, hw.published, fun hlegal => ⟨hw.lead hlegal, hw.moved, hw.kept hlegal⟩,
      ⟨hw.evaluated, hw.faulty⟩, rfl⟩
    · rw [hw.frame]
      rfl
    · rw [hw.frame]
      rfl
    · rw [hw.frame]
      rfl
    · rw [hw.gd]
      rfl

end Sys2Proof.Proofs.TorqueAllocation


namespace Sys2Proof.Machine
open Sys2Proof

/-! ### The end of a self-check (R79) -/

/-- The end of a self-check, before TA takes it. -/
def State.checkEnded (s : State) (k : Bank) (st : BankState) : State :=
  ((s.renew k ((s.bank k).endCheck (s.gd.cfg.rated.get k) (s.gd.cfg.capacity.get k) st)).testGf false).publishGrid

theorem State.endCheck_eq (s : State) (k : Bank) (st : BankState) :
    s.endCheck k st = (s.checkEnded k st).checkCompletion := rfl

/-- What the end of bank `k`'s self-check in state `st` leaves of `s` in `v`, before TA takes it. -/
structure CheckEnded (s : State) (k : Bank) (st : BankState) (v : State) : Prop where
  frame : v = { s with ct := v.ct, gd := v.gd, handed := v.handed }
  bank : ((s.bank k).endCheck (s.gd.cfg.rated.get k) (s.gd.cfg.capacity.get k) st).sameButLead (v.bank k)
  other : (s.bank k.other).sameButLead (v.bank k.other)
  lead : v.gd.lead = settledLead s.gd.order s.gd.lead fun j => (v.bank j).state == .failed
  published : v.gd.published = v.gd.figures
  gd : v.gd = { s.gd with
    banks := v.gd.banks, lead := v.gd.lead, gf := v.gd.gf, gridValue := v.gd.gridValue, published := v.gd.published }
  moved : v.gd.lead ≠ s.gd.lead → ∀ j, (v.bank j).leadEnergy = 0 ∧ (v.bank j).leadRem = 0
  kept : v.gd.lead = s.gd.lead →
    ∀ j, (v.bank j).leadEnergy = (s.bank j).leadEnergy ∧ (v.bank j).leadRem = (s.bank j).leadRem
  evaluated : (v.gd.gridValue, v.ct) = gridEvaluated s.ct s.gd.gridValue v.gd.condition v.gd.recordValue
  gf : v.gd.gf = v.gd.faulty
  handed : v.handed = s.handed ++ told .gf s.gd.gf v.gd.gf

theorem bank_eq_or_other (k j : Bank) : j = k ∨ j = k.other := by cases k <;> cases j <;> decide

theorem State.checkEnded_spec (s : State) (k : Bank) (st : BankState) : CheckEnded s k st (s.checkEnded k st) := by
  have hrenewed := s.renew_spec k ((s.bank k).endCheck (s.gd.cfg.rated.get k) (s.gd.cfg.capacity.get k) st)
  unfold State.checkEnded
  generalize s.renew k _ = w at hrenewed
  have hgf : w.gd.gf = s.gd.gf := (congrArg Gd.gf hrenewed.gd).trans rfl
  have hhanded : w.handed = s.handed := (congrArg State.handed hrenewed.frame).trans rfl
  rw [State.testGf_later_eq]
  refine ⟨?_, hrenewed.bank, hrenewed.other, hrenewed.lead, rfl, ?_, hrenewed.moved, fun h j => ?_, hrenewed.evaluated, rfl,
    ?_⟩
  · rw [hrenewed.frame]
    rfl
  · rw [hrenewed.gd]
    rfl
  · obtain ⟨hk, hother⟩ := hrenewed.kept h
    rcases bank_eq_or_other k j with rfl | rfl
    · exact ⟨(congrArg BankRec.leadEnergy hk).trans rfl, (congrArg BankRec.leadRem hk).trans rfl⟩
    · exact ⟨congrArg BankRec.leadEnergy hother, congrArg BankRec.leadRem hother⟩
  · rw [← hgf, ← hhanded]
    rfl

/-! ### The end of ARM (R31) -/

theorem checkCompletion_waits {s : State} (h : s.sl.inFlight ≠ some .arm ∨ s.checkingAny = true) :
    s.checkCompletion = s := by
  refine if_neg fun hlast => ?_
  simp at hlast
  rcases h with h | h
  · exact h hlast.1
  · simp [hlast.2] at h

/-- R31: the class and detail by which ARM is answered, by the number of FAILED banks. -/
def armOutcome : Nat → ReplyClass × Option Detail
  | 0 => (.done, none)
  | 1 => (.doneAlert, some .bankFailed)
  | _ => (.abandoned, some .noGrid)

/-- How many of a bank and the other are FAILED. -/
def State.failedBanks (s : State) (k : Bank) : Nat :=
  (if (s.bank k).state = .failed then 1 else 0) + if (s.bank k.other).state = .failed then 1 else 0

/-- R31: the last check's end answers the ARM in flight. -/
theorem checkCompletion_eq {s : State} (k : Bank) (harm : s.sl.inFlight = some .arm)
    (hchecks : s.checkingAny = false) :
    s.checkCompletion =
      (if s.failedBanks k = 2 then s else s.hand .armingEvent).answerArm
        (if s.failedBanks k = 2 then .disarmed else if s.ta.selector = .neutral then .neutral else .coast)
        ⟨(armOutcome (s.failedBanks k)).1, (armOutcome (s.failedBanks k)).2, s.armPayload⟩ := by
  have hswap : s.failedBanks k = s.failedBanks .a := by
    cases k with
    | a => rfl
    | b => exact Nat.add_comm _ _
  rw [hswap]
  refine (if_pos (by simp [harm, hchecks])).trans ?_
  dsimp only
  split
  · next ha hb => simp [State.failedBanks, Bank.other, ha, hb, armOutcome]
  · next hnot =>
    by_cases ha : (s.bank .a).state = .failed
    · have hb : (s.bank .b).state ≠ .failed := hnot ha
      simp [State.failedBanks, Bank.other, ha, hb, armOutcome, doneAlert]
    · by_cases hb : (s.bank .b).state = .failed
      · simp [State.failedBanks, Bank.other, ha, hb, armOutcome, doneAlert]
      · simp [State.failedBanks, Bank.other, ha, hb, armOutcome, done]

theorem failedBanks_eq_two {s : State} {k : Bank} :
    s.failedBanks k = 2 ↔ (s.bank k).state = .failed ∧ (s.bank k.other).state = .failed := by
  unfold State.failedBanks
  split <;> split <;> simp [*]

/-- R31: what the last check's end leaves of TA, of the link and of the events handed on. -/
theorem checkCompletion_last {s : State} (k : Bank) (harm : s.sl.inFlight = some .arm)
    (hchecks : s.checkingAny = false) :
    s.checkCompletion.sl.inFlight = none ∧
      (∃ r, s.checkCompletion.sl.slot = some r ∧ r.req = some .arm ∧ r.payload = s.checkCompletion.armPayload ∧
        (r.cls, r.detail) = armOutcome (s.failedBanks k)) ∧
      s.checkCompletion.ta = { s.ta with
        state := if s.failedBanks k = 2 then .disarmed else if s.ta.selector = .neutral then .neutral else .coast } ∧
      s.checkCompletion.handed = s.handed ++ if s.failedBanks k = 2 then [] else [.armingEvent] := by
  rw [checkCompletion_eq k harm hchecks]
  by_cases hboth : s.failedBanks k = 2
  · simp only [if_pos hboth]
    exact ⟨rfl, ⟨_, rfl, rfl, rfl, rfl⟩, rfl, (List.append_nil _).symm⟩
  · simp only [if_neg hboth]
    exact ⟨rfl, ⟨_, rfl, rfl, rfl, rfl⟩, rfl, rfl⟩

theorem State.checkingAny_eq (s : State) (k : Bank) :
    s.checkingAny = ((s.bank k).state == .checking || (s.bank k.other).state == .checking) := by
  cases k with
  | a => rfl
  | b => exact Bool.or_comm _ _

theorem armingEvent_notMem_told (c : HandedClass) (was now : Bool) : Instr.armingEvent ∉ told c was now := by
  cases was <;> cases now <;> simp [told]

theorem checkCompletion_frame (s : State) :
    s.checkCompletion =
      { s with ta := s.checkCompletion.ta, sl := s.checkCompletion.sl, handed := s.checkCompletion.handed } := by
  unfold State.checkCompletion
  split
  · dsimp only
    split <;> rfl
  · rfl

/-- R86: the grid condition, bank by bank. -/
theorem Gd.condition_any (g : Gd) :
    g.condition = [Bank.a, .b].any fun k =>
      decide (percent 80 (g.cfg.capacity.get k) ≤ (g.banks.get k).heat) || (g.banks.get k).unproven := by
  simp only [Gd.condition, Gd.hot, List.any_cons, List.any_nil, Bool.or_false, Bool.or_assoc, Bool.or_left_comm]
  rfl

end Sys2Proof.Machine

namespace Sys2Proof.Proofs.TorqueAllocation
open Sys2Proof Sys2Proof.Machine

/-- Settles O27: the bank's own end of the check (`CheckEnded`), then TA's, which waits for the other bank or answers the
ARM in flight. -/
theorem checkEndsSettleBankAndAnswerArm : Obligations.CheckEndsSettleBankAndAnswerArm := by
  refine fun s k => ⟨fun hnot => ⟨congrArg _ (if_neg hnot), congrArg _ (if_neg hnot)⟩, fun c st hc hchecking => ?_⟩
  have hexec : exec c s = .next (s.checkEnded k st).checkCompletion := by
    rcases hc with ⟨rfl, rfl⟩ | ⟨rfl, rfl⟩ <;> exact congrArg _ (if_pos hchecking)
  have hst : st ≠ .checking := by rcases hc with ⟨-, rfl⟩ | ⟨-, rfl⟩ <;> decide
  have hv := s.checkEnded_spec k st
  generalize s.checkEnded k st = v at hexec hv
  have hta : v.ta = s.ta := (congrArg State.ta hv.frame).trans rfl
  have hsl : v.sl = s.sl := (congrArg State.sl hv.frame).trans rfl
  have hcfg : v.gd.cfg = s.gd.cfg := (congrArg Gd.cfg hv.gd).trans rfl
  have hkst : (v.bank k).state = st := hv.bank.state
  have host : (v.bank k.other).state = (s.bank k.other).state := hv.other.state
  have hcount : v.failedBanks k = (if st = .failed then 1 else 0) + if (s.bank k.other).state = .failed then 1 else 0 := by
    rw [State.failedBanks, hkst, host]
  have hchecks : v.checkingAny = ((s.bank k.other).state == .checking) := by
    rw [v.checkingAny_eq k, hkst, host, beq_eq_false_iff_ne.2 hst, Bool.false_or]
  have hframe := checkCompletion_frame v
  have hwaits : s.sl.inFlight ≠ some .arm ∨ (s.bank k.other).state = .checking → v.checkCompletion = v := fun h =>
    checkCompletion_waits (by rwa [hsl, hchecks, beq_iff_eq])
  have hlast (harm : s.sl.inFlight = some .arm) (hother : (s.bank k.other).state ≠ .checking) :=
    checkCompletion_last (s := v) k (hsl ▸ harm) (by rw [hchecks, beq_eq_false_iff_ne.2 hother])
  generalize v.checkCompletion = t at hexec hframe hwaits hlast
  have hgd : t.gd = v.gd := (congrArg State.gd hframe).trans rfl
  have hct : t.ct = v.ct := (congrArg State.ct hframe).trans rfl
  have hbank (j : Bank) : t.bank j = v.bank j := congrArg (fun g : Gd => g.banks.get j) hgd
  refine ⟨t, hexec, ?_, ?_, ?_, ?_, ?_, ?_, ?_, ?_, ⟨?_, ?_⟩, ?_, fun h => ?_, fun harm hother => ?_⟩
  · rw [hct, hgd, hframe]
    conv_lhs => rw [hv.frame]
  · rw [hbank]
    exact hv.bank
  · simp only [hgd, hbank]
    exact hv.lead
  · rw [hgd]
    exact hv.published
  · rw [hgd]
    exact hv.gd
  · rw [hbank]
    exact hv.other
  · simp only [hgd, hbank]
    exact hv.moved
  · simp only [hgd, hbank]
    exact hv.kept
  · simp only [hgd, hbank, hct]
    refine hv.evaluated.trans (congrArg₂ (gridEvaluated s.ct s.gd.gridValue) ?_ ?_)
    · rw [Gd.condition_any, hcfg]
      rfl
    · rw [Gd.recordValue, hcfg]
      rfl
  · simp only [hgd, hbank]
    exact hv.gf
  · rw [hgd, ← hv.handed]
    by_cases h : s.sl.inFlight = some .arm ∧ (s.bank k.other).state ≠ .checking
    · obtain ⟨-, -, -, hhanded⟩ := hlast h.1 h.2
      simp only [hhanded, failedBanks_eq_two, hkst, host, h, not_false_eq_true, ne_eq, true_and, ite_not]
    · rw [hwaits (by tauto), if_neg (by tauto), List.append_nil]
  · rw [hwaits h]
    exact ⟨hta, hsl⟩
  · obtain ⟨hfree, hreply, hstate, hhanded⟩ := hlast harm hother
    rw [hcount] at hreply hstate hhanded
    refine ⟨hfree, hreply, hta ▸ hstate, ?_⟩
    rw [hhanded, hv.handed, List.mem_append, List.mem_append, or_iff_left (armingEvent_notMem_told _ _ _), or_comm]
    refine or_congr_left ?_
    split <;> simp [*]

end Sys2Proof.Proofs.TorqueAllocation


namespace Sys2Proof.Machine
open Sys2Proof

/-! ### Stations, copies and the link in step (R45, R52, R53, R172, R194, R195) -/

/-- A context's custody and park fields agree with its state (R52, R53). -/
structure StationCtx.Fits (x : StationCtx) : Prop where
  slot : x.parkSlot.isSome ↔ x.state = .parked
  custody : x.custody = .supervisor ↔ x.state = .parked
  origin : x.parkOrigin.isSome ↔ x.state = .parking
  timer : x.parkTimer.isSome ↔ x.state = .parking

/-- Station `n` in step with the link, with PU and with TA. -/
structure StationInStep (s : State) (n : Station) : Prop where
  fits : (s.station n).Fits
  mark : s.sl.inFlight = some (.park n) ↔ (s.station n).state = .parking
  copy : (s.puStation n).copy = (s.station n).state
  driven : (s.station n).state.driven = true → s.ta.state.armed = true

/-- The link in step with TA and the banks. -/
structure LinkInStep (s : State) : Prop where
  arming : s.sl.inFlight = some .arm ↔ s.ta.state = .arming
  slot : s.sl.inFlight ≠ none → s.sl.slot = none
  checks : s.sl.inFlight = some .arm → s.checkingAny = true

/-- The three invariants, station by station. -/
structure InStep (s : State) : Prop where
  station : ∀ n, StationInStep s n
  link : LinkInStep s

theorem inStep_iff (s : State) : InStep s ↔ custodyAgrees s ∧ copiesAgree s ∧ armingAgrees s := by
  constructor
  · intro ⟨hstation, hlink⟩
    refine ⟨fun n => ?_, fun n => (hstation n).copy, hlink.arming, hlink.slot, hlink.checks, fun n => (hstation n).driven⟩
    obtain ⟨⟨hslot, hcustody, horigin, htimer⟩, hmark, -, -⟩ := hstation n
    exact ⟨hslot, hcustody, horigin, htimer, hmark⟩
  · intro ⟨hcustody, hcopies, harming, hslot, hchecks, hdriven⟩
    refine ⟨fun n => ?_, harming, hslot, hchecks⟩
    obtain ⟨hpark, hsup, horigin, htimer, hmark⟩ := hcustody n
    exact ⟨⟨hpark, hsup, horigin, htimer⟩, hmark, hcopies n, hdriven n⟩

/-- What custody sees of a context. -/
def StationCtx.standing (x : StationCtx) : StationState × Custody × Bool × Bool × Bool :=
  (x.state, x.custody, x.parkSlot.isSome, x.parkOrigin.isSome, x.parkTimer.isSome)

theorem state_of_standing {x y : StationCtx} (h : y.standing = x.standing) : y.state = x.state := congrArg Prod.fst h

theorem StationCtx.Fits.of_standing {x y : StationCtx} (hx : x.Fits) (h : y.standing = x.standing) : y.Fits := by
  simp only [StationCtx.standing, Prod.mk.injEq] at h
  obtain ⟨hstate, hcustody, hslot, horigin, htimer⟩ := h
  obtain ⟨h1, h2, h3, h4⟩ := hx
  rw [← hstate] at h1 h2 h3 h4
  exact ⟨by rwa [hslot], by rwa [hcustody], by rwa [horigin], by rwa [htimer]⟩

/-- An operation that leaves every station's custody, park fields and copy: in step again where the marks agree, the driven
stations find TA armed, and the link is in step. -/
theorem InStep.relink {s t : State} (hs : InStep s) (hstanding : ∀ n, (t.station n).standing = (s.station n).standing)
    (hcopies : ∀ n, (t.puStation n).copy = (s.puStation n).copy)
    (hmarks : ∀ n, t.sl.inFlight = some (.park n) ↔ s.sl.inFlight = some (.park n))
    (harmed : s.ta.state.armed = true → t.ta.state.armed = true) (hlink : LinkInStep t) : InStep t where
  link := hlink
  station n := by
    obtain ⟨hfits, hmark, hcopy, hdriven⟩ := hs.station n
    have hstate := state_of_standing (hstanding n)
    exact ⟨hfits.of_standing (hstanding n), by rw [hmarks, hmark, hstate], by rw [hcopies, hcopy, hstate],
      fun h => harmed (hdriven (hstate ▸ h))⟩

/-! ### Operations that leave them as they are -/

/-- From `s` to `t` no station changes its state, custody or park fields, nor its copy at PU, TA's state is armed or ARMING
as before, the request in flight stands, with no reply placed for it, and no self-check ends. -/
structure Steady (s t : State) : Prop where
  standing : ∀ n, (t.station n).standing = (s.station n).standing
  copies : ∀ n, (t.puStation n).copy = (s.puStation n).copy
  arming : t.ta.state = .arming ↔ s.ta.state = .arming
  armed : t.ta.state.armed = s.ta.state.armed
  mark : t.sl.inFlight = s.sl.inFlight
  slot : s.sl.inFlight ≠ none → s.sl.slot = none → t.sl.slot = none
  checks : ∀ k, (s.bank k).state = .checking → (t.bank k).state = .checking

variable {s t u : State}

theorem checkingAny_iff (s : State) : s.checkingAny = true ↔ ∃ k, (s.bank k).state = .checking := by
  constructor
  · intro h
    rcases Bool.or_eq_true_iff.1 h with h | h
    · exact ⟨.a, beq_iff_eq.1 h⟩
    · exact ⟨.b, beq_iff_eq.1 h⟩
  · rintro ⟨k, hk⟩
    rw [s.checkingAny_eq k, hk]
    rfl

theorem Steady.inStep (h : Steady s t) (hs : InStep s) : InStep t := by
  obtain ⟨harming, hslot, hchecks⟩ := hs.link
  refine hs.relink h.standing h.copies (fun n => by rw [h.mark]) (fun ha => h.armed.trans ha) ⟨?_, fun hm => ?_, fun hm => ?_⟩
  · rw [h.mark, h.arming, harming]
  · rw [h.mark] at hm
    exact h.slot hm (hslot hm)
  · obtain ⟨k, hk⟩ := (checkingAny_iff s).1 (hchecks (h.mark ▸ hm))
    exact (checkingAny_iff t).2 ⟨k, h.checks k hk⟩

theorem Steady.refl (s : State) : Steady s s :=
  ⟨fun _ => rfl, fun _ => rfl, Iff.rfl, rfl, rfl, fun _ h => h, fun _ h => h⟩

theorem Steady.trans (h : Steady s t) (h' : Steady t u) : Steady s u where
  standing n := (h'.standing n).trans (h.standing n)
  copies n := (h'.copies n).trans (h.copies n)
  arming := h'.arming.trans h.arming
  armed := h'.armed.trans h.armed
  mark := h'.mark.trans h.mark
  slot hm hslot := h'.slot (h.mark ▸ hm) (h.slot hm hslot)
  checks k hk := h'.checks k (h.checks k hk)

/-- One operation or another. -/
theorem Steady.ite {p : Prop} [Decidable p] (h : Steady s t) (h' : Steady s u) : Steady s (if p then t else u) := by
  split
  · exact h
  · exact h'

/-- One operation for each element of a list in turn. -/
theorem Steady.foldl {α : Type} {f : State → α → State} (h : ∀ s a, Steady s (f s a)) (l : List α) (s : State) :
    Steady s (l.foldl f s) := by
  induction l generalizing s with
  | nil => exact .refl s
  | cons a l ih => exact (h s a).trans (ih (f s a))

/-- An operation on other blocks than TA, SM, GD, PU and SL. -/
theorem Steady.of_sameBlocks (h : ∀ b ∈ [Block.ta, .sm, .gd, .pu, .sl], sameBlock b s t) : Steady s t := by
  have hta : t.ta = s.ta := h .ta (by simp)
  have hsm : t.sm = s.sm := h .sm (by simp)
  have hgd : t.gd = s.gd := h .gd (by simp)
  have hpu : t.pu = s.pu := h .pu (by simp)
  have hsl : t.sl = s.sl := h .sl (by simp)
  refine ⟨fun n => by rw [State.station, hsm]; rfl, fun n => by rw [State.puStation, hpu]; rfl, by rw [hta], by rw [hta],
    by rw [hsl], fun _ hslot => by rw [hsl, hslot], fun k hk => ?_⟩
  rw [State.bank, hgd]
  exact hk

theorem notMem_of_blocksWithin {bs : List Block} (hbs : blocksWithin bs [.ct, .rs, .dg, .sc, .pm] = true) {b : Block}
    (hb : b ∈ [Block.ta, .sm, .gd, .pu, .sl]) : b ∉ bs := by
  intro hb'
  have := mem_of_blocksWithin hbs hb'
  revert hb this
  cases b <;> decide

theorem ActsOn.steady {bs : List Block} (h : ActsOn bs s t) (hbs : blocksWithin bs [.ct, .rs, .dg, .sc, .pm] = true) :
    Steady s t :=
  .of_sameBlocks fun b hb => h.blocks b (notMem_of_blocksWithin hbs hb)

/-- A command on such blocks. -/
theorem exec_steady {c : Instr} (h : exec c s = .next t)
    (hbs : blocksWithin (touched c) [.ct, .rs, .dg, .sc, .pm] = true) : Steady s t :=
  .of_sameBlocks fun _ hb => exec_sameBlock h (notMem_of_blocksWithin hbs hb)

/-! ### Block updates -/

section Updates
variable (s : State)

theorem State.withTa_steady {x : Ta} (h : x.state = s.ta.state) : Steady s (s.withTa x) :=
  ⟨fun _ => rfl, fun _ => rfl, by rw [State.withTa_ta, h], by rw [State.withTa_ta, h], rfl, fun _ hx => hx, fun _ hk => hk⟩

theorem State.withGd_steady {x : Gd} (h : ∀ k, (s.bank k).state = .checking → (x.banks.get k).state = .checking) :
    Steady s (s.withGd x) :=
  ⟨fun _ => rfl, fun _ => rfl, Iff.rfl, rfl, rfl, fun _ hx => hx, h⟩

theorem State.withPu_steady {x : Pu} (h : x.stations = s.pu.stations := by rfl) : Steady s (s.withPu x) :=
  ⟨fun _ => rfl, fun n => congrArg (fun p => (PerStation.get p n).copy) h, Iff.rfl, rfl, rfl, fun _ hx => hx, fun _ hk => hk⟩

theorem State.withSl_steady {x : Sl} (hmark : x.inFlight = s.sl.inFlight) (hslot : s.sl.slot = none → x.slot = none) :
    Steady s (s.withSl x) :=
  ⟨fun _ => rfl, fun _ => rfl, Iff.rfl, rfl, hmark, fun _ => hslot, fun _ hk => hk⟩

theorem State.withFree_steady (x : Nat) : Steady s (s.withFree x) := (s.withFree_acts x).steady rfl

theorem State.withHanded_steady (x : List Instr) : Steady s (s.withHanded x) := (s.withHanded_acts x).steady rfl

theorem State.withPending_steady (x : List Instr) : Steady s (s.withPending x) :=
  .of_sameBlocks fun b _ => by cases b <;> rfl

theorem State.hand_steady (i : Instr) : Steady s (s.hand i) := s.withHanded_steady _

theorem State.setStation_steady {n : Station} {x : StationCtx} (h : x.standing = (s.station n).standing := by rfl) :
    Steady s (s.setStation n x) := by
  refine ⟨fun m => ?_, fun _ => rfl, Iff.rfl, rfl, rfl, fun _ hx => hx, fun _ hk => hk⟩
  rw [State.station, State.setStation, State.withSm_sm, PerStation.get_set]
  split
  · next hm => rw [h, hm]
  · rfl

theorem State.setPuStation_steady {n : Station} {x : PuStation} (h : x.copy = (s.puStation n).copy := by rfl) :
    Steady s (s.setPuStation n x) := by
  refine ⟨fun _ => rfl, fun m => ?_, Iff.rfl, rfl, rfl, fun _ hx => hx, fun _ hk => hk⟩
  rw [State.puStation, State.setPuStation, State.withPu_pu, PerStation.get_set]
  split
  · next hm => rw [h, hm]
  · rfl

theorem State.notify_steady (k : Notice) : Steady s (s.notify k) := s.withSl_steady rfl id

theorem State.notifyTrip_steady (n : Station) : Steady s (s.notifyTrip n) := s.withSl_steady rfl id

theorem State.takeFrame_steady : Steady s s.takeFrame := s.withSl_steady rfl fun _ => rfl

theorem State.discardFrame_steady : Steady s s.discardFrame := s.withSl_steady rfl id

/-- A reply on a free link. -/
theorem State.reply_steady (h : s.linkFree) (q : Option Req) (a : Answer) : Steady s (s.reply q a) :=
  ⟨fun _ => rfl, fun _ => rfl, Iff.rfl, rfl, rfl, fun hm => absurd h hm, fun _ hk => hk⟩

theorem State.claim_steady (k : Key) (v : Int) (r : Option Nat) (e : Option Expiry) : Steady s (s.claim k v r e) :=
  (s.claim_acts k v r e).steady rfl

theorem State.release_steady (k : Key) (r : Option Nat) : Steady s (s.release k r) := (s.release_acts k r).steady rfl

end Updates

/-! ### Requests -/

/-- R193, R195: a request whose body leaves them in step on a free link. -/
theorem request_inStep (hs : InStep s) (q : Req) {body : State → State × Answer}
    (hbody : ∀ u, InStep u → u.linkFree → InStep (body u).1 ∧ (body u).1.linkFree) : InStep (request q body s) := by
  by_cases hfree : s.sl.inFlight = none
  · rw [request_idle s q body hfree]
    obtain ⟨hbody, hstill⟩ := hbody _ (s.takeFrame_steady.inStep hs) hfree
    exact (State.reply_steady _ hstill _ _).inStep hbody
  · rw [request_busy s q body hfree]
    exact s.discardFrame_steady.inStep hs

theorem request_steady (hs : InStep s) (q : Req) {body : State → State × Answer} (hbody : ∀ u, Steady u (body u).1) :
    InStep (request q body s) :=
  request_inStep hs q fun u hu hfree => ⟨(hbody u).inStep hu, (hbody u).mark.trans hfree⟩

theorem checked_steady {l : List (Bool × Answer)} {ok : State × Answer} (h : Steady s ok.1) : Steady s (checked s l ok).1 := by
  rcases checked_state s l ok with h' | h' <;> rw [h']
  · exact .refl s
  · exact h

end Sys2Proof.Machine


namespace Sys2Proof.Machine
open Sys2Proof

variable (s : State)

/-! ### PU, PM, SC and RS -/

theorem State.endsEvent_steady (c : HandedClass) : Steady s (s.endsEvent c) := s.withPu_steady ..

theorem State.safeStop_steady : Steady s s.safeStop :=
  .ite (((s.claim_steady ..).trans (State.withPu_steady ..)).trans (State.notify_steady ..)) (.refl s)

theorem State.truckBegins_steady (c : TruckClass) : Steady s (s.truckBegins c) := by
  have hmark : Steady s (s.withPu { s.pu with conds := s.pu.conds.put c true, flags := s.pu.flags.put c true }) :=
    s.withPu_steady ..
  have hstop {u : State} (hu : Steady s u) : Steady s (if u.pu.masks.stops c then u.safeStop else u) :=
    .ite (hu.trans u.safeStop_steady) hu
  cases c
  case gf | pr => exact hstop (hmark.trans (State.notify_steady ..))
  all_goals exact hstop hmark

theorem State.beginsEvent_steady (c : HandedClass) : Steady s (s.beginsEvent c) :=
  .ite (.refl s) (s.truckBegins_steady _)

theorem State.handCondition_steady (c : HandedClass) (was now : Bool) : Steady s (s.handCondition c was now) :=
  (s.handCondition_acts c was now).steady rfl

theorem State.takeCondition_steady (c : HandedClass) (was now : Bool) : Steady s (s.takeCondition c was now) :=
  .ite (s.hand_steady _) (.ite (s.endsEvent_steady _) (.refl s))

theorem State.takePlMask_steady (m : Bool) : Steady s (s.takePlMask m) := (s.takePlMask_acts m).steady rfl

theorem State.latch_steady (m : Nat) : Steady s (s.latch m) := by
  have hclass (p q : Pm) (was now : Bool) :
      Steady s (((s.withPm p).claimPayload.withPm q).handCondition .pl was now) :=
    ((((s.withPm_acts _).andThen (State.claimPayload_acts _)).andThen (State.withPm_acts ..)).andThen
      (State.handCondition_acts ..)).steady rfl
  exact Steady.trans (.ite ((hclass ..).trans (State.notify_steady ..)) (hclass ..)) (State.hand_steady ..)

theorem State.stillRun_steady (m : Nat) : Steady s (s.stillRun m) := by
  have hrun : Steady s (s.withPm { s.pm with stillSum := 0, stillCount := 0 }) := (s.withPm_acts _).steady rfl
  unfold State.stillRun
  dsimp only
  split
  · exact .ite (hrun.trans (State.latch_steady ..)) hrun
  · exact .ite (hrun.trans (State.latch_steady ..)) hrun
  · exact hrun.trans (State.latch_steady ..)
  · exact hrun.trans (State.latch_steady ..)
  all_goals exact hrun

theorem State.sampleWork_steady (b : Body) : Steady s (s.sampleWork b) :=
  .ite (s.stillRun_steady _) (.ite (s.latch_steady _) (.ite ((s.withPm_acts _).steady rfl) (.refl s)))

theorem State.resolveRoute_steady : Steady s s.resolveRoute := by
  unfold State.resolveRoute
  extract_lets r rs t u
  have ht : Steady s t := (s.withRs_acts _).steady rfl
  have hu : Steady s u := .ite ((ht.trans (State.notify_steady ..)).trans (State.hand_steady ..)) ht
  have hrs (x : Rs) : Steady s (u.withRs x) := hu.trans ((u.withRs_acts x).steady rfl)
  split
  · exact hrs _
  · exact (((hrs _).trans (State.notify_steady ..)).trans (State.hand_steady ..)).trans (State.hand_steady ..)
  · exact (hrs _).trans (State.notify_steady ..)
  · exact hu.trans ((State.routeFault_acts ..).steady rfl)

theorem State.rollover_steady : Steady s s.rollover := by
  have hroll : Steady s (s.withRs { s.rs with pos := s.rs.pos.rollover s.rs.store }) := (s.withRs_acts _).steady rfl
  exact Steady.trans (.ite ((hroll.trans (State.notify_steady ..)).trans (State.hand_steady ..)) hroll)
    (State.resolveRoute_steady _)

theorem State.startRoute_steady (g first offset : Nat) : Steady s (s.startRoute g first offset) :=
  ((((((s.leaveHold_acts _).andThen (State.endRouteFault_acts _)).andThen (State.withRs_acts ..)).steady rfl).trans
    (State.resolveRoute_steady _)).trans ((State.withRs_acts ..).steady rfl)).trans (State.hand_steady ..)

theorem State.abortDetour_steady : Steady s s.abortDetour := by
  unfold State.abortDetour
  split
  · exact ((((s.leaveHold_acts _).andThen (State.withRs_acts ..)).steady rfl).trans (State.resolveRoute_steady _)).trans
      ((State.withRs_acts ..).steady rfl)
  · exact (s.withRs_acts _).steady rfl

theorem State.forwardMetre_steady {t : State} (h : exec .forwardMetreEvent s = .next t) : Steady s t := by
  obtain rfl := Host.Outcome.next.inj h
  have hrs (x : Rs) : Steady s (s.withRs x) := (s.withRs_acts x).steady rfl
  exact .ite (.ite (hrs _) (.ite (.refl s)
    (.ite ((Steady.ite ((hrs _).trans (State.notify_steady ..)) (hrs _)).trans (State.rollover_steady _)) (hrs _)))) (.refl s)

theorem State.windowMetre_steady (dir : Travel) {t : State} (h : exec (.windowMetre dir) s = .next t) : Steady s t := by
  obtain rfl := Host.Outcome.next.inj h
  have hcount : Steady s (s.withPm { s.pm with winMetres := s.pm.winMetres + 1 }) := (s.withPm_acts _).steady rfl
  exact .ite (.ite (hcount.trans (State.latch_steady ..)) hcount) (.refl s)

theorem State.steeringClear_steady : Steady s s.steeringClear :=
  .ite (((s.withSc_acts _).steady rfl).trans (State.takeCondition_steady ..)) (.refl s)

theorem State.sendRaise_steady (n : Station) (c : StationClass) (trips : Bool) : Steady s (s.sendRaise n c trips) :=
  (Steady.ite (s.notifyTrip_steady n) (.refl s)).trans (State.hand_steady ..)

theorem State.markStation_steady (n : Station) (c : StationClass) (holds : Bool) : Steady s (s.markStation n c holds) :=
  s.setPuStation_steady ..

theorem State.beginClass_steady (n : Station) (st : StationState) (c : StationClass) (tripped : Bool) :
    Steady s (s.beginClass n st c tripped).1 := by
  unfold State.beginClass
  split
  · exact .refl s
  · exact (s.markStation_steady ..).trans (State.sendRaise_steady ..)

theorem judgeIv_steady (n : Station) (st : StationState) (r : Judged) : Steady s (judgeIv n st r s).1 := by
  unfold judgeIv
  split
  · exact s.beginClass_steady ..
  · exact s.markStation_steady ..

theorem judgeOc_steady (n : Station) (st : StationState) (r : Judged) (x : State × Bool) : Steady x.1 (judgeOc n st r x).1 := by
  unfold judgeOc
  split
  · exact (x.1.beginClass_steady ..).trans (State.claim_steady ..)
  · exact x.1.markStation_steady ..

theorem beginIf_steady {p : Prop} [Decidable p] (n : Station) (st : StationState) (c : StationClass) (x : State × Bool) :
    Steady x.1 (if p then x.1.beginClass n st c x.2 else x).1 := by
  split
  · exact x.1.beginClass_steady ..
  · exact .refl x.1

theorem judgeMt_steady (n : Station) (st : StationState) (r : Judged) (x : State × Bool) : Steady x.1 (judgeMt n st r x).1 := by
  unfold judgeMt
  extract_lets warn y p
  have hy : Steady x.1 y.1 := beginIf_steady ..
  split
  · split
    · exact (hy.trans (State.release_steady ..)).trans (State.setPuStation_steady ..)
    · split
      · exact hy
      · exact (hy.trans (State.claim_steady ..)).trans (State.setPuStation_steady ..)
  · exact hy

theorem judgeIt_steady (n : Station) (st : StationState) (r : Judged) (x : State × Bool) : Steady x.1 (judgeIt n st r x).1 := by
  unfold judgeIt
  extract_lets warn y p
  have hy : Steady x.1 y.1 := beginIf_steady ..
  split
  · split
    · exact (hy.trans (State.release_steady ..)).trans (State.setPuStation_steady ..)
    · split
      · exact hy
      · exact (hy.trans (State.claim_steady ..)).trans (State.setPuStation_steady ..)
  · exact hy

theorem State.judgeReport_steady (n : Station) (st : StationState) (r : Judged) : Steady s (s.judgeReport n st r) :=
  ((((s.markStation_steady ..).trans (judgeIv_steady ..)).trans (judgeOc_steady ..)).trans (judgeMt_steady ..)).trans
    (judgeIt_steady ..)

theorem State.ceaseJudging_steady (n : Station) : Steady s (s.ceaseJudging n) :=
  ((((s.release_steady ..).trans (State.release_steady ..)).trans (State.release_steady ..)).trans
    (State.release_steady ..)).trans (State.setPuStation_steady ..)

theorem reportJudgement_steady (n : Station) (st : StationState) (r : Judged) {t : State}
    (h : exec (.reportJudgement n st r) s = .next t) : Steady s t := by
  obtain rfl := Host.Outcome.next.inj h
  exact .ite (.ite ((s.judgeReport_steady ..).trans (State.ceaseJudging_steady ..)) (s.judgeReport_steady ..)) (.refl s)

theorem linkLostEvent_steady (n : Station) (st : StationState) {t : State} (h : exec (.linkLostEvent n st) s = .next t) :
    Steady s t := by
  obtain rfl := Host.Outcome.next.inj h
  exact .ite (.ite ((s.beginClass_steady ..).trans (State.setPuStation_steady ..)) (s.beginClass_steady ..)) (.refl s)

theorem State.judgeSlip_steady (n : Station) : Steady s (s.judgeSlip n) :=
  .ite (((s.setPuStation_steady ..).trans (State.sendRaise_steady ..)).trans (State.claim_steady ..))
    (.ite ((s.setPuStation_steady ..).trans (State.release_steady ..)) (.refl s))

theorem PuStation.count_copy (p : PuStation) (mark : Option Bool) : (p.count mark).copy = p.copy := by
  unfold PuStation.count
  split <;> rfl

theorem State.slipWork_steady (n : Station) (mark : Option Bool) (v : Nat) : Steady s (s.slipWork n mark v) :=
  ((s.setPuStation_steady (PuStation.count_copy ..)).trans (State.judgeSlip_steady ..)).trans
    (State.setPuStation_steady ..)

theorem State.dropDemand_steady (v : Nat) : Steady s (s.dropDemand v) := .ite (s.withPu_steady ..) (.refl s)

theorem State.overspeedWork_steady (v : Nat) : Steady s (s.overspeedWork v) := by
  have hdrop : Steady s (s.dropDemand v) := s.dropDemand_steady v
  unfold State.overspeedWork
  split
  · exact hdrop.trans (State.withPu_steady ..)
  · have hcount := hdrop.trans (State.withPu_steady _
      (x := { (s.dropDemand v).pu with osCount := min 5 ((s.dropDemand v).pu.osCount + 1) }))
    exact .ite (.ite ((hcount.trans (State.truckBegins_steady ..)).trans (State.withPu_steady ..)) hcount)
      (hdrop.trans (State.withPu_steady ..))

theorem State.stoppedWork_steady (v : Nat) : Steady s (s.stoppedWork v) :=
  .ite (.ite (.ite (s.withPu_steady ..) (s.withPu_steady ..)) (s.withPu_steady ..)) (.refl s)

theorem passArrival_steady (marks : PerStation (Option Bool)) (v : Nat) {t : State}
    (h : exec (.passArrival marks v) s = .next t) : Steady s t := by
  obtain rfl := Host.Outcome.next.inj h
  exact ((Steady.foldl (fun t n => t.slipWork_steady n (marks.get n) v) Station.all s).trans
    (State.overspeedWork_steady ..)).trans (State.stoppedWork_steady ..)

theorem State.clearTruckFlags_steady : Steady s s.clearTruckFlags :=
  have hflags : Steady s (s.withPu { s.pu with flags := s.pu.flags.inter s.pu.conds }) := s.withPu_steady ..
  .ite ((hflags.trans (State.withPu_steady ..)).trans (State.release_steady ..)) hflags

theorem setStationMask_steady (n : Station) (m : Nat) : Steady s (setStationMask n m s).1 := by
  refine checked_steady ?_
  split
  · exact (s.setStation_steady ..).trans (State.sendRaise_steady ..)
  · exact s.setStation_steady ..

theorem State.writeTruckMasks_steady (m : TruckSet) : Steady s (s.writeTruckMasks m) :=
  .ite (s.withPu_steady ..) ((s.withPu_steady ..).trans (State.takePlMask_steady ..))

theorem setTruckMask_steady (m : Nat) : Steady s (setTruckMask m s).1 := by
  have hmask (up : Bool) (m : TruckSet) : Steady s
      (if up then (s.withPu { s.pu with masks := m }).safeStop else s.withPu { s.pu with masks := m }) :=
    .ite ((s.withPu_steady ..).trans (State.safeStop_steady _)) (s.withPu_steady ..)
  exact checked_steady (.ite (hmask _ _) ((hmask _ _).trans (State.takePlMask_steady ..)))

theorem setMaskBody_steady (target m : Nat) : Steady s (setMaskBody target m s).1 := by
  unfold setMaskBody
  split
  · exact setStationMask_steady ..
  · split
    · exact setTruckMask_steady ..
    · exact .refl s

theorem protectionInitBody_steady : Steady s (protectionInitBody s).1 := by
  unfold protectionInitBody
  exact checked_steady ((s.withPu_steady ..).trans (State.writeTruckMasks_steady ..))

/-! ### The supervisory link -/

theorem State.readReply_steady (n : Nat) : Steady s (s.readReply n) := by
  unfold State.readReply
  split
  · exact s.withSl_steady rfl id
  · next r hr =>
    have hread : Steady s (s.withSl
        { s.sl with
          shifted := shiftedOut r.frame n s.free
          slot := if r.frame.length ≤ n then none else s.sl.slot }) :=
      s.withSl_steady rfl fun h => by rw [h] at hr; cases hr
    exact .ite (hread.trans (State.withFree_steady ..)) hread

theorem State.takeRawFrame_inStep (hs : InStep s) (frame : List Byte) (cut : Bool) : InStep (s.takeRawFrame frame cut) := by
  unfold State.takeRawFrame
  split
  · split
    · exact s.discardFrame_steady.inStep hs
    · next hfree =>
      have hfree : s.sl.inFlight = none := by simpa using hfree
      exact (s.takeFrame.reply_steady hfree ..).inStep (s.takeFrame_steady.inStep hs)
  · exact (Steady.ite s.discardFrame_steady (.refl s)).inStep hs

theorem State.takeTransaction_inStep (hs : InStep s) (bytes : List Byte) (cut : Bool) :
    InStep (s.takeTransaction bytes cut) := by
  unfold State.takeTransaction
  split
  · exact s.takeRawFrame_inStep hs ..
  · exact (s.readReply_steady _).inStep hs
  · exact hs

end Sys2Proof.Machine


namespace Sys2Proof.Machine
open Sys2Proof

variable (s : State)

/-! ### The banks: a self-check goes on until its end (R78) -/

theorem State.setBank_steady {k : Bank} {b : BankRec} (h : (s.bank k).state = .checking → b.state = .checking) :
    Steady s (s.setBank k b) :=
  s.withGd_steady fun j hj => by
    rcases bank_eq_or_other k j with rfl | rfl
    · exact (congrArg BankRec.state (s.setBank_bank_same j b)).trans (h hj)
    · exact (congrArg BankRec.state (s.setBank_bank_other k b)).trans hj

theorem State.settle_steady : Steady s (s.withGd s.gd.settle) :=
  s.withGd_steady fun k hk => (s.gd.settle_bank k).state.trans hk

theorem State.publishGrid_steady : Steady s s.publishGrid := s.withGd_steady fun _ hk => hk

theorem State.evalGrid_steady : Steady s s.evalGrid := by
  have hvalue (v : Option Nat) : Steady s (s.withGd { s.gd with gridValue := v }) := s.withGd_steady fun _ hk => hk
  exact .ite (.ite ((hvalue _).trans (State.claim_steady ..)) (.refl s))
    (.ite ((hvalue _).trans (State.release_steady ..)) (.refl s))

theorem State.testGf_later_steady : Steady s (s.testGf false) :=
  (s.withGd_steady (x := { s.gd with gf := s.gd.faulty }) fun _ hk => hk).trans (State.handCondition_steady ..)

theorem State.testGf_atOnce_steady : Steady s (s.testGf true) :=
  (s.withGd_steady (x := { s.gd with gf := s.gd.faulty }) fun _ hk => hk).trans (State.takeCondition_steady ..)

theorem State.testGt_steady : Steady s s.testGt :=
  (s.withGd_steady (x := { s.gd with gt := s.gd.hot 95 }) fun _ hk => hk).trans (State.handCondition_steady ..)

theorem State.startCheck_steady (k : Bank) : Steady s (s.startCheck k) :=
  (((s.setBank_steady fun _ => rfl).trans (State.settle_steady _)).trans (State.evalGrid_steady _)).trans
    (State.publishGrid_steady _)

theorem State.gridClear_steady : Steady s s.gridClear.1 := by
  have hcheck {t : State} (h : Steady s t) (c : Bool) (k : Bank) : Steady s (if c then t.startCheck k else t) :=
    .ite (h.trans (t.startCheck_steady k)) h
  refine (hcheck (hcheck (s.withGd_steady fun k hk => ?_) _ .a) _ .b).trans (State.testGf_atOnce_steady _)
  rw [PerBank.get_of]
  exact hk

theorem BankRec.assign_checking {b : BankRec} (h : b.state = .checking) (rated share : Nat) :
    (b.assign rated share).state = .checking := by
  simp [BankRec.assign, h, BankState.serves]

theorem Gd.countLead_state (g : Gd) (k : Bank) : (g.countLead.banks.get k).state = (g.banks.get k).state := by
  have hset (l : Bank) {b : BankRec} (hb : b.state = (g.banks.get l).state) :
      ((g.banks.set l b).get k).state = (g.banks.get k).state := by
    rw [PerBank.get_set]
    split
    · next h => rw [hb, h]
    · rfl
  unfold Gd.countLead
  split
  · rfl
  · next l hl =>
    dsimp only
    split
    · split
      · exact hset l rfl
      · rw [PerBank.get_of]
        rfl
    · exact hset l rfl

theorem Gd.dispatch_checking {g : Gd} {k : Bank} (h : (g.banks.get k).state = .checking) (p : Nat) :
    ((g.dispatch p).banks.get k).state = .checking := by
  rw [Gd.dispatch, Gd.countLead_state, PerBank.get_of]
  exact BankRec.assign_checking h _ _

theorem State.dispatchPower_steady (p : Nat) : Steady s (s.dispatchPower p) := by
  have hdispatch : Steady s (s.withGd (s.gd.dispatch p)) := s.withGd_steady fun _ hk => Gd.dispatch_checking hk p
  exact .ite (hdispatch.trans (State.publishGrid_steady _)) hdispatch

theorem State.countOverVoltage_steady (v : Nat) : Steady s (s.countOverVoltage v) := by
  have hcount (c : Nat) (d : Option Nat) :
      Steady s (s.withGd { s.gd with dcLink := v, ovCount := c, dvValue := d }) := s.withGd_steady fun _ hk => hk
  unfold State.countOverVoltage
  refine .ite ?_ (.ite (((hcount _ _).trans (State.release_steady ..)).trans (State.hand_steady ..)) (hcount _ _))
  split
  · exact hcount _ _
  · exact ((hcount _ _).trans (State.claim_steady ..)).trans (State.hand_steady ..)
  · exact (hcount _ _).trans (State.claim_steady ..)

theorem BankRec.timerSteps_checking {b : BankRec} (h : b.state = .checking) (cfg : GridCfg) (k : Bank) (x : GridPorts) :
    (b.timerSteps cfg k x).state = .checking := by
  simp [BankRec.timerSteps, BankRec.heatStep, BankRec.blowerStep, BankRec.openStep, BankRec.availStep, h, BankState.serves]

theorem State.bankTimer_steady (k : Bank) (x : GridPorts) : Steady s (s.bankTimer k x) :=
  ((s.setBank_steady fun hk => BankRec.timerSteps_checking hk ..).trans (State.settle_steady _)).trans
    (State.testGf_later_steady _)

theorem gridTimer_steady (x : PerBank GridPorts) {t : State} (h : exec (.gridTimer x) s = .next t) : Steady s t := by
  obtain rfl := Host.Outcome.next.inj h
  exact ((((s.bankTimer_steady ..).trans (State.bankTimer_steady ..)).trans (State.publishGrid_steady _)).trans
    (State.evalGrid_steady _)).trans (State.testGt_steady _)

theorem bankOrderBody_steady (code : Nat) : Steady s (bankOrderBody code s).1 := by
  unfold bankOrderBody
  split
  · exact .refl s
  · next o ho => exact s.withGd_steady fun k hk => (Gd.settle_bank { s.gd with order := o } k).state.trans hk

theorem configureGridBody_steady (r : GridReq) : Steady s (configureGridBody r s).1 :=
  checked_steady (s.withGd_steady fun k hk => by
    rw [Gd.configure, PerBank.get_of]
    exact hk)

theorem clearTruck_steady : Steady s (clearTruck s).1 := by
  unfold clearTruck
  exact checked_steady ((s.gridClear_steady.trans (State.steeringClear_steady _)).trans (State.clearTruckFlags_steady _))

/-! ### The allocation pass (R34, R40) -/

theorem selectState_armed (rev : Bool) (dr speed dp : Nat) (sel : Selector) :
    (selectState rev dr speed dp sel).1.armed = true ∧ (selectState rev dr speed dp sel).1 ≠ .arming := by
  unfold selectState
  split
  · exact ⟨rfl, nofun⟩
  · split
    · exact ⟨rfl, nofun⟩
    · split
      · exact ⟨rfl, nofun⟩
      · split
        · exact ⟨rfl, nofun⟩
        · exact ⟨rfl, nofun⟩

theorem tick_isSome (x : Option Nat) : (tick x).isSome = x.isSome := by
  cases x <;> rfl

theorem afterPass_state_steady (p : PassPorts) :
    ((Ta.afterPass p s).state = .arming ↔ s.ta.state = .arming) ∧
      (Ta.afterPass p s).state.armed = s.ta.state.armed := by
  by_cases h : s.ta.state.armed = true
  · have hstate := congrArg Prod.fst (afterPass_chosen (p := p) (s := s))
    rw [if_pos h] at hstate
    obtain ⟨harmed, hnot⟩ := selectState_armed
      (reversalHolds (Ta.afterPass p s).selector (Ta.afterPass p s).wheelSign (Ta.afterPass p s).speed)
      (Ta.afterPass p s).dr (Ta.afterPass p s).speed (Ta.afterPass p s).dp (Ta.afterPass p s).selector
    rw [← hstate] at harmed hnot
    have hs : s.ta.state ≠ .arming := fun hs => by rw [hs] at h; cases h
    exact ⟨iff_of_false hnot hs, harmed.trans h.symm⟩
  · rw [(afterPass_unarmed (Bool.eq_false_iff.2 h)).1]
    exact ⟨Iff.rfl, rfl⟩

theorem State.passed_steady (p : PassPorts) : Steady s (s.passed p) where
  standing n := by
    rw [State.passed_station]
    simp [StationCtx.standing, tick_isSome]
  copies _ := rfl
  arming := (afterPass_state_steady s p.held).1
  armed := (afterPass_state_steady s p.held).2
  mark := rfl
  slot _ h := h
  checks k hk := by
    rw [State.passed_bank]
    exact hk

end Sys2Proof.Machine


namespace Sys2Proof

/-- Neither PARKING nor PARKED. -/
def StationState.unparked (st : StationState) : Bool := st != .parking && st != .parked

theorem StationState.unparked_iff {st : StationState} : st.unparked = true ↔ st ≠ .parking ∧ st ≠ .parked := by
  simp [StationState.unparked]

theorem StationState.unparked_of_driven {st : StationState} (h : st.driven = true) : st.unparked = true := by
  cases st <;> first | rfl | exact h

end Sys2Proof

namespace Sys2Proof.Machine
open Sys2Proof

variable {s t : State} {n : Station} {x : StationCtx} {st : StationState}

/-! ### The ceiling table's countdowns and the supervisor's records (R9 to R12, R18 to R20) -/

theorem State.withCt_steady (s : State) (c : List Slot) : Steady s (s.withCt c) :=
  .of_sameBlocks fun b hb => by
    cases b <;> first | rfl | exact absurd hb (by decide)

theorem State.enterRetired_steady (s : State) (h : Handle) : Steady s (s.enterRetired h) := by
  unfold State.enterRetired
  extract_lets l l'
  have hl : l'.inFlight = l.inFlight ∧ l'.slot = l.slot := by
    unfold l'
    split
    · exact ⟨rfl, rfl⟩
    · split <;> exact ⟨rfl, rfl⟩
  exact (s.withSl_steady hl.1 hl.2.trans).trans (State.notify_steady ..)

theorem State.expireSlot_steady (s : State) (i : Nat) : Steady s (s.expireSlot i) := by
  unfold State.expireSlot
  dsimp only
  split
  · exact .ite ((s.withCt_steady _).trans (State.enterRetired_steady ..)) (s.withCt_steady _)
  · exact .refl s

theorem State.countDownAll_steady (s : State) (kind : ExpiryKind) : Steady s (s.countDownAll kind) :=
  (s.withCt_steady _).trans (.foldl State.expireSlot_steady _ _)

theorem placeBody_steady (r : PlaceReq) (s : State) : Steady s (placeBody r s).1 :=
  checked_steady ((s.withCt_steady _).trans (State.withFree_steady ..))

theorem amendBody_steady (a : AmendReq) (s : State) : Steady s (amendBody a s).1 := by
  refine checked_steady ?_
  split
  · exact s.withCt_steady _
  · exact .refl s

theorem retireBody_steady (slot gen : Nat) (s : State) : Steady s (retireBody slot gen s).1 := by
  refine checked_steady ?_
  split
  · exact s.withCt_steady _
  · exact .refl s

/-! ### A station that changes its state (R52, R53, R172) -/

/-- A station takes a context, and PU the state in it. -/
def State.put (s : State) (n : Station) (x : StationCtx) : State :=
  (s.setStation n x).setPuStation n { s.puStation n with copy := x.state }

theorem State.setStation_enter_eq_put (s : State) (n : Station) (x : StationCtx) (st : StationState) :
    (s.setStation n x).enter n st = s.put n { x with state := st } := s.setStation_enter n x st

theorem State.enter_eq_put (s : State) (n : Station) (st : StationState) :
    s.enter n st = s.put n { s.station n with state := st } := rfl

theorem State.put_station (s : State) (n m : Station) (x : StationCtx) :
    (s.put n x).station m = if m = n then x else s.station m := PerStation.get_set ..

theorem State.put_puStation (s : State) (n m : Station) (x : StationCtx) :
    (s.put n x).puStation m = if m = n then { s.puStation n with copy := x.state } else s.puStation m :=
  PerStation.get_set ..

/-- R52, R53: between such states custody and the park fields stand. -/
theorem StationCtx.Fits.move (hx : x.Fits) (hfrom : x.state.unparked = true) (hto : st.unparked = true) :
    ({ x with state := st } : StationCtx).Fits := by
  obtain ⟨hparking, hparked⟩ := StationState.unparked_iff.1 hfrom
  obtain ⟨hparking', hparked'⟩ := StationState.unparked_iff.1 hto
  obtain ⟨hslot, hcustody, horigin, htimer⟩ := hx
  rw [iff_false_right hparked] at hslot hcustody
  rw [iff_false_right hparking] at horigin htimer
  exact ⟨iff_of_false hslot hparked', iff_of_false hcustody hparked', iff_of_false horigin hparking',
    iff_of_false htimer hparking'⟩

/-- One station takes a context that fits, with a link that agrees with it. -/
theorem InStep.putLinked {l : Sl} (hs : InStep s) (hx : x.Fits) (hmark : l.inFlight = some (.park n) ↔ x.state = .parking)
    (hothers : ∀ m, m ≠ n → (l.inFlight = some (.park m) ↔ s.sl.inFlight = some (.park m)))
    (hdriven : x.state.driven = true → s.ta.state.armed = true) (hlink : LinkInStep (s.withSl l)) :
    InStep ((s.put n x).withSl l) where
  link := ⟨hlink.arming, hlink.slot, hlink.checks⟩
  station m := by
    have hstation : ((s.put n x).withSl l).station m = if m = n then x else s.station m := s.put_station n m x
    have hcopy : ((s.put n x).withSl l).puStation m = if m = n then { s.puStation n with copy := x.state } else s.puStation m :=
      s.put_puStation n m x
    by_cases hm : m = n
    · rw [if_pos hm] at hstation hcopy
      exact ⟨by rwa [hstation], by rw [hstation, hm]; exact hmark, by rw [hstation, hcopy], by rw [hstation]; exact hdriven⟩
    · rw [if_neg hm] at hstation hcopy
      obtain ⟨hfits, hmark', hcopy', hdriven'⟩ := hs.station m
      exact ⟨by rwa [hstation], by rw [hstation]; exact (hothers m hm).trans hmark', by rw [hstation, hcopy, hcopy'],
        by rw [hstation]; exact hdriven'⟩

theorem InStep.put (hs : InStep s) (hx : x.Fits) (hmark : s.sl.inFlight = some (.park n) ↔ x.state = .parking)
    (hdriven : x.state.driven = true → s.ta.state.armed = true) : InStep (s.put n x) :=
  hs.putLinked (l := s.sl) hx hmark (fun _ _ => Iff.rfl) hdriven hs.link

/-- A station takes another state, neither of them PARKING or PARKED. -/
theorem InStep.enter (hs : InStep s) (hfrom : (s.station n).state.unparked = true) (hto : st.unparked = true)
    (hdriven : st.driven = true → s.ta.state.armed = true) : InStep (s.enter n st) := by
  obtain ⟨hfits, hmark, -, -⟩ := hs.station n
  rw [State.enter_eq_put]
  refine hs.put (hfits.move hfrom hto) ?_ hdriven
  rw [hmark]
  exact iff_of_false (StationState.unparked_iff.1 hfrom).1 (StationState.unparked_iff.1 hto).1

theorem Steady.state (h : Steady s t) (n : Station) : (t.station n).state = (s.station n).state :=
  state_of_standing (h.standing n)

/-! ### The end of a park (R62, R67) -/

theorem State.sendDisable_steady (s : State) (n : Station) : Steady s (s.sendDisable n) :=
  (s.setStation_steady ..).trans (State.withFree_steady ..)

/-- The request in flight is answered, where no ARM is. -/
theorem LinkInStep.ended (h : LinkInStep s) (hm : s.sl.inFlight ≠ some .arm) :
    LinkInStep (s.withSl { s.sl with inFlight := none }) where
  arming := iff_of_false nofun fun ha => hm (h.arming.2 ha)
  slot hm := absurd rfl hm
  checks hm := nomatch hm

/-- R62, R67: a PARKING station leaves the state as its park is answered. -/
theorem InStep.parkEnded (hs : InStep s) (hpark : (s.station n).state = .parking) (hx : x.Fits) (hleft : x.state ≠ .parking)
    (hdriven : x.state.driven = true → s.ta.state.armed = true) :
    InStep ((s.put n x).withSl { s.sl with inFlight := none }) := by
  have hmark : s.sl.inFlight = some (.park n) := (hs.station n).mark.2 hpark
  refine hs.putLinked hx (iff_of_false nofun hleft) (fun m hm => iff_of_false nofun fun h => hm ?_) hdriven
    (hs.link.ended ?_)
  · rw [hmark] at h
    cases h
    rfl
  · rw [hmark]
    exact nofun

/-- What leaves them before the answer leaves them after it. -/
theorem Steady.answered (h : Steady s t) (hs : InStep (s.withSl { s.sl with inFlight := none })) (q : Option Req) (a : Answer) :
    InStep ((t.withSl { t.sl with inFlight := none }).reply q a) := by
  have hended : Steady (s.withSl { s.sl with inFlight := none }) (t.withSl { t.sl with inFlight := none }) :=
    ⟨h.standing, h.copies, h.arming, h.armed, rfl, fun hm => absurd rfl hm, h.checks⟩
  exact (hended.trans (State.reply_steady _ (by rfl) q a)).inStep hs

theorem State.completePark_inStep (hs : InStep s) (hpark : (s.station n).state = .parking) (cls : ReplyClass)
    (d : Option Detail) : InStep (s.completePark n cls d) := by
  have hmark : s.sl.inFlight = some (.park n) := (hs.station n).mark.2 hpark
  unfold State.completePark
  dsimp only
  rw [State.setStation_enter_eq_put]
  set x : StationCtx := { s.station n with
    state := .parked, parkTimer := none, parkOrigin := none, parkSlot := some (s.station n).settings
    settings := Settings.default, custody := .supervisor }
  have hsteady : Steady (s.put n x) (((s.put n x).ceaseJudging n).sendDisable n) :=
    (State.ceaseJudging_steady ..).trans (State.sendDisable_steady ..)
  rw [State.answerPark_eq (hsteady.mark.trans hmark)]
  refine hsteady.answered (hs.parkEnded hpark ?_ nofun nofun) _ _
  exact ⟨iff_of_true rfl rfl, iff_of_true rfl rfl, iff_of_false nofun nofun, iff_of_false nofun nofun⟩

theorem State.cancelledState_unparked (s : State) (n : Station) : (s.cancelledState n).unparked = true := by
  unfold State.cancelledState
  dsimp only
  split
  · rfl
  · split <;> rfl

theorem State.armed_of_cancelledState_driven (h : (s.cancelledState n).driven = true) : s.ta.state.armed = true := by
  unfold State.cancelledState at h
  dsimp only at h
  split at h
  · cases h
  · split at h
    · next hand => exact (Bool.and_eq_true_iff.1 hand).2
    · cases h

theorem State.cancelPark_inStep (hs : InStep s) (hmark : s.sl.inFlight = some (.park n)) : InStep (s.cancelPark n) := by
  have hpark : (s.station n).state = .parking := (hs.station n).mark.1 hmark
  obtain ⟨hslot, hcustody, -, -⟩ := (hs.station n).fits
  obtain ⟨hparking, hparked⟩ := StationState.unparked_iff.1 (s.cancelledState_unparked n)
  have hwas : (s.station n).state ≠ .parked := by simp [hpark]
  unfold State.cancelPark
  dsimp only
  rw [State.setStation_enter_eq_put, State.answerPark_eq (by exact hmark)]
  refine (Steady.refl _).answered (hs.parkEnded hpark ?_ hparking State.armed_of_cancelledState_driven) _ _
  exact ⟨iff_of_false (mt hslot.1 hwas) hparked, iff_of_false (mt hcustody.1 hwas) hparked, iff_of_false nofun hparking,
    iff_of_false nofun hparking⟩

/-! ### Raise and clear claims (R56) -/

theorem State.trip_inStep (hs : InStep s) (hfrom : (s.station n).state.unparked = true) : InStep (s.trip n) :=
  (State.sendDisable_steady ..).inStep (hs.enter hfrom rfl nofun)

theorem State.takeRaise_inStep (hs : InStep s) (c : StationClass) (trips : Bool) : InStep (s.takeRaise n c trips) := by
  unfold State.takeRaise
  extract_lets x upgraded t u
  split
  · refine (s.setStation_steady ?_).inStep hs
    simp [StationCtx.standing, x]
  · have ht : Steady s t := s.setStation_steady ..
    have hu : Steady s u := .ite (ht.trans (State.notifyTrip_steady ..)) ht
    have hustate : (u.station n).state = x.state := hu.state n
    split
    · split
      case h_1 hst | h_2 hst | h_3 hst =>
        exact State.trip_inStep (hu.inStep hs) (by rw [hustate, hst]; rfl)
      case h_4 hst => exact State.completePark_inStep (hu.inStep hs) (hustate.trans hst) ..
      case h_5 => exact hu.inStep hs
    · exact hu.inStep hs

theorem State.takeClear_inStep (hs : InStep s) (f : StationFlags) : InStep (s.takeClear n f) := by
  have ht (z : Settings) : Steady s (s.setStation n { s.station n with settings := z }) := s.setStation_steady ..
  unfold State.takeClear
  dsimp only
  split
  · next h =>
    have htripped : (s.station n).state = .tripped := of_decide_eq_true (Bool.and_eq_true_iff.1 h).1
    exact ((ht _).inStep hs).enter (by rw [(ht _).state, htripped]; rfl) rfl nofun
  · exact (ht _).inStep hs

end Sys2Proof.Machine


namespace Sys2Proof.Machine
open Sys2Proof

variable {s t : State} {n : Station} {st : StationState}

/-! ### Parks, restores and re-arming (R63, R68, R69, R71) -/

theorem firstFailure_eq_none {l : List (Bool × Answer)} : firstFailure l = none ↔ ∀ p ∈ l, p.1 = false := by
  induction l with
  | nil => simp [firstFailure]
  | cons p l ih =>
    obtain ⟨_ | _, a⟩ := p
    · simpa [firstFailure] using ih
    · simp [firstFailure]

/-- R31, R63, R195: a long request that leaves them in step once accepted, on a free link. -/
theorem longRequest_inStep (hs : InStep s) (q : Req) (m : InFlight) {checks : State → List (Bool × Answer)}
    {accept : State → State}
    (haccept : ∀ u, InStep u → u.linkFree → u.sl.slot = none → (∀ p ∈ checks u, p.1 = false) →
      InStep (accept (u.withSl { u.sl with inFlight := some m }))) :
    InStep (longRequest q m checks accept s) := by
  by_cases hfree : s.linkFree
  · cases hc : firstFailure (checks s.takeFrame) with
    | some a =>
      rw [longRequest_refused hfree hc]
      exact (s.takeFrame.reply_steady hfree _ _).inStep (s.takeFrame_steady.inStep hs)
    | none =>
      rw [longRequest_accepted hfree hc]
      exact haccept s.takeFrame (s.takeFrame_steady.inStep hs) hfree rfl (firstFailure_eq_none.1 hc)
  · rw [longRequest, if_pos (Option.isSome_iff_ne_none.2 hfree)]
    exact s.discardFrame_steady.inStep hs

theorem StationState.asOrigin_isSome {st : StationState} (habsent : st ≠ .absent) (h : st.unparked = true) :
    (StationState.asOrigin st).isSome = true := by
  cases st <;> first | rfl | exact absurd rfl habsent | exact Bool.noConfusion h

theorem State.beginPark_inStep (hs : InStep s) (hfree : s.linkFree) (hslot : s.sl.slot = none)
    (habsent : (s.station n).state ≠ .absent) (hparked : (s.station n).state ≠ .parked) :
    InStep ((s.withSl { s.sl with inFlight := some (.park n) }).beginPark n) := by
  have hnone : s.sl.inFlight = none := hfree
  obtain ⟨⟨hpark, hcustody, -, -⟩, hmark, -, -⟩ := hs.station n
  have hparking : (s.station n).state ≠ .parking := fun h => by
    rw [hmark.2 h] at hnone
    cases hnone
  have hput : (s.withSl { s.sl with inFlight := some (.park n) }).beginPark n =
      (s.put n { s.station n with
        state := .parking, parkOrigin := StationState.asOrigin (s.station n).state, parkTimer := some 3000 }).withSl
        { s.sl with inFlight := some (.park n) } := State.setStation_enter_eq_put ..
  rw [hput]
  refine hs.putLinked ⟨iff_of_false (mt hpark.1 hparked) nofun, iff_of_false (mt hcustody.1 hparked) nofun,
    iff_of_true ?_ rfl, iff_of_true rfl rfl⟩ (iff_of_true rfl rfl) (fun m hm => ?_) nofun ⟨?_, fun _ => hslot, nofun⟩
  · exact StationState.asOrigin_isSome habsent (StationState.unparked_iff.2 ⟨hparking, hparked⟩)
  · rw [hnone]
    refine iff_of_false (fun h => hm ?_) nofun
    cases h
    rfl
  · refine iff_of_false nofun fun h => ?_
    rw [hs.link.arming.2 h] at hnone
    cases hnone

theorem parkStation_inStep (hs : InStep s) (b : Nat) (h : exec (.parkStation b) s = .next t) : InStep t := by
  obtain rfl := Host.Outcome.next.inj h
  split
  · next k hk =>
    refine longRequest_inStep hs _ _ fun u hu hfree hslot hpass => ?_
    simp only [parkChecks, stateOf, hk, List.forall_mem_cons, Option.map_some, beq_eq_false_iff_ne, ne_eq,
      Option.some.injEq] at hpass
    obtain ⟨-, habsent, hparked, -⟩ := hpass
    exact State.beginPark_inStep hu hfree hslot habsent hparked
  · exact request_steady hs _ fun u => .refl u

theorem restoredState_unparked (x : Settings) (armed : Bool) : (restoredState x armed).unparked = true := by
  unfold restoredState
  split
  · rfl
  · split <;> rfl

theorem armed_of_restoredState_driven {x : Settings} {armed : Bool} (h : (restoredState x armed).driven = true) :
    armed = true := by
  unfold restoredState at h
  split at h
  · cases h
  · split at h
    · assumption
    · cases h

theorem State.restore_inStep (hs : InStep s) (hparked : (s.station n).state = .parked) : InStep (s.restore n) := by
  obtain ⟨⟨-, -, horigin, htimer⟩, hmark, -, -⟩ := hs.station n
  have hparking : (s.station n).state ≠ .parking := by simp [hparked]
  obtain ⟨hnot, hnot'⟩ := StationState.unparked_iff.1
    (restoredState_unparked ((s.station n).parkSlot.getD Settings.default) s.ta.state.armed)
  unfold State.restore
  dsimp only
  rw [State.setStation_enter_eq_put]
  refine hs.put ⟨iff_of_false nofun hnot', iff_of_false nofun hnot', iff_of_false (mt horigin.1 hparking) hnot,
    iff_of_false (mt htimer.1 hparking) hnot⟩ (iff_of_false (mt hmark.1 hparking) hnot) armed_of_restoredState_driven

/-- A request's body that leaves the link as it is, and the rest in step where its checks pass. -/
theorem checked_inStep {l : List (Bool × Answer)} {ok : State × Answer} (hs : InStep s) (hfree : s.linkFree)
    (hok : (∀ p ∈ l, p.1 = false) → InStep ok.1 ∧ ok.1.linkFree) :
    InStep (checked s l ok).1 ∧ (checked s l ok).1.linkFree := by
  rcases checked_cases s l ok with h | ⟨hpass, h⟩ <;> rw [h]
  · exact ⟨hs, hfree⟩
  · exact hok hpass

theorem restoreBody_inStep (b : Nat) (hs : InStep s) (hfree : s.linkFree) :
    InStep (restoreBody b s).1 ∧ (restoreBody b s).1.linkFree := by
  refine checked_inStep hs hfree fun hpass => ?_
  split
  · next k hk =>
    simp only [restoreChecks, stateOf, hk, List.forall_mem_cons, Option.map_some, bne_eq_false_iff_eq,
      Option.some.injEq] at hpass
    obtain ⟨-, hparked, -⟩ := hpass
    exact ⟨State.restore_inStep hs hparked, hfree⟩
  · exact ⟨hs, hfree⟩

theorem rearmBody_inStep (b : Nat) (hs : InStep s) (hfree : s.linkFree) :
    InStep (rearmBody b s).1 ∧ (rearmBody b s).1.linkFree := by
  refine checked_inStep hs hfree fun hpass => ?_
  split
  · next k hk =>
    simp only [rearmChecks, stateOf, hk, List.forall_mem_cons, Option.map_some, bne_eq_false_iff_eq,
      Option.some.injEq, Bool.not_eq_false'] at hpass
    obtain ⟨-, hstandby, harmed, -⟩ := hpass
    exact ⟨hs.enter (by rw [hstandby]; rfl) rfl fun _ => harmed, hfree⟩
  · exact ⟨hs, hfree⟩

theorem writeParkedBody_inStep (r : WriteReq) (hs : InStep s) (hfree : s.linkFree) :
    InStep (writeParkedBody r s).1 ∧ (writeParkedBody r s).1.linkFree := by
  refine checked_inStep hs hfree fun hpass => ?_
  split
  · next k hk =>
    simp only [writeParkedChecks, stateOf, hk, List.forall_mem_cons, Option.map_some, bne_eq_false_iff_eq,
      Option.some.injEq] at hpass
    obtain ⟨-, hparked, -⟩ := hpass
    refine ⟨(s.setStation_steady ?_).inStep hs, hfree⟩
    have hslot : (s.station k).parkSlot.isSome = true := (hs.station k).fits.slot.2 hparked
    simp [StationCtx.standing, hslot]
  · exact ⟨hs, hfree⟩

/-! ### Reports, the grants handed over, and their clears (R57, R59 to R61, R64 to R66) -/

theorem State.takeReport_inStep (hs : InStep s) (n : Station) (r : Report) : InStep (s.takeReport n r) := by
  unfold State.takeReport
  extract_lets x t u
  have ht : Steady s t := s.setStation_steady ..
  have hhanded (u : State) : Steady u (u.handReport n r) := u.hand_steady _
  have hu : Steady s u := ht.trans (hhanded t)
  split
  case h_1 hst =>
    split
    · exact (hhanded _).inStep ((ht.inStep hs).enter (by rw [ht.state, hst]; rfl) rfl nofun)
    · exact ht.inStep hs
  case h_2 => exact ht.inStep hs
  case h_3 hst =>
    split
    · exact State.completePark_inStep (hu.inStep hs) ((hu.state n).trans hst) ..
    · exact hu.inStep hs
  all_goals exact hu.inStep hs

theorem reportFrame_inStep (hs : InStep s) (n : Station) (bytes : List Byte)
    (h : exec (.reportFrame n bytes) s = .next t) : InStep t := by
  obtain rfl := Host.Outcome.next.inj h
  split
  · split
    · exact s.takeReport_inStep hs ..
    · exact hs
  · exact hs

theorem reportDeadlineExpiry_steady (n : Station) (h : exec (.reportDeadlineExpiry n) s = .next t) : Steady s t := by
  obtain rfl := Host.Outcome.next.inj h
  have hlost : Steady s (s.setStation n { s.station n with link := .lost, deadline := none }) := s.setStation_steady ..
  refine .ite ?_ (.refl s)
  dsimp only
  split
  · exact hlost
  · exact hlost
  · exact hlost.trans (State.hand_steady ..)

theorem parkTimerExpiry_inStep (hs : InStep s) (n : Station) (h : exec (.parkTimerExpiry n) s = .next t) : InStep t := by
  obtain rfl := Host.Outcome.next.inj h
  split
  · next hpark => exact State.completePark_inStep hs (of_decide_eq_true (Bool.and_eq_true_iff.1 hpark).1) ..
  · exact hs

/-- R61: a station that catches up was RESTORING, and so TA is armed. -/
theorem State.catchUp_inStep (hs : InStep s) (n : Station) (g : GrantHand) : InStep (s.catchUp n g) := by
  unfold State.catchUp
  split
  · next h =>
    have hrestoring : (s.station n).state = .restoring := of_decide_eq_true (Bool.and_eq_true_iff.1 h).1
    exact hs.enter (by rw [hrestoring]; rfl) rfl fun _ => (hs.station n).driven (by rw [hrestoring]; rfl)
  · exact hs

theorem grantHandover_inStep (hs : InStep s) (hands : PerStation GrantHand) (travel : Travel)
    (h : exec (.grantHandover hands travel) s = .next t) : InStep t := by
  obtain rfl := Host.Outcome.next.inj h
  refine List.foldlRecOn Station.all _ hs fun u hu n _ => ?_
  exact (State.setStation_steady ..).inStep (u.catchUp_inStep hu n _)

theorem clearStation_inStep (n : Station) (hs : InStep s) (hfree : s.linkFree) :
    InStep (clearStation n s).1 ∧ (clearStation n s).1.linkFree := by
  refine checked_inStep hs hfree fun _ => ⟨s.takeClear_inStep hs _, ?_⟩
  have hsl := (s.takeClear_acts n ((s.station n).settings.flags.minus (s.puStation n).conds)).blocks .sl (by simp)
  exact (congrArg Sl.inFlight hsl).trans hfree

theorem clearFaultsBody_inStep (target : Nat) (hs : InStep s) (hfree : s.linkFree) :
    InStep (clearFaultsBody target s).1 ∧ (clearFaultsBody target s).1.linkFree := by
  unfold clearFaultsBody
  split
  · exact clearStation_inStep _ hs hfree
  · split
    · exact ⟨(clearTruck_steady s).inStep hs, (clearTruck_steady s).mark.trans hfree⟩
    · exact ⟨hs, hfree⟩

end Sys2Proof.Machine


namespace Sys2Proof.Machine
open Sys2Proof

variable {s t : State}

/-! ### Arming and disarming (R31 to R33, R55, R79) -/

/-- Stations that are neither PARKING nor PARKED enter another such state together, with a TA in which a driven station
may stand. -/
theorem InStep.moved {x : Ta} {goes : Station → Bool} {st : StationState} (hs : InStep s)
    (harming : x.state = .arming ↔ s.ta.state = .arming) (hgoes : ∀ n, goes n = true → (s.station n).state.unparked = true)
    (hto : st.unparked = true)
    (hdriven : ∀ n, (if goes n then st else (s.station n).state).driven = true → x.state.armed = true) :
    InStep ((s.withTa x).moved goes st) where
  link := ⟨hs.link.arming.trans harming.symm, hs.link.slot, hs.link.checks⟩
  station n := by
    obtain ⟨hfits, hmark, hcopy, -⟩ := hs.station n
    have hstation : ((s.withTa x).moved goes st).station n =
        { s.station n with state := if goes n then st else (s.station n).state } := State.moved_station ..
    have hpu : ((s.withTa x).moved goes st).puStation n =
        { s.puStation n with copy := if goes n then st else (s.puStation n).copy } := State.moved_puStation ..
    have hmark' : ((s.withTa x).moved goes st).sl.inFlight = s.sl.inFlight := rfl
    refine ⟨?_, ?_, by rw [hstation, hpu, hcopy], by rw [hstation]; exact hdriven n⟩
    · rw [hstation]
      split
      · next h => exact hfits.move (hgoes n h) hto
      · exact hfits
    · rw [hstation, hmark', hmark]
      split
      · next h =>
        exact iff_of_false (StationState.unparked_iff.1 (hgoes n h)).1 (StationState.unparked_iff.1 hto).1
      · exact Iff.rfl

theorem armingEvent_inStep (hs : InStep s) (h : exec .armingEvent s = .next t) : InStep t := by
  obtain rfl := Host.Outcome.next.inj h
  split
  · next harmed =>
    rw [State.armStations_eq]
    refine hs.moved (x := s.ta) Iff.rfl (fun n h => ?_) rfl fun _ _ => harmed
    have hstandby : (s.station n).state = .standby := beq_iff_eq.1 (Bool.and_eq_true_iff.1 h).1
    rw [hstandby]
    rfl
  · exact hs

theorem LinkInStep.notArming (h : LinkInStep s) (hfree : s.linkFree) : s.ta.state ≠ .arming := fun ha => by
  have hnone : s.sl.inFlight = none := hfree
  rw [h.arming.2 ha] at hnone
  cases hnone

theorem disarmBody_inStep (hs : InStep s) (hfree : s.linkFree) :
    InStep (disarmBody s).1 ∧ (disarmBody s).1.linkFree := by
  refine checked_inStep hs hfree fun _ => ?_
  rw [State.disarmStations_eq]
  refine ⟨hs.moved (iff_of_false nofun (hs.link.notArming hfree)) (fun n => StationState.unparked_of_driven) rfl
    (fun n h => ?_), hfree⟩
  change (if (s.station n).state.driven then StationState.standby else (s.station n).state).driven = true at h
  split at h
  · cases h
  · next hnot => exact absurd h hnot

/-- R31: with the link taken for ARM, TA enters ARMING as the first self-check starts. -/
theorem State.beginArm_inStep (hs : InStep s) (hfree : s.linkFree) (hslot : s.sl.slot = none)
    (hunarmed : s.ta.state.armed = false) : InStep (s.withSl { s.sl with inFlight := some .arm }).beginArm := by
  set v := (s.withSl { s.sl with inFlight := some .arm }).withTa { s.ta with state := .arming }
  have hnone : s.sl.inFlight = none := hfree
  have hstart : Steady v (v.startCheck .a) := v.startCheck_steady .a
  have hv : InStep (v.startCheck .a) := by
    refine hs.relink hstart.standing hstart.copies (fun n => ?_) (fun h => ?_) ⟨?_, fun hm => ?_, fun _ => ?_⟩
    · rw [hstart.mark, hnone]
      exact iff_of_false nofun nofun
    · rw [hunarmed] at h
      cases h
    · exact iff_of_true hstart.mark (hstart.arming.2 rfl)
    · exact hstart.slot nofun hslot
    · exact (checkingAny_iff _).2 ⟨.a, (v.startCheck_renewed .a).bank.state⟩
  exact ((State.startCheck_steady _ .b).trans (State.testGf_later_steady _)).inStep hv

theorem arm_inStep (hs : InStep s) (h : exec .arm s = .next t) : InStep t := by
  obtain rfl := Host.Outcome.next.inj h
  refine longRequest_inStep hs _ _ fun u hu hfree hslot hpass => ?_
  exact State.beginArm_inStep hu hfree hslot (hpass _ List.mem_cons_self)

theorem cancel_inStep (hs : InStep s) (h : exec .cancel s = .next t) : InStep t := by
  obtain rfl := Host.Outcome.next.inj h
  have htaken : InStep s.takeFrame := s.takeFrame_steady.inStep hs
  split
  · next harm =>
    have hunarmed : s.ta.state.armed = false := by rw [hs.link.arming.1 harm]; rfl
    refine htaken.relink (fun _ => rfl) (fun _ => rfl) (fun n => ?_) (fun h => ?_) ?_
    · exact iff_of_false nofun fun h => by rw [show s.sl.inFlight = _ from h] at harm; cases harm
    · exact absurd (hunarmed.symm.trans h) nofun
    · exact ⟨iff_of_false nofun nofun, fun h => absurd rfl h, nofun⟩
  · next n hpark => exact State.cancelPark_inStep htaken hpark
  · next hfree => exact (s.takeFrame.reply_steady hfree ..).inStep htaken

/-- R31, R79: the end of a self-check; the last one ends ARMING with the ARM in flight. -/
theorem State.endCheck_inStep (hs : InStep s) (k : Bank) (st : BankState) : InStep (s.endCheck k st) := by
  rw [State.endCheck_eq]
  have hv := s.checkEnded_spec k st
  generalize s.checkEnded k st = v at hv
  have hvsm : v.sm = s.sm := (congrArg State.sm hv.frame).trans rfl
  have hvpu : v.pu = s.pu := (congrArg State.pu hv.frame).trans rfl
  have hvta : v.ta = s.ta := (congrArg State.ta hv.frame).trans rfl
  have hvsl : v.sl = s.sl := (congrArg State.sl hv.frame).trans rfl
  have hframe := checkCompletion_frame v
  have hsm : v.checkCompletion.sm = s.sm := ((congrArg State.sm hframe).trans rfl).trans hvsm
  have hpu : v.checkCompletion.pu = s.pu := ((congrArg State.pu hframe).trans rfl).trans hvpu
  have hrelink := hs.relink (t := v.checkCompletion) (fun n => by rw [State.station, hsm]; rfl)
    (fun n => by rw [State.puStation, hpu]; rfl)
  by_cases hwaits : v.sl.inFlight ≠ some .arm ∨ v.checkingAny = true
  · rw [checkCompletion_waits hwaits] at hrelink ⊢
    refine hrelink (fun n => by rw [hvsl]) (fun h => by rwa [hvta]) ⟨?_, ?_, fun h => hwaits.resolve_left (absurd h)⟩
    · rw [hvsl, hvta, hs.link.arming]
    · rw [hvsl]
      exact hs.link.slot
  · obtain ⟨harm, hchecks⟩ : v.sl.inFlight = some .arm ∧ v.checkingAny = false := by simpa using hwaits
    obtain ⟨hfree, -, hta, -⟩ := checkCompletion_last k harm hchecks
    rw [hvsl] at harm
    refine hrelink (fun n => ?_) (fun h => ?_) ⟨?_, fun h => absurd hfree h, fun h => ?_⟩
    · rw [hfree, harm]
      exact iff_of_false nofun nofun
    · rw [hs.link.arming.1 harm] at h
      cases h
    · rw [hfree, hta]
      refine iff_of_false nofun ?_
      dsimp only
      split
      · exact nofun
      · split <;> exact nofun
    · rw [hfree] at h
      cases h

/-! ### Resets (R202, R203) -/

theorem InStep.of_reset (hstation : ∀ n, t.station n = StationCtx.reset) (hcopy : ∀ n, t.puStation n = PuStation.reset)
    (hta : t.ta.state = .disarmed) (hfree : t.sl.inFlight = none) : InStep t := by
  refine ⟨fun n => ⟨?_, ?_, ?_, ?_⟩, ?_, fun h => absurd hfree h, ?_⟩
  · rw [hstation]
    exact ⟨iff_of_false nofun nofun, iff_of_false nofun nofun, iff_of_false nofun nofun, iff_of_false nofun nofun⟩
  · rw [hstation, hfree]
    exact iff_of_false nofun nofun
  · rw [hstation, hcopy]
    rfl
  · rw [hstation]
    exact nofun
  · rw [hfree, hta]
    exact iff_of_false nofun nofun
  · rw [hfree]
    exact nofun

theorem softResetBody_inStep (hs : InStep s) (hfree : s.linkFree) :
    InStep (softResetBody s).1 ∧ (softResetBody s).1.linkFree :=
  checked_inStep hs hfree fun _ =>
    ⟨.of_reset (fun n => PerStation.get_fill _ n) (fun n => PerStation.get_fill _ n) rfl hfree, hfree⟩

theorem hardReset_inStep (h : exec .hardReset s = .next t) : InStep t := by
  obtain rfl := Host.Outcome.next.inj h
  exact .of_reset reset_station reset_puStation rfl rfl

/-! ### Every command -/

theorem inStep_of_next {u : State} (h : (.next u : Out) = .next t) (hu : InStep u) : InStep t :=
  Host.Outcome.next.inj h ▸ hu

/-- R52, R53, R172, R194, R195: a command keeps stations, copies and the link in step. -/
theorem exec_inStep {c : Instr} (hs : InStep s) (h : exec c s = .next t) : InStep t := by
  cases c with
  | identify | readEffective | readAllocation | readGrid | readRoute | readGovernor | readSteering | readPayload
  | readProtection => exact inStep_of_next h (request_steady hs _ fun u => .refl u)
  | readNotices => exact inStep_of_next h (request_steady hs _ fun u => u.withSl_steady rfl id)
  | cancel => exact cancel_inStep hs h
  | softReset => exact inStep_of_next h (request_inStep hs _ fun u hu hfree => softResetBody_inStep hu hfree)
  | hardReset => exact hardReset_inStep h
  | malformedFrame bytes cut | frameDiscardedBusy bytes cut =>
    exact inStep_of_next h (s.takeTransaction_inStep hs bytes cut)
  | replyRead n => exact inStep_of_next h ((s.readReply_steady n).inStep hs)
  | placeCeiling r => exact inStep_of_next h (request_steady hs _ (placeBody_steady r))
  | amendCeiling a => exact inStep_of_next h (request_steady hs _ (amendBody_steady a))
  | retireCeiling slot gen => exact inStep_of_next h (request_steady hs _ (retireBody_steady slot gen))
  | queryCeiling _ _ | listCeilings _ _ | profileRead _ =>
    exact inStep_of_next h (request_steady hs _ fun u => checked_steady (.refl u))
  | configureDrive _ _ =>
    exact inStep_of_next h (request_steady hs _ fun u => checked_steady (u.withTa_steady rfl))
  | arm => exact arm_inStep hs h
  | disarm => exact inStep_of_next h (request_inStep hs _ fun u hu hfree => disarmBody_inStep hu hfree)
  | parkStation b => exact parkStation_inStep hs b h
  | restoreStation b => exact inStep_of_next h (request_inStep hs _ fun u hu hfree => restoreBody_inStep b hu hfree)
  | rearmStation b => exact inStep_of_next h (request_inStep hs _ fun u hu hfree => rearmBody_inStep b hu hfree)
  | readStationContext b =>
    exact inStep_of_next h (request_steady hs _ fun u => (readStationBody_acts u b).steady rfl)
  | writeParkedContext r =>
    exact inStep_of_next h (request_inStep hs _ fun u hu hfree => writeParkedBody_inStep r hu hfree)
  | configureGrid r => exact inStep_of_next h (request_steady hs _ fun u => configureGridBody_steady u r)
  | setBankOrder o => exact inStep_of_next h (request_steady hs _ fun u => bankOrderBody_steady u o)
  | profileWrite g d0 d1 d2 d3 =>
    exact inStep_of_next h (request_steady hs _ fun u => (profileWriteBody_acts u _ _ _).steady rfl)
  | routeStart g first offset =>
    exact inStep_of_next h (request_steady hs _ fun u => checked_steady (u.startRoute_steady ..))
  | routeStop => exact inStep_of_next h (request_steady hs _ fun u => checked_steady (u.stopRoute_acts.steady rfl))
  | insertDetour g =>
    exact inStep_of_next h (request_steady hs _ fun u =>
      checked_steady (((u.withRs_acts _).andThen (State.hand_acts ..)).steady rfl))
  | abortDetour =>
    exact inStep_of_next h (request_steady hs _ fun u =>
      checked_steady (u.abortDetour_steady.trans (State.hand_steady ..)))
  | resume =>
    exact inStep_of_next h (request_steady hs _ fun u =>
      checked_steady (((u.leaveHold_acts _).steady rfl).trans (State.rollover_steady _)))
  | governorMode m =>
    exact inStep_of_next h (request_steady hs _ fun u => (governorModeBody_acts u m).steady rfl)
  | forecast a => exact inStep_of_next h (request_steady hs _ fun u => (forecastBody_acts u a).steady rfl)
  | forecastContinue =>
    exact inStep_of_next h (request_steady hs _ fun u => (forecastContinueBody_acts u).steady rfl)
  | configureSteering _ _ _ _ _ | steerEnvelope _ | setAssist _ _ =>
    exact inStep_of_next h (request_steady hs _ fun u => checked_steady ((u.withSc_acts _).steady rfl))
  | configurePayload _ _ _ _ =>
    exact inStep_of_next h (request_steady hs _ fun u => checked_steady ((u.withPm_acts _).steady rfl))
  | configureProtection _ _ =>
    exact inStep_of_next h (request_steady hs _ fun u => checked_steady (u.withPu_steady ..))
  | clearFaultsStation b =>
    exact inStep_of_next h (request_inStep hs _ fun u hu hfree => clearFaultsBody_inStep b hu hfree)
  | clearFaultsTruck => exact inStep_of_next h (request_steady hs _ clearTruck_steady)
  | setMaskStation b m => exact inStep_of_next h (request_steady hs _ fun u => setMaskBody_steady u b m)
  | setMaskTruck m => exact inStep_of_next h (request_steady hs _ fun u => setTruckMask_steady u m)
  | protectionInit => exact inStep_of_next h (request_steady hs _ protectionInitBody_steady)
  | allocationPass p => exact inStep_of_next h ((s.passed_steady p).inStep hs)
  | grantHandover hands travel => exact grantHandover_inStep hs hands travel h
  | powerArrival p v =>
    exact inStep_of_next h (((s.dispatchPower_steady _).trans (State.countOverVoltage_steady ..)).inStep hs)
  | passArrival marks v => exact (passArrival_steady s marks v h).inStep hs
  | forwardMetreEvent => exact (s.forwardMetre_steady h).inStep hs
  | reverseMetreEvent => exact ((reverseMetre_acts s h).steady rfl).inStep hs
  | distanceExpiryCount dir => exact inStep_of_next h ((s.countDownAll_steady _).inStep hs)
  | windowMetre dir => exact (s.windowMetre_steady dir h).inStep hs
  | tableTimer => exact inStep_of_next h (((s.withCt_steady _).trans (State.countDownAll_steady ..)).inStep hs)
  | recordExpiry slot => exact inStep_of_next h ((Steady.ite (s.expireSlot_steady slot) (.refl s)).inStep hs)
  | gridTimer x => exact (gridTimer_steady s x h).inStep hs
  | bankCurrentSeen k | checkTimerExpiry k =>
    refine inStep_of_next h ?_
    split
    · exact State.endCheck_inStep hs ..
    · exact hs
  | armingEvent => exact armingEvent_inStep hs h
  | reportFrame n bytes => exact reportFrame_inStep hs n bytes h
  | reportDeadlineExpiry n => exact (reportDeadlineExpiry_steady n h).inStep hs
  | parkTimerExpiry n => exact parkTimerExpiry_inStep hs n h
  | reportJudgement n carried r => exact (reportJudgement_steady s n carried r h).inStep hs
  | linkLostEvent n carried => exact (linkLostEvent_steady s n carried h).inStep hs
  | raiseClaim n c trips => exact inStep_of_next h (State.takeRaise_inStep hs c trips)
  | clearClaim n f => exact inStep_of_next h (State.takeClear_inStep hs f)
  | truckConditionBegins b => exact inStep_of_next h ((s.beginsEvent_steady _).inStep hs)
  | truckConditionEnds c => exact inStep_of_next h ((s.endsEvent_steady c).inStep hs)
  | protectionTimer => exact inStep_of_next h ((s.withPu_steady ..).inStep hs)
  | payloadSample x =>
    exact inStep_of_next h ((((s.withPm_acts _).steady rfl).trans (State.sampleWork_steady ..)).inStep hs)
  | setClaim _ _ _ _ | retireClaim _ _ | governorUpdate | holdReachedAtDg _ | holdLeftAtDg _ _ | routeEditEvent
  | latchEvent | steeringUpdate _ | holdReachedAtPm _ | holdLeftAtPm _ _ | plMaskEvent _ =>
    exact (exec_steady h rfl).inStep hs

end Sys2Proof.Machine

namespace Sys2Proof.Proofs.TorqueAllocation
open Sys2Proof Sys2Proof.Machine

/-- Settles O38: the three invariants, joined station by station as `InStep`, are kept by every command; a step runs one
command, or none. -/
theorem custodyCopiesAndArmingStayInStep : Obligations.CustodyCopiesAndArmingStayInStep := by
  intro s t hcustody hcopies harming h
  have hs : InStep s := (inStep_iff s).2 ⟨hcustody, hcopies, harming⟩
  refine (inStep_iff t).1 ?_
  unfold step at h
  split at h
  · next c rest _ => exact exec_inStep (s := s.withPending rest) ((s.withPending_steady rest).inStep hs) h
  · split at h
    · next e rest _ => exact exec_inStep (s := s.withHanded rest) ((s.withHanded_steady rest).inStep hs) h
    · exact Host.Outcome.next.inj h ▸ hs

end Sys2Proof.Proofs.TorqueAllocation


namespace Sys2Proof.Machine
open Sys2Proof

variable {s t : State}

/-! ### What a command keeps, block by block (R35 to R172) -/

/-- A block's state has a property. -/
def Within {α : Type} (p : α → Prop) (block : State → α) (s : State) : Prop := p (block s)

section Within
variable {α : Type} {p : α → Prop} {block : State → α}

theorem Within.next {u : State} (h : (.next u : Out) = .next t) (hu : Within p block u) : Within p block t :=
  Host.Outcome.next.inj h ▸ hu

/-- R2: a request has its effect only where every check passes. -/
theorem Within.checked {l : List (Bool × Answer)} {ok : State × Answer} (hs : Within p block s)
    (hok : (∀ x ∈ l, x.1 = false) → Within p block ok.1) : Within p block (checked s l ok).1 := by
  rcases checked_cases s l ok with h | ⟨hpass, h⟩ <;> rw [h]
  · exact hs
  · exact hok hpass

/-- R193, R195: a request leaves a block other than the link as its body does. -/
theorem Within.request (hs : Within p block s) {q : Req} {body : State → State × Answer}
    (hbody : ∀ u, Within p block u → Within p block (body u).1)
    (hlink : ∀ u x, block (u.withSl x) = block u := by intros; rfl) : Within p block (request q body s) :=
  request_keeps s q body hs (fun u x hu => by rwa [Within, hlink]) hbody

/-- R31, R62: a request that is answered later leaves a block other than the link as its beginning does. -/
theorem Within.longRequest (hs : Within p block s) {q : Req} {m : InFlight} {checks : State → List (Bool × Answer)}
    {accept : State → State} (haccept : ∀ u, Within p block u → Within p block (accept u))
    (hlink : ∀ u x, block (u.withSl x) = block u := by intros; rfl) :
    Within p block (longRequest q m checks accept s) := by
  have hsl {u : State} (hu : Within p block u) (x : Sl) : Within p block (u.withSl x) := by rwa [Within, hlink]
  unfold Machine.longRequest
  split
  · exact hsl hs _
  · dsimp only
    split
    · exact hsl (hsl hs _) _
    · exact hsl (haccept _ (hsl hs _)) _

end Within

/-! ### The allocator's figures (R35, R37, R38, R46 to R48) -/

theorem safeStopRef_inRange {level : Level} {ref : Option Nat} {count speed : Nat}
    (href : ∀ r, ref = some r → r ≤ 700) (hspeed : speed ≤ 700) :
    (∀ r, (safeStopRef level ref count speed).1 = some r → r ≤ 700) ∧
      (safeStopRef level ref count speed).2 ≤ 4 := by
  by_cases hlevel : level = .safeStop
  · subst hlevel
    cases ref with
    | none => simpa [safeStopRef] using hspeed
    | some r =>
      have hr : r ≤ 700 := href r rfl
      unfold safeStopRef
      dsimp only
      split <;> simp <;> omega
  · simp [safeStopRef_elsewhere hlevel]

theorem afterPass_inRange (p : PassPorts) (h : allocationInRange s.ta) : allocationInRange (Ta.afterPass p s) := by
  obtain ⟨hspeed, haccum, -, href, -⟩ := h
  have hnew : s.newSpeed ≤ 700 := State.newSpeed_le hspeed
  obtain ⟨hsafe, hfall⟩ := safeStopRef_inRange (level := s.pu.level) (count := s.ta.fallCount) href hnew
  refine ⟨hnew, ?_, hfall, hsafe, ?_, min_le_left _ _, min_le_left _ _⟩
  · change (if 3600 ≤ s.ta.accum + s.newSpeed then s.ta.accum + s.newSpeed - 3600 else s.ta.accum + s.newSpeed) ≤ 3599
    rw [passAccum_eq haccum hnew]
    omega
  · change shortfallOf _ _ _ ≤ 4000
    unfold shortfallOf
    split
    · exact min_le_left _ _
    · exact Nat.zero_le _

theorem exec_allocationInRange {c : Instr} (ha : Within allocationInRange State.ta s) (h : exec c s = .next t) :
    Within allocationInRange State.ta t := by
  by_cases hsoft : c = .softReset
  · subst hsoft
    exact Within.next h (ha.request fun u hu => hu.checked fun _ => allocationInRange_reset)
  by_cases hhard : c = .hardReset
  · subst hhard
    exact Within.next h allocationInRange_reset
  by_cases hpass : ∃ p, c = .allocationPass p
  · obtain ⟨p, rfl⟩ := hpass
    exact Within.next h (afterPass_inRange p.held ha)
  · rw [Within, exec_figuresStand h hsoft hhard fun p hp => hpass ⟨p, hp⟩]
    exact ha

/-! ### The route's counters and pointers (R98) -/

/-- The next-group pointer and the saved one name a group of the store. -/
def RoutePos.pointersInRange (p : RoutePos) : Prop := p.next ≤ 63 ∧ ∀ k, p.cont = some k → k.next ≤ 63

section Pos
variable {p : RoutePos} {store : List (Nat × Group)}

theorem groupAfter_le (g : Nat) : groupAfter g ≤ 63 := by
  unfold groupAfter
  omega

theorem RoutePos.fetch_pointers (h : p.pointersInRange) (g : Nat) : (p.fetch store g).pointersInRange :=
  ⟨groupAfter_le g, h.2⟩

theorem RoutePos.restore_pointers (h : p.pointersInRange) : p.restore.pointersInRange := by
  unfold RoutePos.restore
  split
  · next k hk => exact ⟨h.2 k hk, fun _ hj => by cases hj⟩
  · exact h

theorem RoutePos.rollover_pointers (h : p.pointersInRange) : (p.rollover store).pointersInRange := by
  unfold RoutePos.rollover
  split
  · refine ⟨groupAfter_le _, fun k hk => ?_⟩
    obtain rfl := Option.some.inj hk
    exact h.1
  · exact h

theorem resolveFrom_pointers (fuel steps : Nat) (returned : Bool) (h : p.pointersInRange) :
    (resolveFrom store fuel steps returned p).pos.pointersInRange := by
  induction fuel generalizing steps returned p with
  | zero => exact h
  | succ fuel ih =>
    unfold resolveFrom
    split
    · split
      · exact h
      · exact ih _ _ (RoutePos.fetch_pointers h _)
    · split
      · exact h
      · exact ih _ _ (RoutePos.fetch_pointers h _)
    · split
      · exact ih _ _ (RoutePos.restore_pointers h)
      · exact h
    · exact h
    · exact h

theorem startPos_pointers (g first : Nat) : (startPos store g first).pointersInRange := by
  have hfetch : (RoutePos.reset.fetch store g).pointersInRange :=
    RoutePos.fetch_pointers ⟨Nat.zero_le _, fun _ hk => by cases hk⟩ g
  unfold startPos
  dsimp only
  split <;> exact hfetch

end Pos

theorem routeInRange.pointers {r : Rs} (h : routeInRange r) : r.pos.pointersInRange := by
  obtain ⟨-, -, -, -, hnext, hcont, -⟩ := h
  exact ⟨hnext, hcont⟩

theorem routeInRange.withPos {r : Rs} {p : RoutePos} (h : routeInRange r) (hp : p.pointersInRange) :
    routeInRange { r with pos := p } := by
  obtain ⟨hgroup, hfirst, hindex, hdebt, -, -, hadvance⟩ := h
  exact ⟨hgroup, hfirst, hindex, hdebt, hp.1, hp.2, hadvance⟩

theorem routeInRange.withIndex {r : Rs} {i : Nat} (h : routeInRange r) (hi : i ≤ 4095) :
    routeInRange { r with index := i } := by
  obtain ⟨hgroup, hfirst, -, hrest⟩ := h
  exact ⟨hgroup, hfirst, hi, hrest⟩

theorem routeInRange.withDebt {r : Rs} {d : Nat} (h : routeInRange r) (hd : d ≤ 255) :
    routeInRange { r with debt := d } := by
  obtain ⟨hgroup, hfirst, hindex, -, hrest⟩ := h
  exact ⟨hgroup, hfirst, hindex, hd, hrest⟩

theorem State.leaveHold_rs (s : State) (cause : HoldCause) : (s.leaveHold cause).rs = s.rs :=
  (s.leaveHold_acts cause).blocks .rs (by simp)

theorem State.endRouteFault_rs (s : State) : s.endRouteFault.rs = s.rs := s.endRouteFault_acts.blocks .rs (by simp)

theorem State.routeFault_routeInRange (h : routeInRange s.rs) (cause : RouteFault) :
    routeInRange (s.routeFault cause).rs := by
  obtain ⟨hgroup, hfirst, hindex, hdebt, hnext, -, hadvance⟩ := h
  exact ⟨hgroup, hfirst, hindex, hdebt, hnext, (fun _ hk => by cases hk), hadvance⟩

/-- R103 to R106: a resolution of the real route. -/
theorem State.resolveRoute_routeInRange (h : routeInRange s.rs) : routeInRange s.resolveRoute.rs := by
  unfold State.resolveRoute
  extract_lets r rs t u
  have ht : routeInRange t.rs := h.withPos (resolveFrom_pointers _ _ _ h.pointers)
  have hu : routeInRange u.rs := by
    simp only [u]
    split
    · simpa using ht
    · exact ht
  split
  · exact hu.withIndex (Nat.zero_le _)
  · exact hu.withIndex (Nat.zero_le _)
  · exact hu
  · exact State.routeFault_routeInRange hu _

theorem State.rollover_routeInRange (h : routeInRange s.rs) : routeInRange s.rollover.rs := by
  have hroll : routeInRange { s.rs with pos := s.rs.pos.rollover s.rs.store } :=
    h.withPos (RoutePos.rollover_pointers h.pointers)
  unfold State.rollover
  refine State.resolveRoute_routeInRange ?_
  split
  · simpa using hroll
  · exact hroll

theorem startPoint_inRange {g first offset : Nat} (h : routeInRange s.rs)
    (hpass : ∀ p ∈ routeStartChecks g first offset s, p.1 = false) :
    (startPoint g first s).1 ≤ 63 ∧ (startPoint g first s).2 ≤ 3 ∧ offset ≤ 4095 := by
  obtain ⟨hgroup, hfirst, -⟩ := h
  simp only [routeStartChecks, List.forall_mem_cons, Bool.and_eq_false_iff, bne_eq_false_iff_eq, decide_eq_false_iff_not,
    not_lt] at hpass
  obtain ⟨hg, hf, hoffset, -⟩ := hpass
  unfold startPoint
  split
  · exact ⟨hgroup, hfirst, hoffset⟩
  · next hne => exact ⟨hg.resolve_left hne, hf.resolve_left hne, hoffset⟩

/-- R112: the start of a route at a descriptor and offset in range. -/
theorem State.startRoute_routeInRange {g first offset : Nat} (h : routeInRange s.rs) (hg : g ≤ 63) (hf : first ≤ 3)
    (ho : offset ≤ 4095) : routeInRange (s.startRoute g first offset).rs := by
  unfold State.startRoute
  extract_lets t rs u
  have ht : t.rs = s.rs := (State.endRouteFault_rs _).trans (s.leaveHold_rs _)
  have hu : routeInRange u.rs := by
    refine State.resolveRoute_routeInRange ?_
    obtain ⟨-, -, hindex, -⟩ : routeInRange t.rs := ht ▸ h
    obtain ⟨hnext, hcont⟩ := startPos_pointers (store := t.rs.store) g first
    exact ⟨hg, hf, hindex, Nat.zero_le _, hnext, hcont, by norm_num⟩
  exact hu.withIndex ho

theorem State.stopRoute_routeInRange (h : routeInRange s.rs) : routeInRange s.stopRoute.rs := by
  have ht : (s.leaveHold .routeStop).endRouteFault.rs = s.rs := (State.endRouteFault_rs _).trans (s.leaveHold_rs _)
  obtain ⟨hgroup, hfirst, -, -, hnext, -, hadvance⟩ := ht ▸ h
  exact ⟨hgroup, hfirst, Nat.zero_le _, Nat.zero_le _, hnext, (fun _ hk => by cases hk), hadvance⟩

theorem State.abortDetour_routeInRange (h : routeInRange s.rs) : routeInRange s.abortDetour.rs := by
  unfold State.abortDetour
  split
  · have ht : routeInRange (s.leaveHold .abort).rs := (s.leaveHold_rs .abort).symm ▸ h
    have hreturn := ht.withPos (RoutePos.restore_pointers ht.pointers)
    exact (State.resolveRoute_routeInRange hreturn).withIndex (Nat.zero_le _)
  · exact h.withPos h.pointers

theorem Rs.advanced_inRange {r : Rs} (h : routeInRange r) : routeInRange r.advanced := by
  obtain ⟨hgroup, hfirst, -, hdebt, hnext, hcont, -⟩ := h
  exact ⟨hgroup, hfirst, min_le_left _ _, hdebt, hnext, hcont, Nat.mod_lt _ (by decide)⟩

theorem forwardMetre_routeInRange (hr : routeInRange s.rs) (h : exec .forwardMetreEvent s = .next t) :
    routeInRange t.rs := by
  have hdebt : s.rs.debt ≤ 255 := by
    obtain ⟨-, -, -, hdebt, -⟩ := hr
    exact hdebt
  have hmetre : routeInRange (s.withRs s.rs.advanced).rs := Rs.advanced_inRange hr
  obtain rfl := Host.Outcome.next.inj h
  split
  · split
    · exact hr.withDebt (by omega)
    · split
      · exact hr
      · dsimp only
        split
        · refine State.rollover_routeInRange ?_
          split
          · simpa using hmetre
          · exact hmetre
        · exact hmetre
  · exact hr

theorem reverseMetre_routeInRange (hr : routeInRange s.rs) (h : exec .reverseMetreEvent s = .next t) :
    routeInRange t.rs := by
  have hdebt : routeInRange (s.withRs { s.rs with debt := min 255 (s.rs.debt + 1) }).rs := hr.withDebt (min_le_left _ _)
  obtain rfl := Host.Outcome.next.inj h
  split
  · dsimp only
    split
    · exact State.routeFault_routeInRange (by rwa [State.leaveHold_rs]) _
    · exact hdebt
  · exact hr

theorem exec_routeInRange {c : Instr} (hr : Within routeInRange State.rs s) (h : exec c s = .next t) :
    Within routeInRange State.rs t := by
  by_cases hrs : Block.rs ∈ touched c
  · cases c with
    | softReset => exact Within.next h (hr.request fun u hu => hu.checked fun _ => routeInRange_reset)
    | hardReset => exact Within.next h routeInRange_reset
    | profileWrite g d0 d1 d2 d3 =>
      refine Within.next h (hr.request fun u hu => ?_)
      unfold profileWriteBody
      split
      · exact hu
      · split <;> exact hu
    | routeStart g first offset =>
      refine Within.next h (hr.request fun u hu => hu.checked fun hpass => ?_)
      obtain ⟨hg, hf, ho⟩ := startPoint_inRange hu hpass
      exact State.startRoute_routeInRange hu hg hf ho
    | routeStop => exact Within.next h (hr.request fun u hu => hu.checked fun _ => State.stopRoute_routeInRange hu)
    | insertDetour g =>
      exact Within.next h (hr.request fun u hu => hu.checked fun _ => routeInRange.withPos hu (routeInRange.pointers hu))
    | abortDetour => exact Within.next h (hr.request fun u hu => hu.checked fun _ => State.abortDetour_routeInRange hu)
    | resume =>
      refine Within.next h (hr.request fun u hu => hu.checked fun _ => State.rollover_routeInRange ?_)
      rw [State.leaveHold_rs]
      exact hu
    | forwardMetreEvent => exact forwardMetre_routeInRange hr h
    | reverseMetreEvent => exact reverseMetre_routeInRange hr h
    | _ => simp [touched] at hrs
  · rw [Within, (exec_sameBlock h hrs : t.rs = s.rs)]
    exact hr

end Sys2Proof.Machine


namespace Sys2Proof.Machine
open Sys2Proof

variable {s t : State}

/-! ### The governor's figures (R118) -/

theorem nextShortCap_inRange {cap : Nat} (hlow : 50 ≤ cap) (hhigh : cap ≤ 700) (shortfall : Nat) :
    50 ≤ nextShortCap cap shortfall ∧ nextShortCap cap shortfall ≤ 700 := by
  unfold nextShortCap
  split <;> omega

theorem nextDemand_le {demand : Nat} (h : demand ≤ 1000) (speed target : Nat) : nextDemand demand speed target ≤ 1000 := by
  unfold nextDemand
  split
  · exact min_le_left _ _
  · split <;> omega

theorem capAt_mem {remaining v : Nat} (h : capAt remaining = some v) : v ∈ [50, 100, 150, 250] := by
  unfold capAt at h
  repeat' split at h
  all_goals cases h
  all_goals decide

theorem approachCap_mem {r : Rs} {v : Nat} (h : approachCap r = some v) : v ∈ [50, 100, 150, 250] := by
  unfold approachCap at h
  split at h
  · exact capAt_mem h
  · exact capAt_mem h
  · cases h
  · cases h

theorem governorFigures_inRange (hd : governorInRange s.dg) (hshort : s.ta.shortfall ≤ 4000) (st : GovState) :
    governorInRange (s.governorFigures st) := by
  obtain ⟨hlow, hhigh, -, hdemand, -, -, htarget, hclaimed⟩ := hd
  obtain ⟨hlow', hhigh'⟩ := nextShortCap_inRange hlow hhigh s.ta.shortfall
  refine ⟨hlow', hhigh', hshort, hdemand, fun v hv => ?_, fun v hv => ?_, htarget, hclaimed⟩
  · simp only [State.governorFigures] at hv
    split at hv
    · obtain rfl := Option.some.inj hv
      exact min_le_left _ _
    · cases hv
  · simp only [State.governorFigures] at hv
    split at hv
    · exact approachCap_mem hv
    · cases hv

theorem State.governorStandsDown_inRange (hd : governorInRange s.dg) : governorInRange s.governorStandsDown.dg := by
  obtain ⟨hlow, hhigh, hlast, -, hsustainable, happroach, -, -⟩ := hd
  exact ⟨hlow, hhigh, hlast, Nat.zero_le _, hsustainable, happroach, (fun _ hv => by cases hv), fun _ hv => by cases hv⟩

/-- R128: the shortfall cap bounds the target. -/
theorem State.governorTarget_le (h : s.dg.shortCap ≤ 700) : s.governorTarget ≤ 700 := by
  unfold State.governorTarget
  dsimp only
  split
  · exact Nat.zero_le _
  · omega

theorem State.claimTarget_inRange {v : Nat} (hd : governorInRange s.dg) (hv : v ≤ 700) :
    governorInRange (s.claimTarget v).dg := by
  obtain ⟨hlow, hhigh, hlast, hdemand, hsustainable, happroach, -, hclaimed⟩ := hd
  have hsome : ∀ w, some v = some w → w ≤ 700 := fun w hw => Option.some.inj hw ▸ hv
  unfold State.claimTarget
  dsimp only
  split
  · exact ⟨hlow, hhigh, hlast, hdemand, hsustainable, happroach, hsome, hclaimed⟩
  · exact ⟨hlow, hhigh, hlast, hdemand, hsustainable, happroach, hsome, hsome⟩

theorem governorUpdate_inRange (hd : governorInRange s.dg) (hshort : s.ta.shortfall ≤ 4000)
    (h : exec .governorUpdate s = .next t) : governorInRange t.dg := by
  have hbefore : ∀ u, u = (if s.dg.state.active && !(selectedState s).active then s.governorStandsDown else s) →
      governorInRange u.dg ∧ u.ta = s.ta := by
    rintro u rfl
    split
    · exact ⟨State.governorStandsDown_inRange hd, rfl⟩
    · exact ⟨hd, rfl⟩
  obtain rfl := Host.Outcome.next.inj h
  obtain ⟨hu, hta⟩ := hbefore _ rfl
  generalize (if s.dg.state.active && !(selectedState s).active then s.governorStandsDown else s) = u at hu hta
  have hfigures : governorInRange (u.governorFigures (selectedState s)) := governorFigures_inRange hu (hta ▸ hshort) _
  split
  · have htarget := State.governorTarget_le (s := u.withDg (u.governorFigures (selectedState s))) hfigures.2.1
    obtain ⟨hlow, hhigh, hlast, hdemand, hrest⟩ :=
      State.claimTarget_inRange (s := u.withDg (u.governorFigures (selectedState s))) hfigures htarget
    exact ⟨hlow, hhigh, hlast, nextDemand_le hdemand _ _, hrest⟩
  · obtain ⟨hlow, hhigh, hlast, -, hsustainable, happroach, -, hclaimed⟩ := hfigures
    exact ⟨hlow, hhigh, hlast, Nat.zero_le _, hsustainable, happroach, (fun _ hv => by cases hv), hclaimed⟩

theorem State.setMode_inRange (hd : governorInRange s.dg) (on : Bool) : governorInRange (s.setMode on).dg := by
  unfold State.setMode
  split
  · exact hd
  · dsimp only
    split
    · exact State.governorStandsDown_inRange hd
    · exact hd

theorem State.walk_inRange (hd : governorInRange s.dg) (c : Cursor) (clear : Option Detail) :
    governorInRange (s.walk c clear).1.dg := by
  unfold State.walk State.forecastClaims
  dsimp only
  split
  · split
    · split <;> exact hd
    · exact hd
  · split <;> exact hd
  · split <;> exact hd
  · exact hd
  · exact hd

theorem exec_governorInRange {c : Instr} (hd : Within governorInRange State.dg s) (hshort : s.ta.shortfall ≤ 4000)
    (h : exec c s = .next t) : Within governorInRange State.dg t := by
  by_cases hdg : Block.dg ∈ touched c
  · cases c with
    | softReset => exact Within.next h (hd.request fun u hu => hu.checked fun _ => governorInRange_reset)
    | hardReset => exact Within.next h governorInRange_reset
    | governorMode m =>
      refine Within.next h (hd.request fun u hu => ?_)
      unfold governorModeBody
      split
      · exact hu
      · split
        · exact hu
        · exact State.setMode_inRange hu _
    | forecast a =>
      refine Within.next h (hd.request fun u hu => ?_)
      unfold forecastBody
      split
      · exact hu
      · split
        · exact State.walk_inRange hu _ _
        · exact hu
    | forecastContinue =>
      refine Within.next h (hd.request fun u hu => ?_)
      unfold forecastContinueBody
      split
      · exact hu
      · exact hu
      · exact State.walk_inRange hu _ _
    | governorUpdate => exact governorUpdate_inRange hd hshort h
    | holdReachedAtDg k =>
      refine Within.next h ?_
      split
      · exact State.claimTarget_inRange (s := s.withDg _) hd (Nat.zero_le _)
      · exact State.claimTarget_inRange (s := s.withDg _) hd (Nat.zero_le _)
      all_goals exact hd
    | routeEditEvent | latchEvent => exact Within.next h hd
    | _ => simp [touched] at hdg
  · rw [Within, (exec_sameBlock h hdg : t.dg = s.dg)]
    exact hd

/-! ### The payload's figures (R160) -/

/-- R160's ranges, with the still run at `n` samples at most. -/
structure Pm.Weighs (n : Nat) (p : Pm) : Prop where
  latched : ∀ m, p.latched = some m → m ≤ 1200
  live : p.live ≤ 1200
  winSum : p.winSum ≤ 4294967295
  winCount : p.winCount ≤ 65535
  winMetres : p.winMetres ≤ 100
  stillCount : p.stillCount ≤ n
  stillSum : p.stillSum ≤ 1200 * p.stillCount

theorem payloadInRange_iff (p : Pm) : payloadInRange p ↔ p.Weighs 39 :=
  ⟨fun ⟨hlatched, hlive, hsum, hcount, hmetres, hstill, htotal⟩ =>
    ⟨hlatched, hlive, hsum, hcount, hmetres, hstill, htotal⟩,
   fun h => ⟨h.latched, h.live, h.winSum, h.winCount, h.winMetres, h.stillCount, h.stillSum⟩⟩

section Weighs
variable {n : Nat} {p : Pm}

/-- The still run at 0. -/
theorem Pm.Weighs.restarted (h : p.Weighs n) (m : Nat) : Pm.Weighs m { p with stillSum := 0, stillCount := 0 } :=
  { h with stillCount := Nat.zero_le _, stillSum := Nat.zero_le _ }

theorem Pm.Weighs.enter (h : p.Weighs n) (m : Nat) (st : PayloadState) : (p.enter st).Weighs m :=
  { h.restarted m with }

theorem Pm.Weighs.clearWindow (h : p.Weighs n) : p.clearWindow.Weighs n :=
  { h with winSum := Nat.zero_le _, winCount := Nat.zero_le _, winMetres := Nat.zero_le _ }

theorem Pm.weigh_le (p : Pm) (x : PayloadPorts) : p.weigh x ≤ 1200 := by
  unfold Pm.weigh
  have hheld := hold_le (lo := 0) (hi := 1200) (by omega) (((x.struts.toList.map Strut.load).sum : Int) - p.sprung)
  dsimp only
  omega

theorem Pm.Weighs.read (h : p.Weighs n) (x : PayloadPorts) : (p.read x).Weighs n := by
  unfold Pm.read
  dsimp only
  split
  · exact { h with }
  · exact { h with live := p.weigh_le x }

/-- R163: a sample adds to the still run, or ends it. -/
theorem Pm.Weighs.gather (h : p.Weighs n) (still : Bool) : (p.gather still).Weighs (n + 1) := by
  unfold Pm.gather
  split
  · have hlive := h.live
    have hcount := h.stillCount
    have hsum := h.stillSum
    exact { h with stillCount := by dsimp only; omega, stillSum := by dsimp only; omega }
  · exact h.restarted _

theorem Pm.Weighs.addWindow (h : p.Weighs n) (moving : Bool) : (p.addWindow moving).Weighs n := by
  unfold Pm.addWindow
  split
  · exact { h with winSum := min_le_right _ _, winCount := min_le_right _ _ }
  · exact h

end Weighs

theorem State.claimPayload_weighs {n : Nat} (h : s.pm.Weighs n) : s.claimPayload.pm.Weighs n := { h with }

/-- R167: a latch restarts the still run and the window. -/
theorem State.latch_weighs {n : Nat} (h : s.pm.Weighs n) (mean m : Nat) : (s.latch mean).pm.Weighs m := by
  unfold State.latch
  extract_lets mass cls was st cleared p t claimed u v
  have hp : p.Weighs m :=
    { (h.enter m st).clearWindow with latched := fun w hw => Option.some.inj hw ▸ min_le_left _ _ }
  have ht : t.pm.Weighs m := State.claimPayload_weighs (s := s.withPm p) hp
  have hu : u.pm.Weighs m := by
    simp only [u, State.handCondition_frame]
    exact { ht with }
  have hv : v.pm = u.pm := by
    simp only [v]
    split <;> simp
  change v.pm.Weighs m
  rw [hv]
  exact hu

theorem State.stillRun_weighs {n : Nat} (h : s.pm.Weighs n) (mean : Nat) : (s.stillRun mean).pm.Weighs 39 := by
  have hrun : (s.withPm { s.pm with stillSum := 0, stillCount := 0 }).pm.Weighs 39 := h.restarted 39
  unfold State.stillRun
  dsimp only
  split
  · split
    · exact State.latch_weighs hrun _ _
    · exact hrun
  · split
    · exact State.latch_weighs hrun _ _
    · exact hrun
  · exact State.latch_weighs hrun _ _
  · exact State.latch_weighs hrun _ _
  · exact hrun
  · exact hrun

/-- R165, R166: the fortieth still sample ends the run. -/
theorem State.sampleWork_weighs (h : s.pm.Weighs 40) (body : Body) : (s.sampleWork body).pm.Weighs 39 := by
  unfold State.sampleWork
  dsimp only
  split
  · exact State.stillRun_weighs h _
  · next hrun =>
    have hshort : s.pm.Weighs 39 := { h with stillCount := by have := h.stillCount; omega }
    split
    · exact State.latch_weighs hshort _ _
    · split
      · exact { hshort.enter 39 .unknown with }
      · exact hshort

theorem windowMetre_weighs (dir : Travel) (hp : s.pm.Weighs 39) (h : exec (.windowMetre dir) s = .next t) :
    t.pm.Weighs 39 := by
  obtain rfl := Host.Outcome.next.inj h
  split
  · next hopen =>
    have hroom : s.pm.winMetres < 100 := of_decide_eq_true (Bool.and_eq_true_iff.1 hopen).2
    have hmetre : Pm.Weighs 39 { s.pm with winMetres := s.pm.winMetres + 1 } := { hp with winMetres := hroom }
    dsimp only
    split
    · exact State.latch_weighs (s := s.withPm _) hmetre _ _
    · exact hmetre
  · exact hp

theorem State.writeTruckMasks_weighs (hp : s.pm.Weighs 39) (m : TruckSet) : (s.writeTruckMasks m).pm.Weighs 39 := by
  unfold State.writeTruckMasks
  dsimp only
  split
  · exact hp
  · exact { hp with }

theorem setTruckMask_weighs (hp : s.pm.Weighs 39) (set : Nat) : (setTruckMask set s).1.pm.Weighs 39 := by
  refine Within.checked (p := Pm.Weighs 39) (block := State.pm) hp fun _ => ?_
  have hmask (m : TruckSet) (up : Bool) :
      (if up then (s.withPu { s.pu with masks := m }).safeStop else s.withPu { s.pu with masks := m }).pm = s.pm := by
    split <;> simp
  dsimp only
  split
  · rw [Within, hmask]
    exact hp
  · refine State.claimPayload_weighs (s := State.withPm _ _) ?_
    rw [State.withPm_pm, hmask]
    exact { hp with }

theorem exec_payloadWeighs {c : Instr} (hp : Within (Pm.Weighs 39) State.pm s) (h : exec c s = .next t) :
    Within (Pm.Weighs 39) State.pm t := by
  have hreset : Pm.reset.Weighs 39 := (payloadInRange_iff _).1 payloadInRange_reset
  by_cases hpm : Block.pm ∈ touched c
  · cases c with
    | softReset => exact Within.next h (hp.request fun u hu => hu.checked fun _ => { hreset with })
    | hardReset => exact Within.next h hreset
    | configurePayload _ _ _ _ =>
      exact Within.next h (hp.request fun u hu => hu.checked fun _ => { (hu : u.pm.Weighs 39) with })
    | setMaskStation target m =>
      refine Within.next h (hp.request fun u hu => ?_)
      unfold setMaskBody
      split
      · next n _ =>
        rw [Within, ((setStationMask_acts u n m).blocks .pm (by simp) : _ = u.pm)]
        exact hu
      · split
        · exact setTruckMask_weighs hu m
        · exact hu
    | setMaskTruck m => exact Within.next h (hp.request fun u hu => setTruckMask_weighs hu m)
    | protectionInit =>
      refine Within.next h (hp.request fun u hu => hu.checked fun _ => State.writeTruckMasks_weighs ?_ _)
      exact hu
    | windowMetre dir => exact windowMetre_weighs dir hp h
    | payloadSample x =>
      have hp : s.pm.Weighs 39 := hp
      exact Within.next h (State.sampleWork_weighs (s := s.withPm _) (((hp.read _).gather _).addWindow _) _)
    | holdReachedAtPm k =>
      have hp : s.pm.Weighs 39 := hp
      refine Within.next h ?_
      cases k with
      | load => exact { (hp.enter 39 .loading).clearWindow with }
      | dump => exact { (hp.enter 39 .dumping).clearWindow with }
      | wait => exact hp
    | holdLeftAtPm k cause =>
      have hp : s.pm.Weighs 39 := hp
      refine Within.next h ?_
      split
      · exact hp
      · split
        · split
          · exact (hp.enter 39 _).clearWindow
          · exact hp.enter 39 _
        · split
          · exact hp.enter 39 _
          · exact { hp with }
        · exact hp
    | plMaskEvent m => exact Within.next h (State.claimPayload_weighs (s := s.withPm _) { (hp : s.pm.Weighs 39) with })
    | _ => simp [touched] at hpm
  · rw [Within, (exec_sameBlock h hpm : t.pm = s.pm)]
    exact hp

end Sys2Proof.Machine


namespace Sys2Proof.Machine
open Sys2Proof

variable {s t : State}

/-! ### The steering figures (R141, R142, R145 to R155) -/

/-- `steeringInRange` by its parts. -/
structure Sc.Steers (c : Sc) : Prop where
  ordered : c.envelope.ordered = true
  rows : ∀ r ∈ c.envelope.rows, r.speed ≤ 700 ∧ r.angle ≤ 450
  assistMax : c.assistMax ≤ 150
  agreement : c.agreement ≤ 5
  sensorFault : c.sensorFault ≤ 5
  following : c.following ≤ 25
  lowCount : c.lowCount ≤ 3
  goodCount : c.goodCount ≤ 3
  sensorA : ∀ v, c.sensorA = some v → mag v ≤ 450
  sensorB : ∀ v, c.sensorB = some v → mag v ≤ 450
  measured : ∀ v, c.measured = some v → mag v ≤ 450
  wheel : ∀ v, c.wheel = some v → mag v ≤ 6000
  pressure : ∀ v, c.pressure = some v → v ≤ 350
  demanded : mag c.demanded ≤ 450
  clamped : mag c.clamped ≤ 450
  valve : mag c.valve ≤ 1000
  envAngle : c.envAngle ≤ 450
  allowed : c.allowed ≤ 700
  claimed : ∀ v, c.claimed = some v → v ≤ 700
  aim : mag c.aim ≤ 150
  bias : mag c.bias ≤ 150

theorem steeringInRange_iff (c : Sc) : steeringInRange c ↔ c.Steers := by
  simp only [steeringInRange, List.forall_mem_cons]
  constructor
  · rintro ⟨h1, h2, h3, h4, h5, h6, h7, h8, ⟨ha, hb, hm, -⟩, h9, h10, h11, h12, h13, h14, h15, h16, h17, h18⟩
    exact ⟨h1, h2, h3, h4, h5, h6, h7, h8, ha, hb, hm, h9, h10, h11, h12, h13, h14, h15, h16, h17, h18⟩
  · intro h
    exact ⟨h.ordered, h.rows, h.assistMax, h.agreement, h.sensorFault, h.following, h.lowCount, h.goodCount,
      ⟨h.sensorA, h.sensorB, h.measured, fun _ hx => absurd hx List.not_mem_nil⟩, h.wheel, h.pressure, h.demanded,
      h.clamped, h.valve, h.envAngle, h.allowed, h.claimed, h.aim, h.bias⟩

theorem mag_hold_le {b : Nat} (x : Int) : mag (hold (-(b : Int)) b x) ≤ b := by
  have hlow := le_hold (lo := -(b : Int)) (hi := b) x
  have hhigh := hold_le (lo := -(b : Int)) (hi := b) (by omega) x
  unfold mag
  omega

theorem AnglePort.sensor_le {x : AnglePort} {v : Int} (h : x.sensor = some v) : mag v ≤ 450 := by
  unfold AnglePort.sensor at h
  split at h
  · obtain rfl := Option.some.inj h
    exact mag_hold_le (b := 450) _
  · cases h

theorem AnglePort.operator_le {x : AnglePort} {v : Int} (h : x.operator = some v) : mag v ≤ 6000 := by
  unfold AnglePort.operator at h
  split at h
  · next hin =>
    obtain rfl := Option.some.inj h
    simp only [Bool.and_eq_true, decide_eq_true_eq] at hin
    unfold mag
    omega
  · cases h

/-- The mean of two angles in range is in range. -/
theorem mag_mean_le {p q : Int} {b : Nat} (hp : mag p ≤ b) (hq : mag q ≤ b) : mag (divZ (p + q) 2) ≤ b := by
  unfold mag divZ at *
  have hhalf : ((p + q).tdiv 2).natAbs = (p + q).natAbs / 2 := Int.natAbs_tdiv _ _
  omega

theorem EnvTable.limitAt_le {e : EnvTable} (h : ∀ r ∈ e.rows, r.speed ≤ 700 ∧ r.angle ≤ 450) (speed : Nat) :
    e.limitAt speed ≤ 450 := by
  unfold EnvTable.limitAt
  cases hlast : (e.rows.filter fun r => decide (r.speed ≤ speed)).getLast? with
  | none => exact (h e.r0 (by simp [EnvTable.rows])).2
  | some r => exact (h r (List.mem_of_mem_filter (List.mem_of_getLast? hlast))).2

theorem EnvTable.allowedAt_le {e : EnvTable} (h : ∀ r ∈ e.rows, r.speed ≤ 700 ∧ r.angle ≤ 450) (angle : Nat) :
    e.allowedAt angle ≤ 700 := by
  unfold EnvTable.allowedAt
  split
  · next r hr => exact (h r (List.mem_of_find?_eq_some hr)).1
  · exact le_rfl

section Steers
variable {c : Sc}

theorem Sc.Steers.read (h : c.Steers) (x : SteerPorts) : (c.read x).Steers :=
  { h with
    sensorA := fun _ hv => AnglePort.sensor_le hv
    sensorB := fun _ hv => AnglePort.sensor_le hv
    wheel := fun _ hv => AnglePort.operator_le hv
    pressure := fun _ hv => Option.some.inj hv ▸ min_le_left _ _
    measured := fun v hv => by
      simp only [Sc.read, Option.bind_eq_some_iff, Option.map_eq_some_iff] at hv
      obtain ⟨p, hp, q, hq, rfl⟩ := hv
      exact mag_mean_le (AnglePort.sensor_le hp) (AnglePort.sensor_le hq) }

theorem Sc.Steers.countPressure (h : c.Steers) : c.countPressure.Steers :=
  { h with
    lowCount := by
      simp only [Sc.countPressure]
      split <;> omega
    goodCount := by
      simp only [Sc.countPressure]
      split <;> omega }

theorem Sc.Steers.demand (h : c.Steers) (speed : Nat) : (c.demand speed).Steers :=
  { h with
    demanded := by
      simp only [Sc.demand]
      split
      · exact mag_hold_le (b := 450) _
      · exact h.demanded
    clamped := (mag_hold_le _).trans (EnvTable.limitAt_le h.rows speed) }

theorem Sc.Steers.drive (h : c.Steers) : c.drive.Steers := by
  unfold Sc.drive
  split
  · exact { h with valve := mag_hold_le (b := 1000) _ }
  · exact h

theorem Sc.Steers.follow (h : c.Steers) : c.follow.Steers := by
  unfold Sc.follow
  split
  · split
    · exact { h with following := min_le_left _ _ }
    · exact { h with following := Nat.zero_le _ }
  · exact h

theorem Sc.Steers.backup (h : c.Steers) (st : SteerState) : (c.backup st).Steers :=
  { h with
    valve := Nat.zero_le _
    following := Nat.zero_le _
    sensorFault := Nat.zero_le _
    agreement := Nat.zero_le _ }

theorem Sc.Steers.align (h : c.Steers) (speed : Nat) : (c.align speed).Steers := by
  unfold Sc.align
  split
  · split
    · refine Sc.Steers.drive (Sc.Steers.demand ?_ speed)
      exact { h with agreement := Nat.zero_le _, following := Nat.zero_le _, sensorFault := Nat.zero_le _ }
    · next hfew => exact { h with agreement := by dsimp only; omega }
  · exact { h with agreement := Nat.zero_le _ }

theorem Sc.Steers.steer (h : c.Steers) (speed : Nat) : (c.steer speed).Steers := by
  unfold Sc.steer
  extract_lets n
  split
  · exact h.backup _
  · next hfew =>
    have hcount : n ≤ 5 := by omega
    exact (Sc.Steers.demand (c := { c with sensorFault := n }) { h with sensorFault := hcount } speed).drive.follow

theorem Sc.Steers.stateWork (h : c.Steers) (speed : Nat) : (c.stateWork speed).Steers := by
  unfold Sc.stateWork
  split
  · exact h.align speed
  · exact h.steer speed
  · exact h.steer speed
  · exact h

theorem Sc.Steers.angleSteered_le (h : c.Steers) : c.angleSteered ≤ 450 := by
  have hworse : (match c.sensorA, c.sensorB with
      | some a, some b => max (mag a) (mag b)
      | some a, none => mag a
      | none, some b => mag b
      | none, none => 450) ≤ 450 := by
    split
    · next ha hb => exact max_le (h.sensorA _ ha) (h.sensorB _ hb)
    · next ha _ => exact h.sensorA _ ha
    · next _ hb => exact h.sensorB _ hb
    · exact le_rfl
  unfold Sc.angleSteered
  dsimp only
  split
  · next hm => exact h.measured _ hm
  · next hm => exact h.measured _ hm
  · exact hworse

theorem Sc.Steers.envelopeValues (h : c.Steers) (st sp : Bool) : (c.envelopeValues st sp).Steers :=
  { h with envAngle := h.angleSteered_le, allowed := EnvTable.allowedAt_le h.rows _ }

theorem Sc.Steers.aimAt_le (h : c.Steers) (speed : Nat) : mag (c.aimAt speed) ≤ 150 := by
  unfold Sc.aimAt
  split
  · exact Nat.zero_le _
  · split
    · next m _ =>
      have hmost := h.assistMax
      unfold mag
      rw [Int.natAbs_mul]
      have hsign : m.sign.natAbs ≤ 1 := by
        rw [Int.natAbs_sign]
        split <;> omega
      calc m.sign.natAbs * ((min c.assistMax (c.assistGain * m.natAbs / 10) : Nat) : Int).natAbs
          ≤ 1 * ((min c.assistMax (c.assistGain * m.natAbs / 10) : Nat) : Int).natAbs := Nat.mul_le_mul_right _ hsign
        _ ≤ 150 := by omega
    · exact Nat.zero_le _

theorem Sc.Steers.assist (h : c.Steers) (speed : Nat) (live : Bool) : (c.assist speed live).Steers :=
  { h with
    aim := h.aimAt_le speed
    bias := by
      simp only [Sc.assist]
      split
      · have haim := h.aimAt_le speed
        have hbias := h.bias
        unfold hold mag at *
        omega
      · exact Nat.zero_le _ }

theorem Sc.Steers.closeUpdate (h : c.Steers) : c.closeUpdate.Steers := { h with }

/-- R159: a soft reset keeps the envelope and the assist maximum. -/
theorem Sc.Steers.softReset (h : c.Steers) : c.softReset.Steers :=
  { (steeringInRange_iff _).1 steeringInRange_reset with ordered := h.ordered, rows := h.rows, assistMax := h.assistMax }

end Steers

theorem State.steerConditions_steers (h : s.sc.Steers) : s.steerConditions.sc.Steers := by
  simp only [State.steerConditions, State.handCondition_frame]
  exact { h with }

theorem State.claimEnvelope_steers (h : s.sc.Steers) : s.claimEnvelope.sc.Steers := by
  unfold State.claimEnvelope
  dsimp only
  split
  · next hlow =>
    split
    · exact h
    · exact { h with claimed := fun v hv => Option.some.inj hv ▸ hlow.le }
  · split
    · exact { h with claimed := fun _ hv => by cases hv }
    · exact h

theorem State.steeringClear_steers (h : s.sc.Steers) : s.steeringClear.sc.Steers := by
  unfold State.steeringClear
  dsimp only
  split
  · rw [((State.takeCondition_acts _ _ _ _).blocks .sc (by simp) : _ = (s.withSc _).sc)]
    exact { h.backup .align with }
  · exact h

theorem clearTruck_steers (h : s.sc.Steers) : (clearTruck s).1.sc.Steers := by
  refine Within.checked (p := Sc.Steers) (block := State.sc) h fun _ => ?_
  have hgrid : s.gridClear.1.sc = s.sc := s.gridClear_acts.blocks .sc (by simp)
  rw [Within, ((State.clearTruckFlags_acts _).blocks .sc (by simp) : _ = s.gridClear.1.steeringClear.sc)]
  exact State.steeringClear_steers (hgrid ▸ h)

/-- R153: a table that passes the checks is well-formed, and its rows are in range. -/
theorem envelopeChecks_pass {e : EnvTable} (h : ∀ x ∈ envelopeChecks e, x.1 = false) :
    e.ordered = true ∧ ∀ r ∈ e.rows, r.speed ≤ 700 ∧ r.angle ≤ 450 := by
  simp only [envelopeChecks, List.forall_mem_cons, bne_eq_false_iff_eq] at h
  obtain ⟨hrange, hfirst, hspeeds, hangles, -⟩ := h
  refine ⟨?_, fun r hr => ?_⟩
  · simp only [EnvTable.ordered, Bool.and_eq_true, beq_iff_eq, Option.isNone_iff_eq_none]
    simp only [Option.isSome_eq_false_iff, Option.isNone_iff_eq_none] at hspeeds hangles
    exact ⟨⟨hfirst, hspeeds⟩, hangles⟩
  · rw [Option.isSome_eq_false_iff, Option.isNone_iff_eq_none, List.findIdx?_eq_none_iff] at hrange
    have hrow := hrange r hr
    simp only [Bool.or_eq_false_iff, decide_eq_false_iff_not, not_lt] at hrow
    exact hrow

theorem steeringUpdate_steers (x : SteerPorts) (hs : s.sc.Steers) (h : exec (.steeringUpdate x) s = .next t) :
    t.sc.Steers := by
  obtain rfl := Host.Outcome.next.inj h
  have hwork : (s.withSc (((s.sc.read x).countPressure).stateWork s.ta.speed)).sc.Steers :=
    ((hs.read x).countPressure).stateWork _
  have hvalues := (State.steerConditions_steers hwork).envelopeValues s.pu.flags.st s.pu.flags.sp
  exact ((State.claimEnvelope_steers (s := State.withSc _ _) hvalues).assist _ _).closeUpdate

theorem exec_steers {c : Instr} (hc : Within Sc.Steers State.sc s) (h : exec c s = .next t) :
    Within Sc.Steers State.sc t := by
  by_cases hsc : Block.sc ∈ touched c
  · cases c with
    | softReset => exact Within.next h (hc.request fun u hu => hu.checked fun _ => Sc.Steers.softReset hu)
    | hardReset => exact Within.next h ((steeringInRange_iff _).1 steeringInRange_reset)
    | configureSteering ratio gain ramp most reserve =>
      refine Within.next h (hc.request fun u hu => hu.checked fun hpass => ?_)
      simp only [configureSteeringChecks, List.forall_mem_cons, decide_eq_false_iff_not, not_lt] at hpass
      obtain ⟨-, -, -, -, hmost, -⟩ := hpass
      exact { (hu : u.sc.Steers) with assistMax := hmost }
    | steerEnvelope e =>
      refine Within.next h (hc.request fun u hu => hu.checked fun hpass => ?_)
      obtain ⟨hordered, hrows⟩ := envelopeChecks_pass hpass
      exact { (hu : u.sc.Steers) with ordered := hordered, rows := hrows }
    | setAssist _ _ =>
      exact Within.next h (hc.request fun u hu => hu.checked fun _ => { (hu : u.sc.Steers) with })
    | clearFaultsStation target =>
      refine Within.next h (hc.request fun u hu => ?_)
      unfold clearFaultsBody
      split
      · next n _ =>
        rw [Within, ((clearStation_acts u n).blocks .sc (by simp) : _ = u.sc)]
        exact hu
      · split
        · exact clearTruck_steers hu
        · exact hu
    | clearFaultsTruck => exact Within.next h (hc.request fun u hu => clearTruck_steers hu)
    | steeringUpdate x => exact steeringUpdate_steers x hc h
    | _ => simp [touched] at hsc
  · rw [Within, (exec_sameBlock h hsc : t.sc = s.sc)]
    exact hc

end Sys2Proof.Machine


namespace Sys2Proof.Machine
open Sys2Proof

variable {s t : State}

/-! ### The banks' figures (R74, R78 to R84) -/

/-- A bank's figures against its capacity; `leads` says that the bank is lead. -/
structure BankRec.Holds (cap : Nat) (leads : Prop) (b : BankRec) : Prop where
  heat : b.heat ≤ cap
  chopper : b.chopper ≤ 1000
  blowerSpeed : b.blowerSpeed ≤ 100
  blowerCount : b.blowerCount ≤ 20
  openCount : b.openCount ≤ 3
  checkTimer : ∀ d, b.checkTimer = some d → d ≤ 200
  leadEnergy : b.leadEnergy ≤ 1000
  leadRem : b.leadRem ≤ 99
  idle : ¬leads → b.leadEnergy = 0 ∧ b.leadRem = 0

/-- `gridInRange` by its parts. -/
structure Gd.Holds (g : Gd) : Prop where
  bank : ∀ k, (g.banks.get k).Holds (g.cfg.capacity.get k) (g.lead = some k)
  unabsorbed : g.unabsorbed ≤ 12000
  dcLink : g.dcLink ≤ 4000
  ovCount : g.ovCount ≤ 2
  dvStands : g.dvValue.isSome ↔ g.ovCount = 2
  dvValue : ∀ v, g.dvValue = some v → 200 ≤ v ∧ v ≤ 900
  gridValue : ∀ v, g.gridValue = some v → v ≤ 1000

theorem gridInRange_iff (g : Gd) : gridInRange g ↔ g.Holds := by
  constructor
  · rintro ⟨hbank, hun, hdc, hov, hstands, hdv, hgrid⟩
    refine ⟨fun k => ?_, hun, hdc, hov, hstands, hdv, hgrid⟩
    obtain ⟨⟨hheat, hchopper, hspeed, hcount, hopen, htimer, henergy, hrem⟩, hidle⟩ := hbank k
    exact ⟨hheat, hchopper, hspeed, hcount, hopen, htimer, henergy, hrem, hidle⟩
  · intro h
    refine ⟨fun k => ?_, h.unabsorbed, h.dcLink, h.ovCount, h.dvStands, h.dvValue, h.gridValue⟩
    have hk := h.bank k
    exact ⟨⟨hk.heat, hk.chopper, hk.blowerSpeed, hk.blowerCount, hk.openCount, hk.checkTimer, hk.leadEnergy, hk.leadRem⟩,
      hk.idle⟩

section Bank
variable {cap : Nat} {leads : Prop} {b : BankRec}

theorem BankRec.reset_holds (cap : Nat) (leads : Prop) : BankRec.reset.Holds cap leads := by
  constructor <;> simp [BankRec.reset]

/-- R81: a bank that takes or loses the lead. -/
theorem BankRec.Holds.noLead (h : b.Holds cap leads) (leads' : Prop) : b.noLead.Holds cap leads' :=
  { h with leadEnergy := Nat.zero_le _, leadRem := Nat.zero_le _, idle := fun _ => ⟨rfl, rfl⟩ }

theorem BankRec.Holds.startCheck (h : b.Holds cap leads) : b.startCheck.Holds cap leads :=
  { h with
    chopper := (by decide : 200 ≤ 1000)
    openCount := Nat.zero_le _
    checkTimer := fun _ hd => (Option.some.inj hd).symm.le }

theorem BankRec.Holds.endCheck (h : b.Holds cap leads) (rated c : Nat) (st : BankState) :
    (b.endCheck rated c st).Holds cap leads :=
  { h with chopper := Nat.zero_le _, checkTimer := fun _ hd => by cases hd }

theorem BankRec.Holds.assign (h : b.Holds cap leads) (rated share : Nat) : (b.assign rated share).Holds cap leads := by
  unfold BankRec.assign
  split
  · exact { h with chopper := min_le_left _ _ }
  · exact { h with }

theorem BankRec.Holds.addLead (h : b.Holds cap leads) (share : Nat) : (b.addLead share).Holds cap True :=
  { h with
    leadEnergy := min_le_left _ _
    leadRem := Nat.le_of_lt_succ (Nat.mod_lt _ (by decide))
    idle := fun hnot => absurd trivial hnot }

theorem BankRec.Holds.lead_congr {leads' : Prop} (h : b.Holds cap leads) (hlead : leads ↔ leads') : b.Holds cap leads' :=
  propext hlead ▸ h

theorem BankRec.Holds.heatStep (h : b.Holds cap leads) (cooling altitude : Nat) :
    (b.heatStep cap cooling altitude).Holds cap leads :=
  { h with heat := min_le_left _ _ }

theorem BankRec.Holds.blowerStep (h : b.Holds cap leads) {speed : Nat} (hspeed : speed ≤ 100) :
    (b.blowerStep cap speed).Holds cap leads :=
  { h with
    blowerSpeed := hspeed
    blowerCount := by
      simp only [BankRec.blowerStep]
      split
      · exact min_le_left _ _
      · exact Nat.zero_le _ }

theorem BankRec.Holds.openStep (h : b.Holds cap leads) (current : Nat) : (b.openStep current).Holds cap leads := by
  unfold BankRec.openStep
  split
  · split
    · split
      · exact { h with chopper := Nat.zero_le _, openCount := Nat.zero_le _ }
      · next hfew => exact { h with openCount := by dsimp only; omega }
    · exact { h with openCount := Nat.zero_le _ }
  · exact { h with openCount := Nat.zero_le _ }

theorem BankRec.Holds.availStep (h : b.Holds cap leads) (rated c : Nat) : (b.availStep rated c).Holds cap leads :=
  { h with }

theorem BankRec.Holds.timerSteps {cfg : GridCfg} {k : Bank} (h : b.Holds (cfg.capacity.get k) leads) (x : GridPorts) :
    (b.timerSteps cfg k x).Holds (cfg.capacity.get k) leads :=
  (((h.heatStep _ _).blowerStep (min_le_left _ _)).openStep _).availStep _ _

theorem BankRec.Holds.tick (h : b.Holds cap leads) :
    BankRec.Holds cap leads { b with checkTimer := Machine.tick b.checkTimer } :=
  { h with
    checkTimer := fun d hd => by
      obtain ⟨x, hx, rfl⟩ := Option.map_eq_some_iff.1 hd
      have := h.checkTimer x hx
      omega }

end Bank

/-! ### GD's figures (R74, R76, R80, R81, R86 to R88) -/

section Grid
variable {g : Gd}

/-- The banks replaced, each within its figures. -/
theorem Gd.Holds.withBanks (h : g.Holds) {banks : PerBank BankRec}
    (hbanks : ∀ k, (banks.get k).Holds (g.cfg.capacity.get k) (g.lead = some k)) : Gd.Holds { g with banks := banks } :=
  { h with bank := hbanks }

theorem Gd.Holds.mapBanks (h : g.Holds) {f : Bank → BankRec}
    (hf : ∀ k, (f k).Holds (g.cfg.capacity.get k) (g.lead = some k)) : Gd.Holds { g with banks := .of f } :=
  h.withBanks fun k => by
    rw [PerBank.get_of]
    exact hf k

theorem Gd.Holds.setBank (h : g.Holds) {k : Bank} {b : BankRec} (hb : b.Holds (g.cfg.capacity.get k) (g.lead = some k)) :
    Gd.Holds { g with banks := g.banks.set k b } :=
  h.withBanks fun j => by
    rw [PerBank.get_set]
    split
    · next hj => exact hj ▸ hb
    · exact h.bank j

/-- R81: the lead moved, every bank's lead energy at 0. -/
theorem Gd.Holds.moveLead (h : g.Holds) (lead : Option Bank) :
    Gd.Holds { g with lead := lead, banks := .of fun k => (g.banks.get k).noLead } :=
  { h with
    bank := fun k => by
      dsimp only
      rw [PerBank.get_of]
      exact (h.bank k).noLead _ }

theorem Gd.Holds.settle (h : g.Holds) : g.settle.Holds := by
  unfold Gd.settle
  dsimp only
  split
  · exact h
  · exact h.moveLead _

theorem Gd.Holds.countLead (h : g.Holds) : g.countLead.Holds := by
  unfold Gd.countLead
  split
  · exact h
  · next l hl =>
    dsimp only
    split
    · split
      · exact h.setBank ((h.bank l).noLead _)
      · exact h.moveLead _
    · exact h.setBank (((h.bank l).addLead _).lead_congr (iff_of_true trivial hl))

theorem Gd.Holds.dispatch (h : g.Holds) {p : Nat} (hp : p ≤ 12000) : (g.dispatch p).Holds := by
  have hassigned := h.mapBanks fun k => (h.bank k).assign (g.cfg.rated.get k) ((g.shares p).get k)
  refine Gd.Holds.countLead { hassigned with unabsorbed := ?_ }
  dsimp only
  omega

theorem Gd.Holds.configure (h : g.Holds) (c : GridCfg) : (g.configure c).Holds :=
  { h with
    bank := fun k => by
      simp only [Gd.configure, PerBank.get_of]
      exact { h.bank k with heat := min_le_right _ _ } }

/-- R93: a soft reset keeps the heats under the capacities it keeps. -/
theorem Gd.Holds.softReset (h : g.Holds) : g.softReset.Holds :=
  { (gridInRange_iff _).1 gridInRange_reset with
    bank := fun k => by
      simp only [Gd.softReset, PerBank.get_of]
      exact { BankRec.reset_holds (g.cfg.capacity.get k) (Gd.reset.lead = some k) with heat := (h.bank k).heat } }

end Grid

theorem State.publishGrid_holds (h : s.gd.Holds) : s.publishGrid.gd.Holds := { h with }

/-- R86: the GRID value is the one held or a record's. -/
theorem State.evalGrid_holds (h : s.gd.Holds) : s.evalGrid.gd.Holds := by
  have hvalue := Gd.recordValue_le s.gd
  unfold State.evalGrid
  dsimp only
  split
  · split
    · exact { h with gridValue := fun v hv => Option.some.inj hv ▸ hvalue }
    · exact h
  · split
    · exact { h with gridValue := fun _ hv => by cases hv }
    · exact h

theorem State.testGf_holds (h : s.gd.Holds) (atOnce : Bool) : (s.testGf atOnce).gd.Holds := by
  unfold State.testGf
  dsimp only
  split
  · simp only [State.takeCondition_frame]
    exact { h with }
  · simp only [State.handCondition_frame]
    exact { h with }

theorem State.testGt_holds (h : s.gd.Holds) : s.testGt.gd.Holds := by
  simp only [State.testGt, State.handCondition_frame]
  exact { h with }

theorem State.startCheck_holds (h : s.gd.Holds) (k : Bank) : (s.startCheck k).gd.Holds := by
  have hset : (s.setBank k (s.bank k).startCheck).gd.Holds := h.setBank (h.bank k).startCheck
  exact State.publishGrid_holds (State.evalGrid_holds (s := State.withGd _ _) hset.settle)

theorem State.beginArm_holds (h : s.gd.Holds) : s.beginArm.gd.Holds := by
  have harming : (s.withTa { s.ta with state := .arming }).gd.Holds := h
  exact State.testGf_holds (State.startCheck_holds (State.startCheck_holds harming .a) .b) false

theorem State.gridClear_holds (h : s.gd.Holds) : s.gridClear.1.gd.Holds := by
  unfold State.gridClear
  extract_lets cleared src t fa fb u v
  have ht : t.gd.Holds := h.mapBanks fun k => { h.bank k with blowerCount := Nat.zero_le _ }
  have hu : u.gd.Holds := by
    simp only [u]
    split
    · exact State.startCheck_holds ht .a
    · exact ht
  have hv : v.gd.Holds := by
    simp only [v]
    split
    · exact State.startCheck_holds hu .b
    · exact hu
  exact State.testGf_holds hv true

theorem State.endCheck_holds (h : s.gd.Holds) (k : Bank) (st : BankState) : (s.endCheck k st).gd.Holds := by
  have hset : (s.setBank k ((s.bank k).endCheck (s.gd.cfg.rated.get k) (s.gd.cfg.capacity.get k) st)).gd.Holds :=
    h.setBank ((h.bank k).endCheck _ _ st)
  unfold State.endCheck
  rw [((State.checkCompletion_acts _).blocks .gd (by simp) : (State.checkCompletion _).gd = _)]
  exact State.publishGrid_holds (State.testGf_holds (State.evalGrid_holds (s := State.withGd _ _) hset.settle) false)

theorem State.bankTimer_holds (h : s.gd.Holds) (k : Bank) (x : GridPorts) : (s.bankTimer k x).gd.Holds := by
  have hset : (s.setBank k ((s.bank k).timerSteps s.gd.cfg k x)).gd.Holds := h.setBank ((h.bank k).timerSteps x)
  exact State.testGf_holds (s := State.withGd _ _) hset.settle false

theorem State.dispatchPower_holds (h : s.gd.Holds) {p : Nat} (hp : p ≤ 12000) : (s.dispatchPower p).gd.Holds := by
  have ht : (s.withGd (s.gd.dispatch p)).gd.Holds := h.dispatch hp
  unfold State.dispatchPower
  dsimp only
  split
  · exact State.publishGrid_holds ht
  · exact ht

/-- R88: the DV value stands from the second reading above the maximum to the first one below it. -/
theorem State.countOverVoltage_holds (h : s.gd.Holds) {volts : Nat} (hv : volts ≤ 4000) :
    (s.countOverVoltage volts).gd.Holds := by
  have hstands := h.dvStands
  have hcount := h.ovCount
  have hnone : s.gd.ovCount ≠ 2 → s.gd.dvValue = none := fun hne => by
    rwa [← Option.not_isSome_iff_eq_none, hstands]
  unfold State.countOverVoltage
  dsimp only
  split
  · split
    · next h0 => exact { h with dcLink := hv, ovCount := (by decide : 1 ≤ 2), dvStands := by simp [hnone (by omega)] }
    · exact { h with
        dcLink := hv, ovCount := le_rfl, dvStands := by simp,
        dvValue := fun v hv => by obtain rfl := Option.some.inj hv; decide }
    · next h0 h1 =>
      have h2 : s.gd.ovCount = 2 := by
        have : s.gd.ovCount ≠ 0 := h0
        have : s.gd.ovCount ≠ 1 := h1
        omega
      obtain ⟨w, hw⟩ := Option.isSome_iff_exists.1 (hstands.2 h2)
      have hwmem := h.dvValue w hw
      exact { h with
        dcLink := hv, dvStands := by simp [h2],
        dvValue := fun v hv => by
          obtain rfl := Option.some.inj hv
          rw [hw, Option.getD_some]
          omega }
  · split
    · exact { h with dcLink := hv, ovCount := (by decide : 0 ≤ 2), dvStands := by simp, dvValue := fun _ hv => by cases hv }
    · next hne => exact { h with dcLink := hv, ovCount := (by decide : 0 ≤ 2), dvStands := by simp [hnone hne] }

theorem clearTruck_holds (h : s.gd.Holds) : (clearTruck s).1.gd.Holds := by
  refine Within.checked (p := Gd.Holds) (block := State.gd) h fun _ => ?_
  rw [Within, ((State.clearTruckFlags_acts _).blocks .gd (by simp) : (State.clearTruckFlags _).gd = _),
    ((State.steeringClear_acts _).blocks .gd (by simp) : (State.steeringClear _).gd = _)]
  exact State.gridClear_holds h

theorem exec_gridHolds {c : Instr} (hg : Within Gd.Holds State.gd s) (h : exec c s = .next t) :
    Within Gd.Holds State.gd t := by
  by_cases hgd : Block.gd ∈ touched c
  · cases c with
    | softReset => exact Within.next h (hg.request fun u hu => hu.checked fun _ => Gd.Holds.softReset hu)
    | hardReset => exact Within.next h ((gridInRange_iff _).1 gridInRange_reset)
    | arm => exact Within.next h (hg.longRequest fun u hu => State.beginArm_holds hu)
    | configureGrid r =>
      exact Within.next h (hg.request fun u hu => hu.checked fun _ => Gd.Holds.configure hu _)
    | setBankOrder code =>
      refine Within.next h (hg.request fun u hu => ?_)
      unfold bankOrderBody
      split
      · exact hu
      · exact Gd.Holds.settle { (hu : u.gd.Holds) with }
    | clearFaultsStation target =>
      refine Within.next h (hg.request fun u hu => ?_)
      unfold clearFaultsBody
      split
      · next n _ =>
        rw [Within, ((clearStation_acts u n).blocks .gd (by simp) : _ = u.gd)]
        exact hu
      · split
        · exact clearTruck_holds hu
        · exact hu
    | clearFaultsTruck => exact Within.next h (hg.request fun u hu => clearTruck_holds hu)
    | allocationPass p =>
      have hbank := (hg : s.gd.Holds).bank
      exact Within.next h (Gd.Holds.mapBanks hg fun k => (hbank k).tick)
    | powerArrival p volts =>
      exact Within.next h
        (State.countOverVoltage_holds (State.dispatchPower_holds hg (min_le_left _ _)) (min_le_left _ _))
    | gridTimer x =>
      exact Within.next h (State.testGt_holds (State.evalGrid_holds (State.publishGrid_holds
        (State.bankTimer_holds (State.bankTimer_holds hg .a x.a) .b x.b))))
    | bankCurrentSeen k | checkTimerExpiry k =>
      refine Within.next h ?_
      split
      · exact State.endCheck_holds hg k _
      · exact hg
    | _ => simp [touched] at hgd
  · rw [Within, (exec_sameBlock h hgd : t.gd = s.gd)]
    exact hg

end Sys2Proof.Machine


namespace Sys2Proof.Machine
open Sys2Proof

variable {s t : State}

/-! ### The stations' counters, timers and settings (R52), and the grant last sent -/

/-- `stationInRange` by its parts; under `bound` the grant last sent is bounded too. -/
structure StationCtx.Keeps (bound : Prop) (x : StationCtx) : Prop where
  roll : x.roll ≤ 15
  lastTwo : x.lastTwo.length ≤ 2
  counters : ∀ c ∈ x.lastTwo, c ≤ 15
  deadline : ∀ d, x.deadline = some d → d ≤ 50
  parkTimer : ∀ d, x.parkTimer = some d → d ≤ 3000
  settings : x.settings.inRange
  parkSlot : ∀ p, x.parkSlot = some p → p.inRange
  grant : bound → mag x.lastGrant ≤ 1000

/-- Every station's context is within its figures. -/
def StationsKeep (bound : Prop) (sm : PerStation StationCtx) : Prop := ∀ n, (sm.get n).Keeps bound

theorem stationsKeep_iff (bound : Prop) (s : State) :
    StationsKeep bound s.sm ↔
      (∀ n, stationInRange (s.station n)) ∧ (bound → ∀ n, mag (s.station n).lastGrant ≤ 1000) := by
  constructor
  · intro h
    refine ⟨fun n => ?_, fun hb n => (h n).grant hb⟩
    have hn := h n
    exact ⟨hn.roll, hn.lastTwo, hn.counters, hn.deadline, hn.parkTimer, hn.settings, hn.parkSlot⟩
  · rintro ⟨hrange, hgrant⟩ n
    obtain ⟨hroll, htwo, hcounters, hdeadline, htimer, hsettings, hslot⟩ := hrange n
    exact ⟨hroll, htwo, hcounters, hdeadline, htimer, hsettings, hslot, fun hb => hgrant hb n⟩

section Stations
variable {bound : Prop} {x : StationCtx} {n : Station}

theorem StationCtx.reset_keeps (bound : Prop) : StationCtx.reset.Keeps bound := by
  constructor <;> simp [StationCtx.reset, Settings.inRange, Settings.default, mag]

theorem Settings.default_inRange : Settings.default.inRange := by simp [Settings.inRange, Settings.default]

theorem Option.getD_inRange {o : Option Settings} (h : ∀ p, o = some p → p.inRange) :
    (o.getD Settings.default).inRange := by
  cases o with
  | none => exact Settings.default_inRange
  | some p => exact h p rfl

/-- R57: a frame sent; its counter is among the last two. -/
theorem StationCtx.Keeps.send (h : x.Keeps bound) (n : Station) (travel : Travel) {grant : Int} (enable : Bool)
    (hgrant : bound → mag grant ≤ 1000) : (x.send n travel grant enable).Keeps bound :=
  { h with
    roll := Nat.le_of_lt_succ (Nat.mod_lt _ (by decide))
    lastTwo := by
      have := h.lastTwo
      simp only [StationCtx.send, List.length_drop, List.length_append, List.length_cons, List.length_nil]
      omega
    counters := fun c hc => by
      have hmem := List.mem_of_mem_drop hc
      rw [List.mem_append, List.mem_singleton] at hmem
      rcases hmem with hold | rfl
      · exact h.counters c hold
      · exact h.roll
    grant := hgrant }

theorem tick_le {o : Option Nat} {b d : Nat} (h : ∀ x, o = some x → x ≤ b) (hd : tick o = some d) : d ≤ b := by
  obtain ⟨x, hx, rfl⟩ := Option.map_eq_some_iff.1 hd
  exact (Nat.sub_le _ _).trans (h x hx)

theorem State.setStation_keeps (h : StationsKeep bound s.sm) (hx : x.Keeps bound) :
    StationsKeep bound (s.setStation n x).sm := fun m => by
  change ((s.sm.set n x).get m).Keeps bound
  rw [PerStation.get_set]
  split
  · exact hx
  · exact h m

theorem State.enter_keeps (h : StationsKeep bound s.sm) (n : Station) (st : StationState) :
    StationsKeep bound (s.enter n st).sm := by
  simp only [State.enter, State.setPuStation_frame]
  exact State.setStation_keeps h { h n with }

theorem State.sendDisable_keeps (h : StationsKeep bound s.sm) (n : Station) :
    StationsKeep bound (s.sendDisable n).sm :=
  State.setStation_keeps h ((h n).send n _ false fun _ => Nat.zero_le _)

theorem State.trip_keeps (h : StationsKeep bound s.sm) (n : Station) : StationsKeep bound (s.trip n).sm :=
  State.sendDisable_keeps (State.enter_keeps h n _) n

/-- R62: the settings go into the park slot, and the defaults take their place. -/
theorem State.completePark_keeps (h : StationsKeep bound s.sm) (n : Station) (cls : ReplyClass) (d : Option Detail) :
    StationsKeep bound (s.completePark n cls d).sm := by
  unfold State.completePark
  extract_lets x s1 s2
  have hs1 : StationsKeep bound s1.sm := State.setStation_keeps h { h n with
    parkTimer := fun _ hd => by cases hd
    settings := Settings.default_inRange
    parkSlot := fun _ hp => Option.some.inj hp ▸ (h n).settings }
  have hs2 : StationsKeep bound s2.sm := by
    simp only [s2, State.ceaseJudging_frame]
    exact State.enter_keeps hs1 n _
  simp only [State.answerPark_frame]
  exact State.sendDisable_keeps hs2 n

theorem State.takeRaise_keeps (h : StationsKeep bound s.sm) (n : Station) (c : StationClass) (trips : Bool) :
    StationsKeep bound (s.takeRaise n c trips).sm := by
  have hparked : StationsKeep bound
      (s.setStation n { s.station n with parkSlot := (s.station n).parkSlot.map fun p => p.raise c }).sm :=
    State.setStation_keeps h { h n with
      parkSlot := fun p hp => by
        obtain ⟨q, hq, rfl⟩ := Option.map_eq_some_iff.1 hp
        exact (h n).parkSlot q hq }
  have ht : StationsKeep bound
      (s.setStation n { s.station n with settings := (s.station n).settings.raise c }).sm :=
    State.setStation_keeps h { h n with }
  unfold State.takeRaise
  dsimp only
  generalize s.setStation n { s.station n with settings := (s.station n).settings.raise c } = t at ht
  split
  · exact hparked
  · have hu (b : Bool) : StationsKeep bound (if b then t.notifyTrip n else t).sm := by
      split
      · exact ht
      · exact ht
    split
    · split
      · exact State.trip_keeps (hu _) n
      · exact State.trip_keeps (hu _) n
      · exact State.trip_keeps (hu _) n
      · exact State.completePark_keeps (hu _) n _ _
      · exact hu _
    · exact hu _

theorem State.takeClear_keeps (h : StationsKeep bound s.sm) (n : Station) (f : StationFlags) :
    StationsKeep bound (s.takeClear n f).sm := by
  have ht : StationsKeep bound (s.setStation n { s.station n with
      settings := { (s.station n).settings with flags := (s.station n).settings.flags.minus f } }).sm :=
    State.setStation_keeps h { h n with }
  unfold State.takeClear
  dsimp only
  split
  · exact State.enter_keeps ht n _
  · exact ht

theorem State.catchUp_keeps (h : StationsKeep bound s.sm) (n : Station) (g : GrantHand) :
    StationsKeep bound (s.catchUp n g).sm := by
  unfold State.catchUp
  split
  · exact State.enter_keeps h n _
  · exact h

theorem State.handover_keeps (h : StationsKeep bound s.sm) (n : Station) {g : GrantHand} (travel : Travel)
    (hgrant : bound → mag g.grant ≤ 1000) : StationsKeep bound (s.handover n g travel).sm := by
  have hcaught := State.catchUp_keeps h n g
  unfold State.handover
  refine State.setStation_keeps hcaught ((hcaught n).send n travel _ fun hb => ?_)
  split
  · exact hgrant hb
  · exact Nat.zero_le _

theorem State.armStation_keeps (h : StationsKeep bound s.sm) (n : Station) : StationsKeep bound (s.armStation n).sm := by
  unfold State.armStation
  split
  · exact State.enter_keeps h n _
  · exact h

theorem State.standDown_keeps (h : StationsKeep bound s.sm) (n : Station) : StationsKeep bound (s.standDown n).sm := by
  unfold State.standDown
  split
  · exact State.enter_keeps h n _
  · exact h

theorem State.disarmStations_keeps (h : StationsKeep bound s.sm) : StationsKeep bound s.disarmStations.sm :=
  List.foldlRecOn (motive := fun t : State => StationsKeep bound t.sm) _ _ h fun _ ht n _ => State.standDown_keeps ht n

theorem State.takeReport_keeps (h : StationsKeep bound s.sm) (n : Station) (r : Report) :
    StationsKeep bound (s.takeReport n r).sm := by
  unfold State.takeReport
  extract_lets src t
  have ht : StationsKeep bound t.sm := State.setStation_keeps h { h n with
    deadline := fun _ hd => (Option.some.inj hd).symm.le }
  split
  · split
    · exact State.enter_keeps ht n _
    · exact ht
  · exact ht
  · split
    · exact State.completePark_keeps (s := t.handReport n r) ht n _ _
    · exact ht
  all_goals exact ht

theorem State.cancelPark_keeps (h : StationsKeep bound s.sm) (n : Station) : StationsKeep bound (s.cancelPark n).sm := by
  simp only [State.cancelPark, State.answerPark_frame]
  refine State.enter_keeps (State.setStation_keeps h ?_) n _
  exact { h n with parkTimer := fun _ hd => by cases hd }

theorem State.beginPark_keeps (h : StationsKeep bound s.sm) (n : Station) : StationsKeep bound (s.beginPark n).sm := by
  refine State.enter_keeps (State.setStation_keeps h ?_) n _
  exact { h n with parkTimer := fun _ hd => (Option.some.inj hd).symm.le }

theorem State.restore_keeps (h : StationsKeep bound s.sm) (n : Station) : StationsKeep bound (s.restore n).sm := by
  refine State.enter_keeps (State.setStation_keeps h ?_) n _
  exact { h n with settings := Option.getD_inRange (h n).parkSlot, parkSlot := fun _ hp => by cases hp }

theorem setStationMask_keeps (h : StationsKeep bound s.sm) (n : Station) (m : Nat) :
    StationsKeep bound (setStationMask n m s).1.sm := by
  refine Within.checked (p := StationsKeep bound) (block := State.sm) h fun _ => ?_
  have ht := State.setStation_keeps (n := n) h
    (x := { s.station n with
      settings := { (s.station n).settings with mask := (stationMaskOf m).getD (s.station n).settings.mask } })
    { h n with }
  dsimp only
  split
  · rw [Within, ((State.sendRaise_acts _ _ _ _).blocks .sm (by simp) : (State.sendRaise _ _ _ _).sm = _)]
    exact ht
  · exact ht

/-- R71: a write that passes the checks leaves the trim and the slip scale in range. -/
theorem Settings.written_inRange {x : Settings} {r : WriteReq} (hx : x.inRange)
    (hpass : ∀ y ∈ writeParkedChecks r s, y.1 = false) : (x.written r).inRange := by
  obtain ⟨htrimLow, htrimHigh, hslipLow, hslipHigh⟩ := hx
  simp only [writeParkedChecks, List.forall_mem_cons] at hpass
  obtain ⟨-, -, -, htrim, hslip, -⟩ := hpass
  have htrimmed : -50 ≤ (x.written r).trim ∧ (x.written r).trim ≤ 50 := by
    simp only [Settings.written]
    cases hr : r.trim with
    | none => exact ⟨htrimLow, htrimHigh⟩
    | some v =>
      simp only [hr, Option.any_some, Bool.or_eq_false_iff, decide_eq_false_iff_not, not_lt] at htrim
      exact htrim
  have hscaled : 50 ≤ (x.written r).slip ∧ (x.written r).slip ≤ 200 := by
    simp only [Settings.written]
    cases hr : r.slip with
    | none => exact ⟨hslipLow, hslipHigh⟩
    | some v =>
      simp only [hr, Option.any_some, Bool.or_eq_false_iff, decide_eq_false_iff_not, not_lt] at hslip
      exact hslip
  exact ⟨htrimmed.1, htrimmed.2, hscaled.1, hscaled.2⟩

theorem cancel_keeps (h : StationsKeep bound s.sm) (hexec : exec .cancel s = .next t) : StationsKeep bound t.sm := by
  refine Within.next (p := StationsKeep bound) (block := State.sm) hexec ?_
  split
  · exact h
  · next n _ => exact State.cancelPark_keeps (s := s.takeFrame) h n
  · exact h

theorem tickTimers_keeps (h : StationsKeep bound s.sm) : StationsKeep bound s.tickTimers.sm := fun n => by
  change StationCtx.Keeps bound ((PerStation.of _).get n)
  rw [PerStation.get_of]
  exact { h n with
    deadline := fun _ hd => tick_le (h n).deadline hd
    parkTimer := fun _ hd => tick_le (h n).parkTimer hd }

theorem grantHandover_keeps {hands : PerStation GrantHand} {travel : Travel} (h : StationsKeep bound s.sm)
    (hgrants : bound → ∀ n, mag (hands.get n).grant ≤ 1000) (hexec : exec (.grantHandover hands travel) s = .next t) :
    StationsKeep bound t.sm := by
  refine Within.next (p := StationsKeep bound) (block := State.sm) hexec ?_
  exact List.foldlRecOn (motive := fun t : State => StationsKeep bound t.sm) _ _ h fun _ ht n _ =>
    State.handover_keeps ht n travel fun hb => hgrants hb n

theorem exec_stationsKeep {c : Instr} (hs : Within (StationsKeep bound) State.sm s)
    (hgrants : ∀ hands travel, c = .grantHandover hands travel → bound → ∀ n, mag (PerStation.get hands n).grant ≤ 1000)
    (h : exec c s = .next t) : Within (StationsKeep bound) State.sm t := by
  have hreset : StationsKeep bound (PerStation.fill StationCtx.reset) := fun n => by
    rw [PerStation.get_fill]
    exact StationCtx.reset_keeps bound
  by_cases hsm : Block.sm ∈ touched c
  · cases c with
    | softReset => exact Within.next h (hs.request fun u hu => hu.checked fun _ => hreset)
    | hardReset => exact Within.next h hreset
    | cancel => exact cancel_keeps hs h
    | disarm =>
      exact Within.next h (hs.request fun u hu => hu.checked fun _ => State.disarmStations_keeps (s := u.withTa _) hu)
    | parkStation n =>
      refine Within.next h ?_
      split
      · next k _ => exact hs.longRequest fun u hu => State.beginPark_keeps hu k
      · exact hs.request fun u hu => hu
    | restoreStation n =>
      refine Within.next h (hs.request fun u hu => hu.checked fun _ => ?_)
      split
      · next k _ => exact State.restore_keeps hu k
      · exact hu
    | rearmStation n =>
      refine Within.next h (hs.request fun u hu => hu.checked fun _ => ?_)
      split
      · next k _ => exact State.enter_keeps hu k _
      · exact hu
    | writeParkedContext r =>
      refine Within.next h (hs.request fun u hu => hu.checked fun hpass => ?_)
      split
      · next k _ =>
        have hk : (u.station k).Keeps bound := hu k
        exact State.setStation_keeps hu { hk with
          parkSlot := fun _ hp => Option.some.inj hp ▸ Settings.written_inRange (Option.getD_inRange hk.parkSlot) hpass }
      · exact hu
    | clearFaultsStation target =>
      refine Within.next h (hs.request fun u hu => ?_)
      unfold clearFaultsBody
      split
      · exact hu.checked fun _ => State.takeClear_keeps hu _ _
      · split
        · rw [Within, ((clearTruck_acts u).blocks .sm (by simp) : _ = u.sm)]
          exact hu
        · exact hu
    | setMaskStation target m =>
      refine Within.next h (hs.request fun u hu => ?_)
      unfold setMaskBody
      split
      · exact setStationMask_keeps hu _ m
      · split
        · rw [Within, ((setTruckMask_acts u m).blocks .sm (by simp) : _ = u.sm)]
          exact hu
        · exact hu
    | allocationPass p =>
      exact Within.next h (tickTimers_keeps (s := (s.withTa (Ta.afterPass p.held s)).withHanded _) hs)
    | grantHandover hands travel => exact grantHandover_keeps hs (hgrants hands travel rfl) h
    | armingEvent =>
      refine Within.next h ?_
      split
      · exact List.foldlRecOn (motive := fun t : State => StationsKeep bound t.sm) _ _ hs fun _ ht n _ =>
          State.armStation_keeps ht n
      · exact hs
    | clearClaim n f => exact Within.next h (State.takeClear_keeps hs n f)
    | raiseClaim n c trips => exact Within.next h (State.takeRaise_keeps hs n c trips)
    | reportFrame n bytes =>
      refine Within.next h ?_
      split
      · split
        · exact State.takeReport_keeps hs n _
        · exact hs
      · exact hs
    | parkTimerExpiry n =>
      refine Within.next h ?_
      split
      · exact State.completePark_keeps hs n _ _
      · exact hs
    | reportDeadlineExpiry n =>
      have hn : (s.station n).Keeps bound := hs n
      have hlost : StationsKeep bound (s.setStation n { s.station n with link := .lost, deadline := none }).sm :=
        State.setStation_keeps hs { hn with deadline := fun _ hd => by cases hd }
      refine Within.next h ?_
      split
      · dsimp only
        split
        · exact hlost
        · exact hlost
        · exact hlost
      · exact hs
    | _ => simp [touched] at hsm
  · rw [Within, (exec_sameBlock h hsm : t.sm = s.sm)]
    exact hs

end Stations

end Sys2Proof.Machine


namespace Sys2Proof.Machine
open Sys2Proof

variable {s t : State}

/-! ### The ceilings of a legal table (R1, R5, R17) -/

theorem lowest_value_le {most : Nat} {l : List (Handle × Nat)} (h : ∀ p ∈ l, p.2 ≤ most) :
    (lowest most l).value ≤ most := by
  rcases lowest_binds most l with ⟨-, hvalue, -⟩ | ⟨pre, k, post, hl, -⟩
  · exact hvalue.le
  · have hmem : (k, (lowest most l).value) ∈ pre ++ (k, (lowest most l).value) :: post := by simp
    exact h _ (Eq.mp (congrArg (_ ∈ ·) hl.symm) hmem)

theorem matching_value_le {l : List Slot} (ht : tableLegal l) {p : CeilingRecord → Bool} {most : Nat}
    (hlimit : ∀ r : CeilingRecord, p r = true → r.limit.maximum ≤ most) : ∀ x ∈ matching l p, x.2 ≤ most := by
  rintro ⟨h, v⟩ hx
  obtain ⟨x, r, hslot, -, hheld, hp, rfl⟩ := mem_matching.1 hx
  obtain ⟨-, hrecord⟩ := (Slot.legal_iff x).1 (Slot.legal_of_getElem? ht hslot)
  obtain ⟨-, hcurrent, htarget, -⟩ := hrecord r hheld
  exact hcurrent.trans (htarget.trans (hlimit r hp))

theorem speedCeiling_le {l : List Slot} (ht : tableLegal l) : (speedCeiling l).value ≤ 700 := by
  refine lowest_value_le (matching_value_le ht fun r hr => ?_)
  unfold CeilingRecord.limitsSpeed at hr
  cases hl : r.limit with
  | speed => exact le_rfl
  | torque _ _ => simp [hl] at hr

theorem torqueCeiling_le {l : List Slot} (ht : tableLegal l) (n : Station) (retard : Bool) :
    (torqueCeiling l n retard).value ≤ 1000 := by
  refine lowest_value_le (matching_value_le ht fun r hr => ?_)
  unfold CeilingRecord.limitsTorque at hr
  cases hl : r.limit with
  | speed => simp [hl] at hr
  | torque _ _ => exact le_rfl

/-! ### Truck sets (R173, R183) -/

theorem TruckSet.get_put (x : TruckSet) (c d : TruckClass) (b : Bool) :
    (x.put c b).get d = if d = c then b else x.get d := by
  cases c <;> cases d <;> rfl

theorem TruckSet.get_inter (x y : TruckSet) (c : TruckClass) : (x.inter y).get c = (x.get c && y.get c) := by
  cases c <;> rfl

/-- R183: what keeps the level from NORMAL is a set flag of a class that stops the truck. -/
theorem stopping_iff (f m : TruckSet) : stopping f m = true ↔ ∃ c, f.get c = true ∧ m.stops c = true := by
  constructor
  · intro h
    simp only [stopping, TruckSet.any, TruckSet.inter, TruckSet.compl, Bool.or_eq_true, Bool.and_eq_true,
      Bool.or_false] at h
    have hstop (c : TruckClass) (hc : c ≠ .pl) (h : f.get c = true ∧ (!m.get c) = true) :
        ∃ c, f.get c = true ∧ m.stops c = true := ⟨c, h.1, by simp [TruckSet.stops, hc, h.2]⟩
    rcases h with (((((h | h) | h) | h) | h) | h) | h
    · exact hstop .gt (by decide) h
    · exact hstop .gf (by decide) h
    · exact hstop .dv (by decide) h
    · exact hstop .os (by decide) h
    · exact hstop .st (by decide) h
    · exact hstop .sp (by decide) h
    · exact hstop .pr (by decide) h
  · rintro ⟨c, hf, hm⟩
    cases c <;> simp_all [stopping, TruckSet.any, TruckSet.inter, TruckSet.compl, TruckSet.get, TruckSet.stops]

theorem stopping_put {f m : TruckSet} (h : stopping f m = true) (c : TruckClass) : stopping (f.put c true) m = true := by
  obtain ⟨d, hd, hm⟩ := (stopping_iff f m).1 h
  refine (stopping_iff _ m).2 ⟨d, ?_, hm⟩
  rw [TruckSet.get_put, hd, ite_self]

/-! ### PU's figures (R172, R178, R182 to R184) -/

/-- R179: nothing is judged of a station. -/
structure PuStation.Quiet (x : PuStation) : Prop where
  conds : x.conds = StationFlags.none
  mt : x.mtClaimed = none
  it : x.itClaimed = none
  sl : x.slClaimed = false

/-- PU's figures of a station; under `cap` its slip threshold is bounded above too. -/
structure PuStation.Holds (cap : Prop) (x : PuStation) : Prop where
  slipCount : x.slipCount ≤ 3
  clearCount : x.clearCount ≤ 10
  low : 10 ≤ x.threshold
  high : cap → x.threshold ≤ 700
  mt : ∀ v, x.mtClaimed = some v → v ≤ 1000
  it : ∀ v, x.itClaimed = some v → v ≤ 1000

/-- PU's level, counts and figures; under `ceil` the overspeed reference is bounded and under `cap` the slip thresholds
are. Of a PARKED station nothing is judged, but for the station `busy` while an event judges it. -/
structure Pu.Holds (ceil cap : Prop) (busy : Option Station) (p : Pu) : Prop where
  founded : p.level ≠ .normal → stopping p.flags p.masks = true
  counted : p.level ≠ .safeStop → p.stopped = 0
  stopped : p.stopped ≤ 99
  osDemand : p.osDemand = 0 ∨ p.osDemand = 1000
  osCount : p.osCount ≤ 5
  osRef : ceil → ∀ r, p.osRef = some r → r ≤ 700
  station : ∀ n, (p.stations.get n).Holds cap
  quiet : ∀ n, busy ≠ some n → (p.stations.get n).copy = .parked → (p.stations.get n).Quiet

theorem puHolds_iff (ceil cap : Prop) (p : Pu) :
    p.Holds ceil cap none ↔
      (levelHeld p ∧ protectionInRange p) ∧ (ceil → ∀ r, p.osRef = some r → r ≤ 700) ∧ (cap → thresholdsInRange p) := by
  constructor
  · intro h
    refine ⟨⟨⟨h.founded, h.counted, h.stopped⟩, h.osDemand, h.osCount, fun n => ?_⟩, h.osRef,
      fun hc n => (h.station n).high hc⟩
    have hn := h.station n
    refine ⟨hn.slipCount, hn.clearCount, hn.low, hn.mt, hn.it, fun hparked => ?_⟩
    have hquiet := h.quiet n (by simp) hparked
    exact ⟨hquiet.conds, hquiet.mt, hquiet.it, hquiet.sl⟩
  · rintro ⟨⟨⟨hfounded, hcounted, hstopped⟩, hdemand, hcount, hstation⟩, href, hcap⟩
    refine ⟨hfounded, hcounted, hstopped, hdemand, hcount, href, fun n => ?_, fun n _ hparked => ?_⟩
    · obtain ⟨hslip, hclear, hlow, hmt, hit, -⟩ := hstation n
      exact ⟨hslip, hclear, hlow, fun hc => hcap hc n, hmt, hit⟩
    · obtain ⟨-, -, -, -, -, hquiet⟩ := hstation n
      obtain ⟨hconds, hmt, hit, hsl⟩ := hquiet hparked
      exact ⟨hconds, hmt, hit, hsl⟩

theorem PuStation.unjudged_quiet (x : PuStation) : x.unjudged.Quiet := ⟨rfl, rfl, rfl, rfl⟩

section Pu
variable {ceil cap : Prop} {busy : Option Station} {x : PuStation} {n : Station}

theorem PuStation.Holds.unjudged (h : x.Holds cap) : x.unjudged.Holds cap :=
  { h with
    slipCount := Nat.zero_le _
    clearCount := Nat.zero_le _
    mt := fun _ hv => by cases hv
    it := fun _ hv => by cases hv }

theorem PuStation.Holds.count (h : x.Holds cap) (mark : Option Bool) : (x.count mark).Holds cap := by
  unfold PuStation.count
  split
  · exact { h with slipCount := min_le_left _ _, clearCount := Nat.zero_le _ }
  · exact { h with slipCount := Nat.zero_le _, clearCount := min_le_left _ _ }

theorem Pu.reset_holds : Pu.reset.Holds ceil cap none :=
  (puHolds_iff ..).2
    ⟨⟨levelHeld_reset, protectionInRange_reset⟩, (fun _ _ hr => by cases hr), fun _ => thresholdsInRange_reset⟩

/-- A station may be judged, or not. -/
theorem Pu.Holds.begin {p : Pu} (h : p.Holds ceil cap none) (n : Station) : p.Holds ceil cap (some n) :=
  { h with quiet := fun m _ => h.quiet m (by simp) }

/-- The station judged is not PARKED, or nothing is judged of it any more. -/
theorem Pu.Holds.end {p : Pu} (h : p.Holds ceil cap (some n))
    (hn : (p.stations.get n).copy = .parked → (p.stations.get n).Quiet) : p.Holds ceil cap none :=
  { h with
    quiet := fun m _ hparked => by
      by_cases hm : m = n
      · exact hm ▸ hn (hm ▸ hparked)
      · exact h.quiet m (fun he => hm (Option.some.inj he).symm) hparked }

/-- One station's record at PU rewritten. -/
theorem State.setPuStation_holds (h : s.pu.Holds ceil cap busy) (hx : x.Holds cap)
    (hquiet : busy ≠ some n → x.copy = .parked → x.Quiet) : (s.setPuStation n x).pu.Holds ceil cap busy :=
  { h with
    station := fun m => by
      change PuStation.Holds cap ((s.pu.stations.set n x).get m)
      rw [PerStation.get_set]
      split
      · exact hx
      · exact h.station m
    quiet := fun m hm => by
      change ((s.pu.stations.set n x).get m).copy = .parked → PuStation.Quiet ((s.pu.stations.set n x).get m)
      rw [PerStation.get_set]
      split
      · next he => exact hquiet (he ▸ hm)
      · exact h.quiet m hm }

/-- The record of the station that is being judged. -/
theorem State.setPuStation_judging (h : s.pu.Holds ceil cap (some n)) (hx : x.Holds cap) :
    (s.setPuStation n x).pu.Holds ceil cap (some n) :=
  State.setPuStation_holds h hx fun hne => absurd rfl hne

theorem State.withPu_puHolds {p : Pu} (h : p.Holds ceil cap busy) : (s.withPu p).pu.Holds ceil cap busy := h

/-! ### The truck's level and counts -/

theorem State.safeStop_holds (h : s.pu.Holds ceil cap busy) (hstop : stopping s.pu.flags s.pu.masks = true) :
    s.safeStop.pu.Holds ceil cap busy := by
  unfold State.safeStop
  split
  · exact { h with
      founded := fun _ => hstop
      counted := fun hne => absurd rfl hne
      stopped := Nat.zero_le _ }
  · exact h

theorem State.truckBegins_holds (h : s.pu.Holds ceil cap busy) (c : TruckClass) :
    (s.truckBegins c).pu.Holds ceil cap busy := by
  have hmark : Pu.Holds ceil cap busy
      { s.pu with conds := s.pu.conds.put c true, flags := s.pu.flags.put c true } :=
    { h with founded := fun hl => stopping_put (h.founded hl) c }
  have hescalate (u : State)
      (hu : u.pu = { s.pu with conds := s.pu.conds.put c true, flags := s.pu.flags.put c true }) :
      (if u.pu.masks.stops c then u.safeStop else u).pu.Holds ceil cap busy := by
    split
    · next hstop =>
      refine State.safeStop_holds (hu ▸ hmark) ((stopping_iff _ _).2 ⟨c, ?_, hstop⟩)
      rw [hu, TruckSet.get_put, if_pos rfl]
    · exact hu ▸ hmark
  unfold State.truckBegins
  exact hescalate _ (by cases c <;> simp)

theorem State.beginsEvent_holds (h : s.pu.Holds ceil cap busy) (c : HandedClass) :
    (s.beginsEvent c).pu.Holds ceil cap busy := by
  unfold State.beginsEvent
  split
  · exact h
  · exact State.truckBegins_holds h _

theorem State.endsEvent_holds (h : s.pu.Holds ceil cap busy) (c : HandedClass) :
    (s.endsEvent c).pu.Holds ceil cap busy := { h with }

theorem State.takeCondition_holds (h : s.pu.Holds ceil cap busy) (c : HandedClass) (was now : Bool) :
    (s.takeCondition c was now).pu.Holds ceil cap busy ∧ (s.takeCondition c was now).pu.level = s.pu.level := by
  unfold State.takeCondition
  split
  · exact ⟨h, rfl⟩
  · split
    · exact ⟨State.endsEvent_holds h c, rfl⟩
    · exact ⟨h, rfl⟩

theorem State.dropDemand_holds (h : s.pu.Holds ceil cap busy) (v : Nat) : (s.dropDemand v).pu.Holds ceil cap busy := by
  unfold State.dropDemand
  split
  · exact { h with osDemand := .inl rfl }
  · exact h

theorem State.overspeedWork_holds (h : s.pu.Holds ceil cap busy) (v : Nat) :
    (s.overspeedWork v).pu.Holds ceil cap busy := by
  have hdrop := State.dropDemand_holds h v
  unfold State.overspeedWork
  generalize s.dropDemand v = t at hdrop
  split
  · exact { hdrop with osCount := Nat.zero_le _ }
  · have hcount : Pu.Holds ceil cap busy { t.pu with osCount := min 5 (t.pu.osCount + 1) } :=
      { hdrop with osCount := min_le_left _ _ }
    dsimp only
    split
    · split
      · have hbegun := State.truckBegins_holds (State.withPu_puHolds (s := t) hcount) .os
        exact { hbegun with osDemand := .inr rfl }
      · exact hcount
    · exact { hdrop with osCount := Nat.zero_le _ }

theorem State.stoppedWork_holds (h : s.pu.Holds ceil cap busy) (v : Nat) :
    (s.stoppedWork v).pu.Holds ceil cap busy := by
  unfold State.stoppedWork
  split
  · next hlevel =>
    have hfounded : stopping s.pu.flags s.pu.masks = true := h.founded (by simp [hlevel])
    split
    · split
      · exact { h with founded := fun _ => hfounded, counted := fun _ => rfl, stopped := Nat.zero_le _ }
      · next hfew =>
        exact { h with counted := fun hne => absurd hlevel hne, stopped := by simp only [State.withPu_pu]; omega }
    · exact { h with counted := fun _ => rfl, stopped := Nat.zero_le _ }
  · exact h

/-- R187: the flags whose conditions have gone are cleared, and a completed safe stop whose flags have gone ends. -/
theorem State.clearTruckFlags_holds (h : s.pu.Holds ceil cap busy) (hlevel : s.pu.level ≠ .safeStop) :
    s.clearTruckFlags.pu.Holds ceil cap busy := by
  unfold State.clearTruckFlags
  extract_lets src t
  split
  · exact { h with founded := fun hne => absurd rfl hne, counted := fun _ => h.counted hlevel }
  · next hstays =>
    refine { h with founded := fun hne => ?_ }
    have hstopped : s.pu.level = .stoppedSafe := by
      cases hl : s.pu.level with
      | normal => exact absurd hl hne
      | safeStop => exact absurd hl hlevel
      | stoppedSafe => rfl
    have hlevel' : t.pu.level = .stoppedSafe := hstopped
    simpa [hlevel'] using hstays

theorem State.steeringClear_puHolds (h : s.pu.Holds ceil cap busy) :
    s.steeringClear.pu.Holds ceil cap busy ∧ s.steeringClear.pu.level = s.pu.level := by
  unfold State.steeringClear
  dsimp only
  split
  · refine State.takeCondition_holds ?_ _ _ _
    exact h
  · exact ⟨h, rfl⟩

theorem State.gridClear_puHolds (h : s.pu.Holds ceil cap busy) :
    s.gridClear.1.pu.Holds ceil cap busy ∧ s.gridClear.1.pu.level = s.pu.level := by
  have hstart (u : State) (k : Bank) : (u.startCheck k).pu = u.pu := (u.startCheck_acts k).blocks .pu (by simp)
  unfold State.gridClear
  extract_lets cleared src t fa fb u v
  have hu : u.pu = s.pu := by
    simp only [u]
    split
    · exact hstart t .a
    · rfl
  have hv : v.pu = s.pu := by
    simp only [v]
    split
    · exact (hstart u .b).trans hu
    · exact hu
  unfold State.testGf
  dsimp only
  rw [if_pos rfl, ← hv]
  exact State.takeCondition_holds (s := v.withGd _) (hv ▸ h) _ _ _

theorem clearTruck_puHolds (h : s.pu.Holds ceil cap busy) : (clearTruck s).1.pu.Holds ceil cap busy := by
  refine Within.checked (p := Pu.Holds ceil cap busy) (block := State.pu) h fun hpass => ?_
  simp only [List.forall_mem_cons, beq_eq_false_iff_ne] at hpass
  obtain ⟨hgrid, hgridLevel⟩ := State.gridClear_puHolds h
  obtain ⟨hsteer, hsteerLevel⟩ := State.steeringClear_puHolds hgrid
  exact State.clearTruckFlags_holds hsteer (by rw [hsteerLevel, hgridLevel]; exact hpass.1)

theorem State.takePlMask_pu (s : State) (m : Bool) : (s.takePlMask m).pu = s.pu :=
  (s.takePlMask_acts m).blocks .pu (by simp)

/-- R189: a mask set written while the level is NORMAL; a class it unmasks may escalate. -/
theorem setTruckMask_puHolds (h : s.pu.Holds ceil cap busy) (set : Nat) :
    (setTruckMask set s).1.pu.Holds ceil cap busy := by
  refine Within.checked (p := Pu.Holds ceil cap busy) (block := State.pu) h fun hpass => ?_
  simp only [List.forall_mem_cons, bne_eq_false_iff_eq] at hpass
  obtain ⟨-, hlevel, -⟩ := hpass
  generalize hm : (truckMaskOf set).getD s.pu.masks = m
  have hmasked : Pu.Holds ceil cap busy { s.pu with masks := m } :=
    { h with founded := fun hne => absurd hlevel hne }
  have hup : (if newlyStopping s.pu.masks m s.pu.flags then (s.withPu { s.pu with masks := m }).safeStop
      else s.withPu { s.pu with masks := m }).pu.Holds ceil cap busy := by
    split
    · next hnew =>
      refine State.safeStop_holds hmasked ?_
      obtain ⟨c, hflag, hstops⟩ := (stopping_iff _ _).1 hnew
      rw [TruckSet.get_inter, Bool.and_eq_true] at hflag
      exact (stopping_iff _ _).2 ⟨c, hflag.1, hstops⟩
    · exact hmasked
  dsimp only
  split
  · exact hup
  · rw [Within, State.takePlMask_pu]
    exact hup

theorem State.writeTruckMasks_holds (h : s.pu.Holds ceil cap busy) (hlevel : s.pu.level = .normal) (m : TruckSet) :
    (s.writeTruckMasks m).pu.Holds ceil cap busy := by
  have hmasked : Pu.Holds ceil cap busy { s.pu with masks := m } :=
    { h with founded := fun hne => absurd hlevel hne }
  unfold State.writeTruckMasks
  dsimp only
  split
  · exact hmasked
  · rw [State.takePlMask_pu]
    exact hmasked

/-- R190: the truck context at its defaults, its overspeed reference at the ceiling in force. -/
theorem protectionInitBody_holds (h : s.pu.Holds ceil cap busy) (hct : ceil → tableLegal s.ct) :
    (protectionInitBody s).1.pu.Holds ceil cap busy := by
  refine Within.checked (p := Pu.Holds ceil cap busy) (block := State.pu) h fun hpass => ?_
  simp only [List.forall_mem_cons, bne_eq_false_iff_eq] at hpass
  obtain ⟨hlevel, -, -⟩ := hpass
  change (State.writeTruckMasks _ _).pu.Holds ceil cap busy
  refine State.writeTruckMasks_holds ?_ ?_ _
  swap
  · exact hlevel
  exact { h with
    founded := fun hne => absurd hlevel hne
    osDemand := .inl rfl
    osCount := Nat.zero_le _
    osRef := fun hc r hr => Option.some.inj hr ▸ speedCeiling_le (hct hc) }

theorem trailed_le {ref : Option Nat} {ceiling : Nat} (href : ∀ r, ref = some r → r ≤ 700) (hceiling : ceiling ≤ 700) :
    trailed ref ceiling ≤ 700 := by
  unfold trailed
  split
  · exact hceiling
  · next r =>
    have := href r rfl
    split <;> omega

end Pu

end Sys2Proof.Machine


namespace Sys2Proof.Machine
open Sys2Proof

variable {s t : State}

section Pu
variable {ceil cap : Prop} {busy : Option Station} {n : Station}

/-! ### Stations as PU judges them (R176 to R179) -/

theorem State.sendRaise_pu (s : State) (n : Station) (c : StationClass) (trips : Bool) :
    (s.sendRaise n c trips).pu = s.pu :=
  (s.sendRaise_acts n c trips).blocks .pu (by simp)

theorem State.enter_puHolds (h : s.pu.Holds ceil cap busy) (n : Station) {st : StationState} (hst : st ≠ .parked) :
    (s.enter n st).pu.Holds ceil cap busy :=
  State.setPuStation_holds (s := s.setStation n { s.station n with state := st }) h { h.station n with }
    fun _ hparked => absurd hparked hst

/-- R179: once PU has ceased to judge the station nothing is judged of it. -/
theorem State.unjudge_holds (h : s.pu.Holds ceil cap (some n)) :
    (s.setPuStation n (s.puStation n).unjudged).pu.Holds ceil cap none := by
  refine (State.setPuStation_judging h (h.station n).unjudged).end fun _ => ?_
  change PuStation.Quiet ((s.pu.stations.set n (s.puStation n).unjudged).get n)
  rw [PerStation.get_set_same]
  exact PuStation.unjudged_quiet _

theorem State.ceaseJudging_holds (h : s.pu.Holds ceil cap (some n)) : (s.ceaseJudging n).pu.Holds ceil cap none := by
  unfold State.ceaseJudging
  dsimp only
  refine State.unjudge_holds ?_
  simpa using h

theorem State.completePark_puHolds (h : s.pu.Holds ceil cap none) (n : Station) (cls : ReplyClass) (d : Option Detail) :
    (s.completePark n cls d).pu.Holds ceil cap none := by
  unfold State.completePark
  extract_lets x s1 s2
  have hentered : (s1.enter n .parked).pu.Holds ceil cap (some n) :=
    State.setPuStation_judging (s := s1.setStation n { s1.station n with state := .parked }) (h.begin n)
      { h.station n with }
  have hs2 : s2.pu.Holds ceil cap none := State.ceaseJudging_holds hentered
  simpa using hs2

theorem State.trip_puHolds (h : s.pu.Holds ceil cap busy) (n : Station) : (s.trip n).pu.Holds ceil cap busy := by
  change (s.enter n .tripped).pu.Holds ceil cap busy
  exact State.enter_puHolds h n (by decide)

theorem State.takeRaise_puHolds (h : s.pu.Holds ceil cap none) (n : Station) (c : StationClass) (trips : Bool) :
    (s.takeRaise n c trips).pu.Holds ceil cap none := by
  unfold State.takeRaise
  dsimp only
  generalize ht : s.setStation n { s.station n with settings := (s.station n).settings.raise c } = t
  have hu (b : Bool) : (if b then t.notifyTrip n else t).pu.Holds ceil cap none := by
    subst ht
    split <;> simpa using h
  split
  · exact h
  · split
    · split
      · exact State.trip_puHolds (hu _) n
      · exact State.trip_puHolds (hu _) n
      · exact State.trip_puHolds (hu _) n
      · exact State.completePark_puHolds (hu _) n _ _
      · exact hu _
    · exact hu _

theorem State.takeClear_puHolds (h : s.pu.Holds ceil cap busy) (n : Station) (f : StationFlags) :
    (s.takeClear n f).pu.Holds ceil cap busy := by
  unfold State.takeClear
  dsimp only
  split
  · exact State.enter_puHolds (s := State.setStation ..) h n (by decide)
  · exact h

theorem State.handover_puHolds (h : s.pu.Holds ceil cap busy) (n : Station) (g : GrantHand) (travel : Travel) :
    (s.handover n g travel).pu.Holds ceil cap busy := by
  change (s.catchUp n g).pu.Holds ceil cap busy
  unfold State.catchUp
  split
  · exact State.enter_puHolds h n (by decide)
  · exact h

theorem State.armStation_puHolds (h : s.pu.Holds ceil cap busy) (n : Station) :
    (s.armStation n).pu.Holds ceil cap busy := by
  unfold State.armStation
  split
  · exact State.enter_puHolds h n (by decide)
  · exact h

theorem State.standDown_puHolds (h : s.pu.Holds ceil cap busy) (n : Station) :
    (s.standDown n).pu.Holds ceil cap busy := by
  unfold State.standDown
  split
  · exact State.enter_puHolds h n (by decide)
  · exact h

theorem State.disarmStations_puHolds (h : s.pu.Holds ceil cap busy) : s.disarmStations.pu.Holds ceil cap busy :=
  List.foldlRecOn (motive := fun t : State => t.pu.Holds ceil cap busy) _ _ h fun _ ht n _ =>
    State.standDown_puHolds ht n

theorem State.takeReport_puHolds (h : s.pu.Holds ceil cap none) (n : Station) (r : Report) :
    (s.takeReport n r).pu.Holds ceil cap none := by
  unfold State.takeReport
  dsimp only
  generalize ht : s.setStation n { s.station n with report := some r, link := .alive, deadline := some 50 } = t
  have ht : t.pu.Holds ceil cap none := ht ▸ h
  split
  · split
    · exact State.enter_puHolds ht n (by decide)
    · exact ht
  · exact ht
  · split
    · exact State.completePark_puHolds (s := t.handReport n r) ht n _ _
    · exact ht
  all_goals exact ht

theorem State.cancelPark_puHolds (h : s.pu.Holds ceil cap busy) (n : Station) :
    (s.cancelPark n).pu.Holds ceil cap busy := by
  obtain ⟨-, hparked⟩ := StationState.unparked_iff.1 (s.cancelledState_unparked n)
  simp only [State.cancelPark, State.answerPark_frame]
  exact State.enter_puHolds (s := State.setStation ..) h n hparked

theorem State.restore_puHolds (h : s.pu.Holds ceil cap busy) (n : Station) : (s.restore n).pu.Holds ceil cap busy := by
  obtain ⟨-, hparked⟩ := StationState.unparked_iff.1
    (restoredState_unparked ((s.station n).parkSlot.getD Settings.default) s.ta.state.armed)
  exact State.enter_puHolds (s := State.setStation ..) h n hparked

/-! ### Reports and lost links judged (R176, R177) -/

theorem State.markStation_holds (h : s.pu.Holds ceil cap (some n)) (c : StationClass) (holds : Bool) :
    (s.markStation n c holds).pu.Holds ceil cap (some n) :=
  State.setPuStation_judging h { h.station n with }

theorem State.beginClass_holds (h : s.pu.Holds ceil cap (some n)) (st : StationState) (c : StationClass)
    (tripped : Bool) : (s.beginClass n st c tripped).1.pu.Holds ceil cap (some n) := by
  unfold State.beginClass
  split
  · exact h
  · dsimp only
    rw [State.sendRaise_pu]
    exact State.markStation_holds h c true

theorem judgeIv_holds (h : s.pu.Holds ceil cap (some n)) (st : StationState) (r : Judged) :
    (judgeIv n st r s).1.pu.Holds ceil cap (some n) := by
  unfold judgeIv
  split
  · exact State.beginClass_holds h st _ _
  · exact State.markStation_holds h _ _

theorem judgeOc_holds {x : State × Bool} (h : x.1.pu.Holds ceil cap (some n)) (st : StationState) (r : Judged) :
    (judgeOc n st r x).1.pu.Holds ceil cap (some n) := by
  unfold judgeOc
  split
  · exact State.beginClass_holds h st .oc x.2
  · exact State.markStation_holds h _ _

theorem tempValue_le (v : Int) (warn : Nat) : tempValue v warn ≤ 1000 := by
  have hheld := hold_le (lo := 0) (hi := 1000) (by omega) (1000 - 25 * (v - (warn : Int)))
  unfold tempValue
  omega

theorem beginIf_holds {x : State × Bool} (h : x.1.pu.Holds ceil cap (some n)) {p : Prop} [Decidable p]
    (st : StationState) (c : StationClass) :
    (if p then x.1.beginClass n st c x.2 else x).1.pu.Holds ceil cap (some n) := by
  split
  · exact State.beginClass_holds h st c x.2
  · exact h

theorem judgeMt_holds {x : State × Bool} (h : x.1.pu.Holds ceil cap (some n)) (st : StationState) (r : Judged) :
    (judgeMt n st r x).1.pu.Holds ceil cap (some n) := by
  unfold judgeMt
  extract_lets warn y p
  have hy : y.1.pu.Holds ceil cap (some n) := beginIf_holds h st .mt
  have hp : p.Holds cap := hy.station n
  split
  · split
    · exact State.setPuStation_judging (s := y.1.release (.mt n) none) hy { hp with mt := fun _ hv => by cases hv }
    · split
      · exact hy
      · exact State.setPuStation_judging (s := y.1.claim (.mt n) _ (some 10) none) hy
          { hp with mt := fun _ hv => Option.some.inj hv ▸ tempValue_le _ _ }
  · exact hy

theorem judgeIt_holds {x : State × Bool} (h : x.1.pu.Holds ceil cap (some n)) (st : StationState) (r : Judged) :
    (judgeIt n st r x).1.pu.Holds ceil cap (some n) := by
  unfold judgeIt
  extract_lets warn y p
  have hy : y.1.pu.Holds ceil cap (some n) := beginIf_holds h st .it
  have hp : p.Holds cap := hy.station n
  split
  · split
    · exact State.setPuStation_judging (s := y.1.release (.it n) none) hy { hp with it := fun _ hv => by cases hv }
    · split
      · exact hy
      · exact State.setPuStation_judging (s := y.1.claim (.it n) _ (some 10) none) hy
          { hp with it := fun _ hv => Option.some.inj hv ▸ tempValue_le _ _ }
  · exact hy

theorem State.judgeReport_holds (h : s.pu.Holds ceil cap (some n)) (st : StationState) (r : Judged) :
    (s.judgeReport n st r).pu.Holds ceil cap (some n) :=
  judgeIt_holds (judgeMt_holds (judgeOc_holds (judgeIv_holds (State.markStation_holds h _ _) st r) st r) st r) st r

theorem reportJudgement_holds (h : s.pu.Holds ceil cap none) (n : Station) (st : StationState) (r : Judged)
    (hexec : exec (.reportJudgement n st r) s = .next t) : t.pu.Holds ceil cap none := by
  have hjudged := State.judgeReport_holds (h.begin n) st r
  refine Within.next (p := Pu.Holds ceil cap none) (block := State.pu) hexec ?_
  split
  · split
    · exact State.ceaseJudging_holds hjudged
    · next hcopy =>
      have hstands := (s.judgeReport_steady n st r).copies n
      exact hjudged.end fun hparked => absurd (hstands.symm.trans hparked) hcopy
  · exact h

theorem linkLost_holds (h : s.pu.Holds ceil cap none) (n : Station) (st : StationState)
    (hexec : exec (.linkLostEvent n st) s = .next t) : t.pu.Holds ceil cap none := by
  have hbegun := State.beginClass_holds (h.begin n) st .lk false
  refine Within.next (p := Pu.Holds ceil cap none) (block := State.pu) hexec ?_
  split
  · split
    · exact State.unjudge_holds hbegun
    · next hcopy =>
      have hstands := (s.beginClass_steady n st .lk false).copies n
      exact hbegun.end fun hparked => absurd (hstands.symm.trans hparked) hcopy
  · exact h

/-! ### Pass arrivals (R178) -/

theorem slipThreshold_ge (speed : Nat) (surface : Surface) (scale : Nat) : 10 ≤ slipThreshold speed surface scale :=
  le_max_left _ _

theorem slipThreshold_le {speed scale : Nat} (surface : Surface) (hspeed : speed ≤ 700) (hscale : scale ≤ 200) :
    slipThreshold speed surface scale ≤ 700 := by
  have hbase : surfaceBase surface ≤ 150 := by cases surface <;> decide
  have hproduct : speed * surfaceBase surface * scale ≤ 700 * 150 * 200 :=
    Nat.mul_le_mul (Nat.mul_le_mul hspeed hbase) hscale
  unfold slipThreshold
  omega

theorem State.judgeSlip_holds (h : s.pu.Holds ceil cap (some n)) : (s.judgeSlip n).pu.Holds ceil cap (some n) := by
  have hn : (s.puStation n).Holds cap := h.station n
  have hraised (p : PuStation) (hp : p.Holds cap) (trips : Bool) :
      ((s.setPuStation n p).sendRaise n .sl trips).pu.Holds ceil cap (some n) := by
    rw [State.sendRaise_pu]
    exact State.setPuStation_judging h hp
  unfold State.judgeSlip
  dsimp only
  split
  · refine hraised _ ?_ _
    exact { hn with }
  · split
    · exact State.setPuStation_judging h { hn with }
    · exact h

theorem State.judgeSlip_eq_self (hslip : (s.puStation n).slipCount ≠ 3) (hsl : (s.puStation n).conds.sl = false) :
    s.judgeSlip n = s := by
  simp [State.judgeSlip, hslip, hsl]

/-- R178, R179: nothing is counted as slip of a PARKED station, so that nothing begins. -/
theorem State.countSlip_holds (h : s.pu.Holds ceil cap none) (n : Station) (mark : Option Bool) :
    ((s.setPuStation n ((s.puStation n).count mark)).judgeSlip n).pu.Holds ceil cap none := by
  have hquiet : ((s.puStation n).count mark).copy = .parked → ((s.puStation n).count mark).Quiet := fun hparked => by
    rw [PuStation.count_copy] at hparked
    have hn := h.quiet n (by simp) hparked
    unfold PuStation.count
    split
    · exact { hn with }
    · exact { hn with }
  have hcounted := State.setPuStation_holds (n := n) h ((h.station n).count mark) fun _ => hquiet
  by_cases hparked : (s.puStation n).copy = .parked
  · have hzero : ((s.puStation n).count mark).slipCount = 0 := by
      simp [PuStation.count, hparked, StationState.slipJudged]
    have hconds : ((s.puStation n).count mark).conds = StationFlags.none :=
      (hquiet (by rwa [PuStation.count_copy])).conds
    have hself : (s.setPuStation n ((s.puStation n).count mark)).puStation n = (s.puStation n).count mark :=
      PerStation.get_set_same ..
    rw [State.judgeSlip_eq_self (by rw [hself, hzero]; decide) (by rw [hself, hconds]; rfl)]
    exact hcounted
  · refine (State.judgeSlip_holds (hcounted.begin n)).end fun hnow => absurd ?_ hparked
    have hcopy := ((s.setPuStation_steady (PuStation.count_copy (s.puStation n) mark)).trans
      (State.judgeSlip_steady _ n)).copies n
    exact hcopy.symm.trans hnow

theorem State.slipWork_holds (h : s.pu.Holds ceil cap none) (n : Station) (mark : Option Bool) {speed : Nat}
    (hspeed : cap → speed ≤ 700) (hslip : (s.station n).settings.slip ≤ 200) :
    (s.slipWork n mark speed).pu.Holds ceil cap none := by
  have hcounted := State.countSlip_holds h n mark
  have hsm : ((s.setPuStation n ((s.puStation n).count mark)).judgeSlip n).sm = s.sm :=
    (State.judgeSlip_acts _ n).blocks .sm (by simp)
  unfold State.slipWork
  dsimp only
  generalize (s.setPuStation n ((s.puStation n).count mark)).judgeSlip n = u at hcounted hsm
  have hn : (u.puStation n).Holds cap := hcounted.station n
  refine State.setPuStation_holds hcounted
    { hn with low := slipThreshold_ge .., high := fun hc => slipThreshold_le _ (hspeed hc) ?_ } fun _ hparked => ?_
  · rw [State.station, hsm]
    exact hslip
  · have hquiet := hcounted.quiet n (by simp) hparked
    exact { hquiet with }

theorem State.slipWork_sm (s : State) (n : Station) (mark : Option Bool) (v : Nat) : (s.slipWork n mark v).sm = s.sm :=
  (s.slipWork_acts n mark v).blocks .sm (by simp)

theorem passArrival_holds {marks : PerStation (Option Bool)} {speed : Nat} (h : s.pu.Holds ceil cap none)
    (hspeed : cap → speed ≤ 700) (hslip : ∀ n, (s.station n).settings.slip ≤ 200)
    (hexec : exec (.passArrival marks speed) s = .next t) : t.pu.Holds ceil cap none := by
  have hstations : ∀ u : State, u = Station.all.foldl (fun t n => t.slipWork n (marks.get n) speed) s →
      u.pu.Holds ceil cap none ∧ u.sm = s.sm := by
    rintro u rfl
    refine List.foldlRecOn (motive := fun t : State => t.pu.Holds ceil cap none ∧ t.sm = s.sm) _ _ ⟨h, rfl⟩
      fun u hu n _ => ?_
    obtain ⟨hpu, hsm⟩ := hu
    refine ⟨State.slipWork_holds hpu n _ hspeed ?_, (u.slipWork_sm ..).trans hsm⟩
    rw [State.station, hsm]
    exact hslip n
  obtain rfl := Host.Outcome.next.inj hexec
  exact State.stoppedWork_holds (State.overspeedWork_holds (hstations _ rfl).1 speed) speed

/-! ### Every command -/

/-- R193, R195: a request leaves a block other than the link as its body leaves it, taken on the frame. -/
theorem request_pu {P : Pu → Prop} (hs : P s.pu) {q : Req} {body : State → State × Answer}
    (hbody : P (body s.takeFrame).1.pu) : P (request q body s).pu := by
  unfold request
  split
  · exact hs
  · exact hbody

theorem exec_puHolds {c : Instr} (hp : Within (Pu.Holds ceil cap none) State.pu s)
    (hslip : ∀ n, (s.station n).settings.slip ≤ 200) (hct : ceil → tableLegal s.ct)
    (hspeed : cap → ∀ marks v, c = .passArrival marks v → v ≤ 700) (h : exec c s = .next t) :
    Within (Pu.Holds ceil cap none) State.pu t := by
  by_cases hpu : Block.pu ∈ touched c
  · cases c with
    | softReset =>
      exact Within.next h (hp.request fun u hu => hu.checked fun _ => { Pu.reset_holds (ceil := ceil) (cap := cap) with })
    | hardReset => exact Within.next h Pu.reset_holds
    | cancel =>
      refine Within.next h ?_
      split
      · exact hp
      · next n _ => exact State.cancelPark_puHolds (s := s.takeFrame) hp n
      · exact hp
    | disarm =>
      exact Within.next h (hp.request fun u hu => hu.checked fun _ => State.disarmStations_puHolds (s := u.withTa _) hu)
    | parkStation n =>
      refine Within.next h ?_
      split
      · next k _ =>
        exact hp.longRequest fun u hu => State.enter_puHolds (s := State.setStation ..) hu k (by decide)
      · exact hp.request fun u hu => hu
    | restoreStation n =>
      refine Within.next h (hp.request fun u hu => hu.checked fun _ => ?_)
      split
      · next k _ => exact State.restore_puHolds hu k
      · exact hu
    | rearmStation n =>
      refine Within.next h (hp.request fun u hu => hu.checked fun _ => ?_)
      split
      · next k _ => exact State.enter_puHolds hu k (by decide)
      · exact hu
    | configureProtection _ _ =>
      exact Within.next h (hp.request fun u hu => hu.checked fun _ => { (hu : u.pu.Holds ceil cap none) with })
    | clearFaultsStation target =>
      refine Within.next h (hp.request fun u hu => ?_)
      unfold clearFaultsBody
      split
      · exact hu.checked fun _ => State.takeClear_puHolds hu _ _
      · split
        · exact clearTruck_puHolds hu
        · exact hu
    | clearFaultsTruck => exact Within.next h (hp.request fun u hu => clearTruck_puHolds hu)
    | setMaskStation target m =>
      refine Within.next h (hp.request fun u hu => ?_)
      unfold setMaskBody
      split
      · next n _ =>
        rw [Within, ((setStationMask_acts u n m).blocks .pu (by simp) : _ = u.pu)]
        exact hu
      · split
        · exact setTruckMask_puHolds hu m
        · exact hu
    | setMaskTruck m => exact Within.next h (hp.request fun u hu => setTruckMask_puHolds hu m)
    | protectionInit =>
      exact Within.next h (request_pu (P := Pu.Holds ceil cap none) hp
        (protectionInitBody_holds (s := s.takeFrame) hp hct))
    | grantHandover hands travel =>
      refine Within.next h ?_
      exact List.foldlRecOn (motive := fun t : State => t.pu.Holds ceil cap none) _ _ hp fun _ ht n _ =>
        State.handover_puHolds ht n _ travel
    | armingEvent =>
      refine Within.next h ?_
      split
      · exact List.foldlRecOn (motive := fun t : State => t.pu.Holds ceil cap none) _ _ hp fun _ ht n _ =>
          State.armStation_puHolds ht n
      · exact hp
    | clearClaim n f => exact Within.next h (State.takeClear_puHolds hp n f)
    | passArrival marks v => exact passArrival_holds hp (fun hc => hspeed hc marks v rfl) hslip h
    | reportJudgement n st r => exact reportJudgement_holds hp n st r h
    | truckConditionBegins b => exact Within.next h (State.beginsEvent_holds hp b.cls)
    | reportFrame n bytes =>
      refine Within.next h ?_
      split
      · split
        · exact State.takeReport_puHolds hp n _
        · exact hp
      · exact hp
    | parkTimerExpiry n =>
      refine Within.next h ?_
      split
      · exact State.completePark_puHolds hp n _ _
      · exact hp
    | raiseClaim n c trips => exact Within.next h (State.takeRaise_puHolds hp n c trips)
    | linkLostEvent n st => exact linkLost_holds hp n st h
    | truckConditionEnds c => exact Within.next h (State.endsEvent_holds hp c)
    | protectionTimer =>
      have hpu : s.pu.Holds ceil cap none := hp
      exact Within.next h { hpu with
        osRef := fun hc r hr => Option.some.inj hr ▸ trailed_le (hpu.osRef hc) (speedCeiling_le (hct hc)) }
    | _ => simp [touched] at hpu
  · rw [Within, (exec_sameBlock h hpu : t.pu = s.pu)]
    exact hp

end Pu

end Sys2Proof.Machine


namespace Sys2Proof.Machine
open Sys2Proof

variable {s t : State}

/-! ### The figures that wait: pass arrivals and grants handed on, and the handles that SL keeps (R35, R45, R198) -/

/-- An event that carries figures of a pass on. -/
@[simp] def handsFigures : Instr → Bool
  | .passArrival _ _ | .grantHandover _ _ => true
  | _ => false

/-- The events with figures of a pass that wait to be taken, and the retired handles that SL keeps. -/
def State.waits (s : State) : List Instr × List Handle := (s.handed.filter handsFigures, s.sl.retired)

section Waits
variable (s : State)

@[simp] theorem State.waits_ite (p : Prop) [Decidable p] (t u : State) :
    (if p then t else u).waits = if p then t.waits else u.waits := apply_ite ..

/-! #### The shared operations -/

@[simp] theorem State.withCt_waits (x : List Slot) : (s.withCt x).waits = s.waits := rfl
@[simp] theorem State.withTa_waits (x : Ta) : (s.withTa x).waits = s.waits := rfl
@[simp] theorem State.withSm_waits (x : PerStation StationCtx) : (s.withSm x).waits = s.waits := rfl
@[simp] theorem State.withGd_waits (x : Gd) : (s.withGd x).waits = s.waits := rfl
@[simp] theorem State.withRs_waits (x : Rs) : (s.withRs x).waits = s.waits := rfl
@[simp] theorem State.withDg_waits (x : Dg) : (s.withDg x).waits = s.waits := rfl
@[simp] theorem State.withSc_waits (x : Sc) : (s.withSc x).waits = s.waits := rfl
@[simp] theorem State.withPm_waits (x : Pm) : (s.withPm x).waits = s.waits := rfl
@[simp] theorem State.withPu_waits (x : Pu) : (s.withPu x).waits = s.waits := rfl
@[simp] theorem State.withFree_waits (x : Nat) : (s.withFree x).waits = s.waits := rfl

@[simp] theorem State.withSl_waits {x : Sl} (h : x.retired = s.sl.retired) : (s.withSl x).waits = s.waits :=
  congrArg (Prod.mk _) h

@[simp] theorem State.hand_waits {i : Instr} (h : ¬handsFigures i = true) : (s.hand i).waits = s.waits := by
  have hnone : [i].filter handsFigures = [] := List.filter_eq_nil_iff.2 fun j hj => by
    rwa [List.mem_singleton.1 hj]
  simp only [State.waits, State.hand, State.withHanded_handed, State.withHanded_sl, List.filter_append, hnone,
    List.append_nil]

@[simp] theorem State.claim_waits (k : Key) (v : Int) (r : Option Nat) (e : Option Expiry) :
    (s.claim k v r e).waits = s.waits := rfl
@[simp] theorem State.release_waits (k : Key) (r : Option Nat) : (s.release k r).waits = s.waits := rfl
@[simp] theorem State.setStation_waits (n : Station) (x : StationCtx) : (s.setStation n x).waits = s.waits := rfl
@[simp] theorem State.setPuStation_waits (n : Station) (x : PuStation) : (s.setPuStation n x).waits = s.waits := rfl
@[simp] theorem State.notify_waits (k : Notice) : (s.notify k).waits = s.waits := rfl
@[simp] theorem State.notifyTrip_waits (n : Station) : (s.notifyTrip n).waits = s.waits := rfl
@[simp] theorem State.reply_waits (q : Option Req) (a : Answer) : (s.reply q a).waits = s.waits := rfl
@[simp] theorem State.takeFrame_waits : s.takeFrame.waits = s.waits := rfl
@[simp] theorem State.discardFrame_waits : s.discardFrame.waits = s.waits := rfl
@[simp] theorem State.endsEvent_waits (c : HandedClass) : (s.endsEvent c).waits = s.waits := rfl

@[simp] theorem State.safeStop_waits : s.safeStop.waits = s.waits := by simp [State.safeStop]

@[simp] theorem State.truckBegins_waits (c : TruckClass) : (s.truckBegins c).waits = s.waits := by
  have hescalate {u : State} (hu : u.waits = s.waits) : (if u.pu.masks.stops c then u.safeStop else u).waits = s.waits := by
    split
    · exact u.safeStop_waits.trans hu
    · exact hu
  exact hescalate (by cases c <;> rfl)

@[simp] theorem State.beginsEvent_waits (c : HandedClass) : (s.beginsEvent c).waits = s.waits := by
  simp [State.beginsEvent]

@[simp] theorem State.handCondition_waits (c : HandedClass) (was now : Bool) :
    (s.handCondition c was now).waits = s.waits := by
  simp [State.handCondition]

@[simp] theorem State.takeCondition_waits (c : HandedClass) (was now : Bool) :
    (s.takeCondition c was now).waits = s.waits := by
  simp [State.takeCondition]

@[simp] theorem State.sendDisable_waits (n : Station) : (s.sendDisable n).waits = s.waits := rfl
@[simp] theorem State.enter_waits (n : Station) (st : StationState) : (s.enter n st).waits = s.waits := rfl
@[simp] theorem State.ceaseJudging_waits (n : Station) : (s.ceaseJudging n).waits = s.waits := rfl
@[simp] theorem State.trip_waits (n : Station) : (s.trip n).waits = s.waits := rfl

@[simp] theorem State.answerPark_waits (n : Station) (a : Answer) : (s.answerPark n a).waits = s.waits := by
  simp [State.answerPark]

@[simp] theorem State.completePark_waits (n : Station) (c : ReplyClass) (d : Option Detail) :
    (s.completePark n c d).waits = s.waits := by
  simp [State.completePark]

@[simp] theorem State.takeRaise_waits (n : Station) (c : StationClass) (trips : Bool) :
    (s.takeRaise n c trips).waits = s.waits := by
  unfold State.takeRaise
  dsimp only
  split
  · rfl
  · split
    · split <;> simp
    · simp

@[simp] theorem State.takeClear_waits (n : Station) (f : StationFlags) : (s.takeClear n f).waits = s.waits := by
  simp [State.takeClear]

/-! #### Requests -/

theorem checked_waits {l : List (Bool × Answer)} {ok : State × Answer} (h : ok.1.waits = s.waits) :
    (checked s l ok).1.waits = s.waits := by
  rcases checked_state s l ok with h' | h' <;> rw [h']
  exact h

theorem request_waits (q : Req) {body : State → State × Answer} (h : ∀ u, (body u).1.waits = u.waits) :
    (request q body s).waits = s.waits := by
  simp [request, h]

theorem longRequest_waits (q : Req) (m : InFlight) (c : State → List (Bool × Answer)) {f : State → State}
    (h : ∀ u, (f u).waits = u.waits) : (longRequest q m c f s).waits = s.waits := by
  unfold longRequest
  split
  · rfl
  · dsimp only
    split
    · rfl
    · exact h _

theorem foldl_waits {α : Type} {f : State → α → State} (h : ∀ u a, (f u a).waits = u.waits) (l : List α) :
    (l.foldl f s).waits = s.waits :=
  List.foldlRecOn (motive := fun t : State => t.waits = s.waits) _ _ rfl fun u hu a _ => (h u a).trans hu

/-! #### The grid dispatcher and the allocator (02, 04) -/

@[simp] theorem State.setBank_waits (k : Bank) (b : BankRec) : (s.setBank k b).waits = s.waits := rfl
@[simp] theorem State.publishGrid_waits : s.publishGrid.waits = s.waits := rfl
@[simp] theorem State.answerArm_waits (ta : TaState) (a : Answer) : (s.answerArm ta a).waits = s.waits := rfl
@[simp] theorem State.evalGrid_waits : s.evalGrid.waits = s.waits := by simp [State.evalGrid]
@[simp] theorem State.testGf_waits (atOnce : Bool) : (s.testGf atOnce).waits = s.waits := by simp [State.testGf]
@[simp] theorem State.testGt_waits : s.testGt.waits = s.waits := by simp [State.testGt]
@[simp] theorem State.startCheck_waits (k : Bank) : (s.startCheck k).waits = s.waits := by simp [State.startCheck]
@[simp] theorem State.gridClear_waits : s.gridClear.1.waits = s.waits := by simp [State.gridClear]
@[simp] theorem State.beginArm_waits : s.beginArm.waits = s.waits := by simp [State.beginArm]

@[simp] theorem State.checkCompletion_waits : s.checkCompletion.waits = s.waits := by
  unfold State.checkCompletion
  split
  · dsimp only
    split <;> simp
  · rfl

@[simp] theorem State.endCheck_waits (k : Bank) (st : BankState) : (s.endCheck k st).waits = s.waits := by
  simp [State.endCheck]

@[simp] theorem State.countOverVoltage_waits (v : Nat) : (s.countOverVoltage v).waits = s.waits := by
  unfold State.countOverVoltage
  dsimp only
  split
  · split <;> simp
  · simp

@[simp] theorem State.dispatchPower_waits (p : Nat) : (s.dispatchPower p).waits = s.waits := by
  unfold State.dispatchPower
  dsimp only
  split <;> rfl

@[simp] theorem State.bankTimer_waits (k : Bank) (x : GridPorts) : (s.bankTimer k x).waits = s.waits := by
  simp [State.bankTimer]

/-! #### The station manager (03) -/

@[simp] theorem State.catchUp_waits (n : Station) (h : GrantHand) : (s.catchUp n h).waits = s.waits := by
  simp [State.catchUp]

@[simp] theorem State.handover_waits (n : Station) (h : GrantHand) (travel : Travel) :
    (s.handover n h travel).waits = s.waits := by
  simp [State.handover]

@[simp] theorem State.armStation_waits (n : Station) : (s.armStation n).waits = s.waits := by
  simp [State.armStation]

@[simp] theorem State.disarmStations_waits : s.disarmStations.waits = s.waits :=
  foldl_waits s (fun u n => by simp [State.standDown]) _

@[simp] theorem State.handReport_waits (n : Station) (r : Report) : (s.handReport n r).waits = s.waits := by
  simp [State.handReport]

@[simp] theorem State.takeReport_waits (n : Station) (r : Report) : (s.takeReport n r).waits = s.waits := by
  unfold State.takeReport
  dsimp only
  split <;> simp

@[simp] theorem State.beginPark_waits (n : Station) : (s.beginPark n).waits = s.waits := rfl
@[simp] theorem State.restore_waits (n : Station) : (s.restore n).waits = s.waits := rfl
@[simp] theorem State.cancelPark_waits (n : Station) : (s.cancelPark n).waits = s.waits := by simp [State.cancelPark]

/-! #### The route sequencer (05) -/

@[simp] theorem State.leaveHold_waits (cause : HoldCause) : (s.leaveHold cause).waits = s.waits := by
  unfold State.leaveHold
  split <;> simp

@[simp] theorem State.routeFault_waits (cause : RouteFault) : (s.routeFault cause).waits = s.waits := by
  simp [State.routeFault]

@[simp] theorem State.resolveRoute_waits : s.resolveRoute.waits = s.waits := by
  unfold State.resolveRoute
  dsimp only
  split <;> simp

@[simp] theorem State.rollover_waits : s.rollover.waits = s.waits := by simp [State.rollover]
@[simp] theorem State.endRouteFault_waits : s.endRouteFault.waits = s.waits := by simp [State.endRouteFault]

@[simp] theorem State.startRoute_waits (g first offset : Nat) : (s.startRoute g first offset).waits = s.waits := by
  simp [State.startRoute]

@[simp] theorem State.stopRoute_waits : s.stopRoute.waits = s.waits := by simp [State.stopRoute]

@[simp] theorem State.abortDetour_waits : s.abortDetour.waits = s.waits := by
  unfold State.abortDetour
  split <;> simp

/-! #### The descent governor, the payload monitor and the steering controller (06 to 08) -/

@[simp] theorem State.governorStandsDown_waits : s.governorStandsDown.waits = s.waits := rfl
@[simp] theorem State.claimTarget_waits (v : Nat) : (s.claimTarget v).waits = s.waits := by simp [State.claimTarget]
@[simp] theorem State.setMode_waits (on : Bool) : (s.setMode on).waits = s.waits := by simp [State.setMode]

@[simp] theorem State.forecastClaims_waits (c : Cursor) (e : WalkEnd) : (s.forecastClaims c e).waits = s.waits := by
  unfold State.forecastClaims
  split
  · split
    · split <;> simp
    · rfl
  · simp
  · simp
  · rfl
  · rfl

@[simp] theorem State.walk_waits (c : Cursor) (clear : Option Detail) : (s.walk c clear).1.waits = s.waits := by
  simp [State.walk]

@[simp] theorem State.claimWanted_waits (k : Key) (want claimed : Option Nat) :
    (s.claimWanted k want claimed).waits = s.waits := by
  unfold State.claimWanted
  split <;> simp

@[simp] theorem State.claimPayload_waits : s.claimPayload.waits = s.waits := by simp [State.claimPayload]
@[simp] theorem State.takePlMask_waits (m : Bool) : (s.takePlMask m).waits = s.waits := by simp [State.takePlMask]
@[simp] theorem State.latch_waits (m : Nat) : (s.latch m).waits = s.waits := by simp [State.latch]

@[simp] theorem State.stillRun_waits (m : Nat) : (s.stillRun m).waits = s.waits := by
  unfold State.stillRun
  dsimp only
  split <;> simp

@[simp] theorem State.sampleWork_waits (b : Body) : (s.sampleWork b).waits = s.waits := by simp [State.sampleWork]
@[simp] theorem State.steerConditions_waits : s.steerConditions.waits = s.waits := by simp [State.steerConditions]
@[simp] theorem State.claimEnvelope_waits : s.claimEnvelope.waits = s.waits := by simp [State.claimEnvelope]
@[simp] theorem State.steeringClear_waits : s.steeringClear.waits = s.waits := by simp [State.steeringClear]

/-! #### The protection unit (09) -/

@[simp] theorem State.sendRaise_waits (n : Station) (c : StationClass) (trips : Bool) :
    (s.sendRaise n c trips).waits = s.waits := by
  simp [State.sendRaise]

@[simp] theorem State.markStation_waits (n : Station) (c : StationClass) (holds : Bool) :
    (s.markStation n c holds).waits = s.waits := rfl

@[simp] theorem State.beginClass_waits (n : Station) (st : StationState) (c : StationClass) (tripped : Bool) :
    (s.beginClass n st c tripped).1.waits = s.waits := by
  unfold State.beginClass
  split <;> simp

@[simp] theorem judgeIv_waits (n : Station) (st : StationState) (r : Judged) : (judgeIv n st r s).1.waits = s.waits := by
  unfold judgeIv
  split <;> simp

@[simp] theorem judgeOc_waits (n : Station) (st : StationState) (r : Judged) (x : State × Bool) :
    (judgeOc n st r x).1.waits = x.1.waits := by
  unfold judgeOc
  split <;> simp

theorem beginIf_waits (p : Prop) [Decidable p] (n : Station) (st : StationState) (c : StationClass) (x : State × Bool) :
    (if p then x.1.beginClass n st c x.2 else x).1.waits = x.1.waits := by
  split <;> simp

@[simp] theorem judgeMt_waits (n : Station) (st : StationState) (r : Judged) (x : State × Bool) :
    (judgeMt n st r x).1.waits = x.1.waits := by
  unfold judgeMt
  extract_lets warn y p
  have hy : y.1.waits = x.1.waits := beginIf_waits ..
  split
  · split
    · simpa using hy
    · split <;> simpa using hy
  · exact hy

@[simp] theorem judgeIt_waits (n : Station) (st : StationState) (r : Judged) (x : State × Bool) :
    (judgeIt n st r x).1.waits = x.1.waits := by
  unfold judgeIt
  extract_lets warn y p
  have hy : y.1.waits = x.1.waits := beginIf_waits ..
  split
  · split
    · simpa using hy
    · split <;> simpa using hy
  · exact hy

@[simp] theorem State.judgeReport_waits (n : Station) (st : StationState) (r : Judged) :
    (s.judgeReport n st r).waits = s.waits := by
  simp [State.judgeReport]

@[simp] theorem State.judgeSlip_waits (n : Station) : (s.judgeSlip n).waits = s.waits := by simp [State.judgeSlip]

@[simp] theorem State.slipWork_waits (n : Station) (mark : Option Bool) (v : Nat) :
    (s.slipWork n mark v).waits = s.waits := by
  simp [State.slipWork]

@[simp] theorem State.dropDemand_waits (v : Nat) : (s.dropDemand v).waits = s.waits := by simp [State.dropDemand]

@[simp] theorem State.overspeedWork_waits (v : Nat) : (s.overspeedWork v).waits = s.waits := by
  unfold State.overspeedWork
  split <;> simp

@[simp] theorem State.stoppedWork_waits (v : Nat) : (s.stoppedWork v).waits = s.waits := by simp [State.stoppedWork]
@[simp] theorem State.clearTruckFlags_waits : s.clearTruckFlags.waits = s.waits := by simp [State.clearTruckFlags]

@[simp] theorem State.writeTruckMasks_waits (m : TruckSet) : (s.writeTruckMasks m).waits = s.waits := by
  simp [State.writeTruckMasks]

theorem clearStation_waits (n : Station) : (clearStation n s).1.waits = s.waits := checked_waits s (by simp)

theorem clearTruck_waits : (clearTruck s).1.waits = s.waits := checked_waits s (by simp)

theorem setStationMask_waits (n : Station) (m : Nat) : (setStationMask n m s).1.waits = s.waits := by
  refine checked_waits s ?_
  split <;> simp

theorem setTruckMask_waits (m : Nat) : (setTruckMask m s).1.waits = s.waits := checked_waits s (by simp)

/-! #### The supervisory link (10) -/

@[simp] theorem State.readReply_waits (n : Nat) : (s.readReply n).waits = s.waits := by
  unfold State.readReply
  split <;> simp

@[simp] theorem State.takeRawFrame_waits (frame : List Byte) (cut : Bool) : (s.takeRawFrame frame cut).waits = s.waits := by
  unfold State.takeRawFrame
  split <;> simp

@[simp] theorem State.takeTransaction_waits (bytes : List Byte) (cut : Bool) :
    (s.takeTransaction bytes cut).waits = s.waits := by
  unfold State.takeTransaction
  split <;> simp

end Waits

end Sys2Proof.Machine


namespace Sys2Proof.Machine
open Sys2Proof

variable {s t : State}

/-! ### What a command adds to the figures that wait -/

/-- The commands that write the waiting figures or the retired handles: the resets and READ_NOTICES empty them, a pass
hands figures on, and a countdown or an expiry tells of a retired record. -/
def writesWaits : Instr → Bool
  | .softReset | .hardReset | .readNotices | .allocationPass _ | .tableTimer | .distanceExpiryCount _
  | .recordExpiry _ => true
  | _ => false

theorem waits_of_next {u : State} (h : (.next u : Out) = .next t) (hu : u.waits = s.waits) : t.waits = s.waits :=
  Host.Outcome.next.inj h ▸ hu

theorem exec_waits {c : Instr} (h : exec c s = .next t) (hc : writesWaits c = false) : t.waits = s.waits := by
  have hread (q : Req) (p : State → List Byte) : (request q (reading p) s).waits = s.waits :=
    request_waits s q fun _ => rfl
  cases c with
  | softReset | hardReset | readNotices | allocationPass _ | tableTimer | distanceExpiryCount _ | recordExpiry _ =>
    exact Bool.noConfusion hc
  | identify | readEffective | readAllocation | readGrid | readRoute | readGovernor | readSteering | readPayload
  | readProtection => exact waits_of_next h (hread ..)
  | cancel =>
    refine waits_of_next h ?_
    split <;> simp [State.cancelArm]
  | malformedFrame bytes cut | frameDiscardedBusy bytes cut => exact waits_of_next h (s.takeTransaction_waits ..)
  | replyRead n => exact waits_of_next h (s.readReply_waits n)
  | queryCeiling _ _ | listCeilings _ _ | profileRead _ | placeCeiling _ | configureDrive _ _ | configureGrid _
  | configureSteering _ _ _ _ _ | steerEnvelope _ | setAssist _ _ | configurePayload _ _ _ _
  | configureProtection _ _ => exact waits_of_next h (request_waits s _ fun u => checked_waits u rfl)
  | routeStart _ _ _ | routeStop | insertDetour _ | abortDetour | resume | disarm | protectionInit =>
    exact waits_of_next h (request_waits s _ fun u => checked_waits u (by simp))
  | amendCeiling _ | retireCeiling _ _ | restoreStation _ | rearmStation _ | writeParkedContext _ =>
    refine waits_of_next h (request_waits s _ fun u => checked_waits u ?_)
    split <;> rfl
  | arm => exact waits_of_next h (longRequest_waits s _ _ _ State.beginArm_waits)
  | parkStation n =>
    refine waits_of_next h ?_
    split
    · exact longRequest_waits s _ _ _ fun u => u.beginPark_waits _
    · exact request_waits s _ fun _ => rfl
  | readStationContext n =>
    refine waits_of_next h (request_waits s _ fun u => ?_)
    unfold readStationBody
    split <;> rfl
  | setBankOrder n =>
    refine waits_of_next h (request_waits s _ fun u => ?_)
    unfold bankOrderBody
    split <;> rfl
  | profileWrite g d0 d1 d2 d3 =>
    refine waits_of_next h (request_waits s _ fun u => ?_)
    unfold profileWriteBody
    split
    · rfl
    · split <;> simp
  | governorMode m =>
    refine waits_of_next h (request_waits s _ fun u => ?_)
    unfold governorModeBody
    split
    · rfl
    · split <;> simp
  | forecast a =>
    refine waits_of_next h (request_waits s _ fun u => ?_)
    unfold forecastBody
    split
    · rfl
    · split <;> simp
  | forecastContinue =>
    refine waits_of_next h (request_waits s _ fun u => ?_)
    unfold forecastContinueBody
    split <;> simp
  | clearFaultsStation target =>
    refine waits_of_next h (request_waits s _ fun u => ?_)
    unfold clearFaultsBody
    split
    · exact clearStation_waits u _
    · split
      · exact clearTruck_waits u
      · rfl
  | clearFaultsTruck => exact waits_of_next h (request_waits s _ fun u => clearTruck_waits u)
  | setMaskStation target m =>
    refine waits_of_next h (request_waits s _ fun u => ?_)
    unfold setMaskBody
    split
    · exact setStationMask_waits u _ m
    · split
      · exact setTruckMask_waits u m
      · rfl
  | setMaskTruck m => exact waits_of_next h (request_waits s _ fun u => setTruckMask_waits u m)
  | grantHandover hands travel => exact waits_of_next h (foldl_waits s (fun u n => u.handover_waits n _ travel) _)
  | armingEvent =>
    refine waits_of_next h ?_
    split
    · exact foldl_waits s State.armStation_waits _
    · rfl
  | passArrival marks v =>
    refine waits_of_next h ?_
    rw [State.stoppedWork_waits, State.overspeedWork_waits]
    exact foldl_waits s (fun u n => u.slipWork_waits n _ v) _
  | forwardMetreEvent | governorUpdate | windowMetre _ | reportJudgement _ _ _ | linkLostEvent _ _ =>
    exact waits_of_next h (by simp)
  | reverseMetreEvent => exact waits_of_next h (by simp)
  | setClaim _ _ _ _ | retireClaim _ _ | protectionTimer | holdLeftAtDg _ _ | routeEditEvent | latchEvent =>
    exact waits_of_next h rfl
  | powerArrival _ _ | gridTimer _ | bankCurrentSeen _ | checkTimerExpiry _ | parkTimerExpiry _ | raiseClaim _ _ _
  | clearClaim _ _ | truckConditionBegins _ | truckConditionEnds _ | steeringUpdate _ | payloadSample _
  | plMaskEvent _ => exact waits_of_next h (by simp)
  | reportFrame n bytes =>
    refine waits_of_next h ?_
    split <;> simp
  | reportDeadlineExpiry n =>
    refine waits_of_next h ?_
    dsimp only
    split
    · split <;> simp
    · rfl
  | holdReachedAtDg k | holdReachedAtPm k =>
    refine waits_of_next h ?_
    split <;> simp
  | holdLeftAtPm k cause =>
    refine waits_of_next h ?_
    split
    · rfl
    · split <;> simp

end Sys2Proof.Machine


namespace Sys2Proof.Machine
open Sys2Proof

variable {s t : State}

/-- The figures that wait are in range; under `ceil` the grants are too. -/
structure WaitsInRange (ceil : Prop) (w : List Instr × List Handle) : Prop where
  speeds : ∀ marks v, Instr.passArrival marks v ∈ w.1 → v ≤ 700
  grants : ceil → ∀ hands travel, Instr.grantHandover hands travel ∈ w.1 → ∀ n, mag (PerStation.get hands n).grant ≤ 1000
  room : w.2.length ≤ 8
  distinct : w.2.Nodup

section Waits
variable {ceil : Prop}

theorem waitsInRange_iff (ceil : Prop) (s : State) :
    WaitsInRange ceil s.waits ↔
      ((∀ marks v, Instr.passArrival marks v ∈ s.handed → v ≤ 700) ∧ s.sl.retired.length ≤ 8 ∧ s.sl.retired.Nodup) ∧
      (ceil → ∀ hands travel, Instr.grantHandover hands travel ∈ s.handed →
        ∀ n, mag (PerStation.get hands n).grant ≤ 1000) := by
  constructor
  · intro h
    exact ⟨⟨fun marks v hv => h.speeds marks v (List.mem_filter.2 ⟨hv, rfl⟩), h.room, h.distinct⟩,
      fun hc hands travel hg => h.grants hc hands travel (List.mem_filter.2 ⟨hg, rfl⟩)⟩
  · rintro ⟨⟨hspeeds, hroom, hdistinct⟩, hgrants⟩
    exact ⟨fun marks v hv => hspeeds marks v (List.mem_filter.1 hv).1,
      fun hc hands travel hg => hgrants hc hands travel (List.mem_filter.1 hg).1, hroom, hdistinct⟩

/-- Events taken off the list, and the same handles. -/
theorem WaitsInRange.of_subset (h : WaitsInRange ceil s.waits) (hhanded : t.handed ⊆ s.handed)
    (hretired : t.sl.retired = s.sl.retired) : WaitsInRange ceil t.waits := by
  obtain ⟨⟨hspeeds, hroom, hdistinct⟩, hgrants⟩ := (waitsInRange_iff ceil s).1 h
  refine (waitsInRange_iff ceil t).2
    ⟨⟨fun marks v hv => hspeeds marks v (hhanded hv), ?_, ?_⟩,
      fun hc hands travel hg => hgrants hc hands travel (hhanded hg)⟩
  · rwa [hretired]
  · rwa [hretired]

/-- The handles emptied. -/
theorem WaitsInRange.emptied (h : WaitsInRange ceil s.waits) (hhanded : t.handed ⊆ s.handed)
    (hretired : t.sl.retired = []) : WaitsInRange ceil t.waits := by
  obtain ⟨⟨hspeeds, -, -⟩, hgrants⟩ := (waitsInRange_iff ceil s).1 h
  refine (waitsInRange_iff ceil t).2
    ⟨⟨fun marks v hv => hspeeds marks v (hhanded hv), ?_, ?_⟩,
      fun hc hands travel hg => hgrants hc hands travel (hhanded hg)⟩
  · simp [hretired]
  · simp [hretired]

theorem request_waitsInRange (h : WaitsInRange ceil s.waits) {q : Req} {body : State → State × Answer}
    (hbody : ∀ u, WaitsInRange ceil u.waits → WaitsInRange ceil (body u).1.waits) :
    WaitsInRange ceil (request q body s).waits := by
  unfold request
  split
  · exact h
  · exact hbody _ h

/-- R198: a handle is entered once, and in the room of eight. -/
theorem State.enterRetired_waits (h : WaitsInRange ceil s.waits) (k : Handle) :
    WaitsInRange ceil (s.enterRetired k).waits := by
  by_cases hmem : k ∈ s.sl.retired
  · rw [s.enterRetired_of_mem hmem]
    exact h
  · rcases lt_or_ge s.sl.retired.length 8 with hroom | hfull
    · rw [s.enterRetired_of_room hmem hroom]
      exact { h with
        room := by
          simp only [State.waits, State.withSl_sl, List.length_append, List.length_cons, List.length_nil]
          omega
        distinct := by
          simp only [State.waits, State.withSl_sl]
          exact List.nodup_append.2 ⟨h.distinct, List.nodup_singleton k, fun a ha b hb => by
            rw [List.mem_singleton.1 hb]
            exact fun he => hmem (he ▸ ha)⟩ }
    · rw [s.enterRetired_of_full hmem hfull]
      exact h

theorem State.expireSlot_waits (h : WaitsInRange ceil s.waits) (i : Nat) : WaitsInRange ceil (s.expireSlot i).waits := by
  unfold State.expireSlot
  dsimp only
  split
  · split
    · exact State.enterRetired_waits h _
    · exact h
  · exact h

theorem State.countDownAll_waits (h : WaitsInRange ceil s.waits) (kind : ExpiryKind) :
    WaitsInRange ceil (s.countDownAll kind).waits :=
  List.foldlRecOn (motive := fun t : State => WaitsInRange ceil t.waits) _ _ h fun _ ht i _ => State.expireSlot_waits ht i

/-- R43, R45: a grant lies between two ceilings of the table. -/
theorem mag_grantOf_le (hct : tableLegal s.ct) (f : PassFigures) (n : Station) : mag (grantOf s f n) ≤ 1000 := by
  obtain ⟨hlow, hhigh⟩ := clampTo_mem s.ct n (clampOf s f n - taken s f n)
  have hretard := torqueCeiling_le hct n true
  have hpropel := torqueCeiling_le hct n false
  unfold grantOf mag
  omega

theorem metreEvents_filter (dir : Travel) : (metreEvents dir).filter handsFigures = [] := by cases dir <;> rfl

/-- R35, R45: the figures that a pass hands on. -/
theorem passEvents_filter (p : PassPorts) (s : State) :
    (passEvents p s).filter handsFigures =
      [.passArrival (.of s.slipMark) s.newSpeed,
        .grantHandover (.of (handOf s (passFigures p s))) (passFigures p s).travel] := by
  have hmetre : (if (passFigures p s).metre then metreEvents (passFigures p s).travel else []).filter handsFigures = [] := by
    split
    · exact metreEvents_filter _
    · rfl
  simp only [passEvents, List.filter_append, hmetre]
  rfl

theorem passed_waits (h : WaitsInRange ceil s.waits) (hspeed : s.newSpeed ≤ 700) (hct : ceil → tableLegal s.ct)
    (p : PassPorts) : WaitsInRange ceil (s.passed p).waits := by
  obtain ⟨⟨hspeeds, hroom, hdistinct⟩, hgrants⟩ := (waitsInRange_iff ceil s).1 h
  refine (waitsInRange_iff ceil _).2 ⟨⟨fun marks v hv => ?_, hroom, hdistinct⟩, fun hc hands travel hg n => ?_⟩
  · rw [State.passed_handed, List.mem_append] at hv
    rcases hv with hv | hv
    · exact hspeeds marks v hv
    · have hfigure : Instr.passArrival marks v ∈ (passEvents p.held s).filter handsFigures :=
        List.mem_filter.2 ⟨hv, rfl⟩
      obtain ⟨-, rfl⟩ : marks = .of s.slipMark ∧ v = s.newSpeed := by simpa [passEvents_filter] using hfigure
      exact hspeed
  · rw [State.passed_handed, List.mem_append] at hg
    rcases hg with hg | hg
    · exact hgrants hc hands travel hg n
    · have hfigure : Instr.grantHandover hands travel ∈ (passEvents p.held s).filter handsFigures :=
        List.mem_filter.2 ⟨hg, rfl⟩
      obtain ⟨rfl, -⟩ : hands = .of (handOf s (passFigures p.held s)) ∧ travel = (passFigures p.held s).travel := by
        simpa [passEvents_filter] using hfigure
      rw [PerStation.get_of]
      exact mag_grantOf_le (hct hc) _ n

theorem exec_waitsInRange {c : Instr} (hw : WaitsInRange ceil s.waits) (hspeed : s.newSpeed ≤ 700)
    (hct : ceil → tableLegal s.ct) (h : exec c s = .next t) : WaitsInRange ceil t.waits := by
  have hreset (u : State) : u.handed.filter outlivesReset ⊆ u.handed := List.filter_subset_self _
  by_cases hwrites : writesWaits c = true
  · cases c with
    | softReset =>
      obtain rfl := Host.Outcome.next.inj h
      refine request_waitsInRange hw fun u hu => ?_
      refine Within.checked (p := WaitsInRange ceil) (block := State.waits) hu fun _ => ?_
      exact hu.emptied (hreset u) rfl
    | hardReset =>
      obtain rfl := Host.Outcome.next.inj h
      exact hw.emptied (hreset s) rfl
    | readNotices =>
      obtain rfl := Host.Outcome.next.inj h
      exact request_waitsInRange hw fun u hu => hu.emptied (List.Subset.refl _) rfl
    | allocationPass p =>
      obtain rfl := Host.Outcome.next.inj h
      exact passed_waits hw hspeed hct p
    | tableTimer =>
      obtain rfl := Host.Outcome.next.inj h
      exact State.countDownAll_waits (s := s.withCt (s.ct.map Slot.rampStep)) hw .time
    | distanceExpiryCount _ =>
      obtain rfl := Host.Outcome.next.inj h
      exact State.countDownAll_waits hw .distance
    | recordExpiry i =>
      obtain rfl := Host.Outcome.next.inj h
      split
      · exact State.expireSlot_waits hw i
      · exact hw
    | _ => exact Bool.noConfusion hwrites
  · rw [exec_waits h (Bool.eq_false_iff.2 hwrites)]
    exact hw

end Waits

/-! ### Every step (R183, R184, and the state tables) -/

/-- A step runs one command, on what is left of the queue it was taken from. -/
theorem step_cases (h : step s = .next t) :
    (∃ c rest, s.pending = c :: rest ∧ exec c (s.withPending rest) = .next t) ∨
    (∃ e rest, s.handed = e :: rest ∧ exec e (s.withHanded rest) = .next t) ∨ t = s := by
  unfold step at h
  split at h
  · next c rest hq => exact .inl ⟨c, rest, hq, h⟩
  · split at h
    · next e rest hq => exact .inr (.inl ⟨e, rest, hq, h⟩)
    · exact .inr (.inr (Host.Outcome.next.inj h).symm)

/-- The ranges of `fieldsInRange` with the level, and under `cap` those of the slip thresholds, under `ceil` those that a
legal table's ceilings bound. -/
structure InRange (ceil cap : Prop) (s : State) : Prop where
  level : levelHeld s.pu
  fields : fieldsInRange s
  thresholds : cap → thresholdsInRange s.pu
  ceilings : ceil → ceilingsHold s

section InRange
variable {ceil cap : Prop}

theorem InRange.puHolds (h : InRange ceil cap s) : s.pu.Holds ceil cap none := by
  obtain ⟨-, -, -, -, -, -, -, hpu, -⟩ := h.fields
  refine (puHolds_iff ..).2 ⟨⟨h.level, hpu⟩, fun hc => ?_, h.thresholds⟩
  obtain ⟨-, -, href⟩ := h.ceilings hc
  exact href

theorem InRange.stations (h : InRange ceil cap s) : StationsKeep ceil s.sm := by
  obtain ⟨-, hsm, -⟩ := h.fields
  refine (stationsKeep_iff ..).2 ⟨hsm, fun hc => ?_⟩
  obtain ⟨hgrants, -⟩ := h.ceilings hc
  exact hgrants

theorem InRange.waits (h : InRange ceil cap s) : WaitsInRange ceil s.waits := by
  obtain ⟨-, -, -, -, -, -, -, -, hwaits⟩ := h.fields
  refine (waitsInRange_iff ..).2 ⟨hwaits, fun hc => ?_⟩
  obtain ⟨-, hgrants, -⟩ := h.ceilings hc
  exact hgrants

/-- One command keeps them all, where the figures that it carries itself are in range. -/
theorem exec_inRange {c : Instr} (hs : InRange ceil cap s) (hct : ceil → tableLegal s.ct)
    (hspeed : cap → ∀ marks v, c = .passArrival marks v → v ≤ 700)
    (hgrants : ceil → ∀ hands travel, c = .grantHandover hands travel → ∀ n, mag (PerStation.get hands n).grant ≤ 1000)
    (h : exec c s = .next t) : InRange ceil cap t := by
  obtain ⟨hta, hsm, hgd, hrs, hdg, hsc, hpm, -⟩ := hs.fields
  have hslip (n : Station) : (s.station n).settings.slip ≤ 200 := by
    obtain ⟨-, -, -, hslip⟩ := (hs.stations n).settings
    exact hslip
  obtain ⟨hpu, hceil, hcap⟩ := (puHolds_iff ..).1 (exec_puHolds hs.puHolds hslip hct hspeed h)
  obtain ⟨hstations, hlast⟩ := (stationsKeep_iff ceil t).1
    (exec_stationsKeep hs.stations (fun hands travel hc hb => hgrants hb hands travel hc) h)
  obtain ⟨hwaits, hhands⟩ := (waitsInRange_iff ceil t).1
    (exec_waitsInRange hs.waits (State.newSpeed_le hta.1) hct h)
  refine ⟨hpu.1, ⟨exec_allocationInRange hta h, hstations, ?_, exec_routeInRange hrs h,
    exec_governorInRange hdg ?_ h, ?_, ?_, hpu.2, hwaits⟩, hcap, fun hc => ⟨hlast hc, hhands hc, hceil hc⟩⟩
  · exact (gridInRange_iff _).2 (exec_gridHolds ((gridInRange_iff _).1 hgd) h)
  · obtain ⟨-, -, -, -, hshort, -⟩ := hta
    exact hshort
  · exact (steeringInRange_iff _).2 (exec_steers ((steeringInRange_iff _).1 hsc) h)
  · exact (payloadInRange_iff _).2 (exec_payloadWeighs ((payloadInRange_iff _).1 hpm) h)

/-- An event taken off its queue. -/
theorem InRange.withPending (h : InRange ceil cap s) (rest : List Instr) : InRange ceil cap (s.withPending rest) :=
  ⟨h.level, h.fields, h.thresholds, h.ceilings⟩

theorem InRange.withHanded (h : InRange ceil cap s) {rest : List Instr} (hrest : rest ⊆ s.handed) :
    InRange ceil cap (s.withHanded rest) := by
  obtain ⟨hta, hsm, hgd, hrs, hdg, hsc, hpm, hpu, hspeeds, hretired⟩ := h.fields
  refine ⟨h.level, ⟨hta, hsm, hgd, hrs, hdg, hsc, hpm, hpu, fun marks v hv => hspeeds marks v (hrest hv), hretired⟩,
    h.thresholds, fun hc => ?_⟩
  obtain ⟨hlast, hgrants, href⟩ := h.ceilings hc
  exact ⟨hlast, fun hands travel hg => hgrants hands travel (hrest hg), href⟩

theorem step_inRange (hs : InRange ceil cap s) (hct : ceil → tableLegal s.ct)
    (hspeed : cap → ∀ marks v rest, s.pending = .passArrival marks v :: rest → v ≤ 700)
    (hwf : ceil → ∀ c rest, s.pending = c :: rest → c.wf = true) (h : step s = .next t) : InRange ceil cap t := by
  rcases step_cases h with ⟨c, rest, hq, h⟩ | ⟨e, rest, hq, h⟩ | rfl
  · refine exec_inRange (hs.withPending rest) hct (fun hc marks v he => ?_) (fun hc hands travel he n => ?_) h
    · exact hspeed hc marks v rest (he ▸ hq)
    · have hformed := hwf hc c rest hq
      subst he
      have hall : ∀ n, (PerStation.get hands n).wf = true := fun n => by
        obtain ⟨h0, h1, h2, h3⟩ : hands.s0.wf = true ∧ hands.s1.wf = true ∧ hands.s2.wf = true ∧ hands.s3.wf = true := by
          simpa [Instr.wf, PerStation.toList] using hformed
        cases n <;> assumption
      exact of_decide_eq_true (Bool.and_eq_true_iff.1 (hall n)).1
  · have hmem : e ∈ s.handed := by rw [hq]; exact List.mem_cons_self
    have hrest : rest ⊆ s.handed := by rw [hq]; exact List.subset_cons_self _ _
    obtain ⟨hspeeds, hgrants⟩ := (waitsInRange_iff ceil s).1 hs.waits
    refine exec_inRange (hs.withHanded hrest) hct (fun hc marks v he => ?_) (fun hc hands travel he => ?_) h
    · exact hspeeds.1 marks v (he ▸ hmem)
    · exact hgrants hc hands travel (he ▸ hmem)
  · exact hs

end InRange

end Sys2Proof.Machine

namespace Sys2Proof.Proofs.WheelStations
open Sys2Proof Sys2Proof.Machine

/-- Settles O59: block by block, what one command leaves (`exec_inRange`), with the two bounds that stand under their own
premises carried along; the events that a step takes from the handed ones are in range with the rest. -/
theorem levelAndFieldsStayInRange : Obligations.LevelAndFieldsStayInRange := by
  intro s t hlevel hfields h
  have hplain : InRange False False t :=
    step_inRange ⟨hlevel, hfields, False.elim, False.elim⟩ False.elim False.elim False.elim h
  refine ⟨hplain.level, hplain.fields, fun hthresholds hspeed => ?_, fun hct hceilings hwf => ?_⟩
  · have hcap : InRange False True t :=
      step_inRange ⟨hlevel, hfields, fun _ => hthresholds, False.elim⟩ False.elim (fun _ => hspeed) False.elim h
    exact hcap.thresholds trivial
  · have hceil : InRange True False t :=
      step_inRange ⟨hlevel, hfields, False.elim, fun _ => hceilings⟩ (fun _ => hct) False.elim (fun _ => hwf) h
    exact hceil.ceilings trivial

end Sys2Proof.Proofs.WheelStations


namespace Sys2Proof

theorem PerStation.set_get {α : Type} (p : PerStation α) (n : Station) : p.set n (p.get n) = p := by
  cases n <;> rfl

theorem PerStation.set_set {α : Type} (p : PerStation α) (n : Station) (x y : α) : (p.set n x).set n y = p.set n y := by
  cases n <;> rfl

end Sys2Proof

namespace Sys2Proof.Machine
open Sys2Proof

variable {s : State} {n : Station}

/-! ### A station's context and PU's record of it rewritten together (R52, R172) -/

/-- Station `n` takes the context `x`, and PU the record `p` of it. -/
def State.give (s : State) (n : Station) (x : StationCtx) (p : PuStation) : State :=
  { s with sm := s.sm.set n x, pu := { s.pu with stations := s.pu.stations.set n p } }

theorem State.setStation_eq_give (s : State) (n : Station) (x : StationCtx) : s.setStation n x = s.give n x (s.puStation n) := by
  rw [State.give, State.puStation, PerStation.set_get]
  rfl

theorem State.give_self (s : State) (n : Station) : s.give n (s.station n) (s.puStation n) = s :=
  (s.setStation_eq_give n _).symm.trans (by rw [State.setStation, State.station, PerStation.set_get]; rfl)

theorem State.setStation_enter_eq_give (s : State) (n : Station) (x : StationCtx) (st : StationState) :
    (s.setStation n x).enter n st = s.give n { x with state := st } { s.puStation n with copy := st } :=
  s.setStation_enter n x st

theorem State.enter_eq_give (s : State) (n : Station) (st : StationState) :
    s.enter n st = s.give n { s.station n with state := st } { s.puStation n with copy := st } := rfl

@[simp] theorem State.give_station_same (s : State) (n : Station) (x : StationCtx) (p : PuStation) :
    (s.give n x p).station n = x := PerStation.get_set_same ..

@[simp] theorem State.give_puStation_same (s : State) (n : Station) (x : StationCtx) (p : PuStation) :
    (s.give n x p).puStation n = p := PerStation.get_set_same ..

theorem State.give_give (s : State) (n : Station) (x y : StationCtx) (p q : PuStation) :
    (s.give n x p).give n y q = s.give n y q := by
  simp only [State.give, PerStation.set_set]

/-- Each station in turn rewritten by its own context and record is every station rewritten at once. -/
theorem foldl_give {f : State → Station → State} (x : Station → StationCtx → StationCtx)
    (p : Station → StationCtx → PuStation → PuStation)
    (hf : ∀ t n, f t n = t.give n (x n (t.station n)) (p n (t.station n) (t.puStation n))) (s : State) :
    Station.all.foldl f s = { s with
      sm := .of fun n => x n (s.station n)
      pu := { s.pu with stations := .of fun n => p n (s.station n) (s.puStation n) } } := by
  simp only [Station.all, List.foldl_cons, List.foldl_nil, hf]
  rfl

/-! ### Grants handed over (R57, R61) -/

theorem caughtUp_eq (grant target : Int) :
    caughtUp grant target = decide (grant = target ∨ (grant.sign = target.sign ∧ mag target ≤ mag grant)) := by
  simp only [caughtUp, Bool.decide_or, Bool.decide_and, beq_eq_decide]

/-- R61: a RESTORING station whose grant has caught up with its clamped target. -/
def StationCtx.catches (x : StationCtx) (h : GrantHand) : Bool := x.state == .restoring && h.clamped.any (caughtUp h.grant)

/-- R61: the state of a station once it has taken its grant. -/
def StationCtx.caughtState (x : StationCtx) (h : GrantHand) : StationState := if x.catches h then .live else x.state

/-- R57: a station that has caught up is sent ENABLE as it was while RESTORING. -/
theorem StationCtx.sendsEnable_caught (x : StationCtx) (h : GrantHand) :
    StationCtx.sendsEnable { x with state := x.caughtState h } = x.sendsEnable := by
  unfold StationCtx.caughtState
  split
  · next hcatches =>
    have hstate : x.state = .restoring := eq_of_beq (Bool.and_eq_true_iff.1 hcatches).1
    simp [StationCtx.sendsEnable, hstate]
  · rfl

theorem State.catchUp_eq (s : State) (n : Station) (h : GrantHand) :
    s.catchUp n h = s.give n { s.station n with state := (s.station n).caughtState h }
      { s.puStation n with copy := if (s.station n).catches h then .live else (s.puStation n).copy } := by
  unfold StationCtx.caughtState
  cases hcatches : (s.station n).catches h with
  | true => exact if_pos hcatches
  | false => exact (if_neg (Bool.eq_false_iff.1 hcatches)).trans (s.give_self n).symm

/-- R57, R61: a station's context once it has taken its grant. -/
def StationCtx.granted (n : Station) (h : GrantHand) (travel : Travel) (x : StationCtx) : StationCtx :=
  StationCtx.send { x with state := x.caughtState h } n travel (if h.enable && x.sendsEnable then h.grant else 0)
    (h.enable && x.sendsEnable)

theorem State.handover_eq (s : State) (n : Station) (h : GrantHand) (travel : Travel) :
    s.handover n h travel = s.give n ((s.station n).granted n h travel)
      { s.puStation n with copy := if (s.station n).catches h then .live else (s.puStation n).copy } := by
  unfold State.handover
  dsimp only
  rw [State.catchUp_eq, State.setStation_eq_give, State.give_give, State.give_station_same, State.give_puStation_same,
    StationCtx.sendsEnable_caught]
  rfl

theorem exec_grantHandover (hands : PerStation GrantHand) (travel : Travel) (s : State) :
    exec (.grantHandover hands travel) s = .next { s with
      sm := .of fun n => (s.station n).granted n (hands.get n) travel
      pu := { s.pu with
        stations := .of fun n => { s.puStation n with
          copy := if (s.station n).catches (hands.get n) then .live else (s.puStation n).copy } } } :=
  congrArg Host.Outcome.next (foldl_give (fun n x => x.granted n (hands.get n) travel)
    (fun n x p => { p with copy := if x.catches (hands.get n) then .live else p.copy })
    (fun t n => t.handover_eq n (hands.get n) travel) s)

end Sys2Proof.Machine

namespace Sys2Proof.Proofs.WheelStations
open Sys2Proof Sys2Proof.Machine

/-- Settles O33: each link's frame is its own station's (`State.handover_eq`), so that the four hand-overs are one. -/
theorem grantHandoverSendsFrames : Obligations.GrantHandoverSendsFrames := by
  refine fun s hands travel => ⟨_, exec_grantHandover hands travel s, rfl, fun n => ?_⟩
  intro x h catches sends grant
  have hcatches : x.catches h = catches := by
    simp only [StationCtx.catches, catches, funext (caughtUp_eq h.grant)]
  have hsends : (h.enable && x.sendsEnable) = sends := by
    simp only [StationCtx.sendsEnable, sends]
    grind
  refine ⟨?_, ?_⟩
  · rw [← hcatches]
    exact PerStation.get_of _ n
  · refine (PerStation.get_of _ n).trans ?_
    change x.granted n h travel = _
    rw [StationCtx.granted, StationCtx.caughtState, hcatches, hsends]
    rfl

end Sys2Proof.Proofs.WheelStations


namespace Sys2Proof.Machine
open Sys2Proof

variable {s : State} {n : Station}

/-! ### Reports and deadlines (R58 to R60, R64) -/

theorem exec_reportFrame_discarded {bytes : List Byte}
    (h : ∀ f, parseReport bytes = some f → f.id ≠ n.num ∨ f.echo ∉ (s.station n).lastTwo) :
    exec (.reportFrame n bytes) s = .next s := by
  refine congrArg Host.Outcome.next ?_
  cases hparse : parseReport bytes with
  | none => rfl
  | some f =>
    refine if_neg fun hvalid => ?_
    simp only [Bool.and_eq_true, decide_eq_true_eq, List.contains_iff_mem] at hvalid
    rcases h f hparse with hid | hecho
    · exact hid hvalid.1
    · exact hecho hvalid.2

theorem exec_reportFrame_taken {bytes : List Byte} {f : ReportFrame} (hparse : parseReport bytes = some f)
    (hid : f.id = n.num) (hecho : f.echo ∈ (s.station n).lastTwo) :
    exec (.reportFrame n bytes) s = .next (s.takeReport n f.report) := by
  refine congrArg Host.Outcome.next ?_
  simp only [hparse]
  exact if_pos (by simp [hid, hecho])

/-- R58: a context that keeps a report. -/
def StationCtx.hears (x : StationCtx) (r : Report) : StationCtx :=
  { x with report := some r, link := .alive, deadline := some 50 }

/-- R59: the station rises from ABSENT at a READY report. -/
def StationCtx.rises (x : StationCtx) (r : Report) : Bool := x.state == .absent && r.ready

/-- R59: the events that a report hands on, by the station's state. -/
def reportEvents (n : Station) (st : StationState) (r : Report) : List Instr :=
  if st = .absent ∨ st = .parked then [] else [.reportJudgement n st r.judged]

theorem State.withHanded_self (s : State) : s.withHanded (s.handed ++ []) = s := by
  rw [List.append_nil]
  rfl

theorem State.hears_handReport (s : State) (n : Station) (r : Report) :
    (s.setStation n ((s.station n).hears r)).handReport n r =
      (s.setStation n ((s.station n).hears r)).withHanded
        (s.handed ++ [.reportJudgement n (s.station n).state r.judged]) := by
  have hsame : (s.setStation n ((s.station n).hears r)).station n = (s.station n).hears r := PerStation.get_set_same ..
  rw [State.handReport, hsame]
  rfl

/-- R59: a READY report of an ABSENT station. -/
theorem State.takeReport_of_rises {r : Report} (h : (s.station n).rises r = true) :
    s.takeReport n r =
      (s.give n { (s.station n).hears r with state := .standby } { s.puStation n with copy := .standby }).withHanded
        (s.handed ++ reportEvents n .standby r) := by
  obtain ⟨hstate, hready⟩ := Bool.and_eq_true_iff.1 h
  unfold State.takeReport
  dsimp only
  split
  case h_1 =>
    rw [if_pos hready, State.setStation_enter_eq_give, State.handReport, State.give_station_same]
    rfl
  all_goals next hst => exact absurd ((eq_of_beq hstate).symm.trans hst) (by decide)

/-- R59, R64: a report that neither raises the station from ABSENT nor completes its park. -/
theorem State.takeReport_of_stays {r : Report} (hrises : (s.station n).rises r = false)
    (hquiet : (s.station n).state ≠ .parking ∨ 20 < mag r.torque) :
    s.takeReport n r =
      (s.setStation n ((s.station n).hears r)).withHanded (s.handed ++ reportEvents n (s.station n).state r) := by
  have hhands : (s.station n).state ≠ .absent → (s.station n).state ≠ .parked →
      (s.setStation n ((s.station n).hears r)).handReport n r =
        (s.setStation n ((s.station n).hears r)).withHanded
          (s.handed ++ reportEvents n (s.station n).state r) := fun habsent hparked => by
    rw [State.hears_handReport, reportEvents, if_neg (not_or.2 ⟨habsent, hparked⟩)]
  have hkeeps : (s.station n).state = .absent ∨ (s.station n).state = .parked →
      s.setStation n ((s.station n).hears r) =
        (s.setStation n ((s.station n).hears r)).withHanded
          (s.handed ++ reportEvents n (s.station n).state r) := fun h => by
    rw [reportEvents, if_pos h]
    exact (State.withHanded_self _).symm
  unfold State.takeReport
  dsimp only
  split
  · next hst =>
    have hready : r.ready = false := by simpa [StationCtx.rises, hst] using hrises
    rw [hready]
    exact hkeeps (.inl hst)
  · next hst => exact hkeeps (.inr hst)
  · next hst =>
    have hloud : ¬mag r.torque ≤ 20 := not_le.2 (hquiet.resolve_left (absurd hst))
    exact (if_neg hloud).trans (hhands (by simp [hst]) (by simp [hst]))
  all_goals next hst => exact hhands (by simp [hst]) (by simp [hst])

/-- R60: the events that a lost link hands on, by the station's state. -/
def lossEvents (n : Station) (st : StationState) : List Instr :=
  if st = .absent ∨ st = .parked then [] else [.linkLostEvent n st]

theorem exec_reportDeadlineExpiry (h : (s.station n).deadline ≠ none) :
    exec (.reportDeadlineExpiry n) s = .next
      ((s.setStation n { s.station n with link := .lost, deadline := none }).withHanded
        (s.handed ++ lossEvents n (s.station n).state)) := by
  refine congrArg Host.Outcome.next ((if_pos (Option.isSome_iff_ne_none.2 h)).trans ?_)
  dsimp only
  split
  · next hst =>
    rw [hst]
    exact (State.withHanded_self _).symm
  · next hst =>
    rw [hst]
    exact (State.withHanded_self _).symm
  · next habsent hparked =>
    rw [lossEvents, if_neg (not_or.2 ⟨habsent, hparked⟩)]
    rfl

end Sys2Proof.Machine

namespace Sys2Proof.Proofs.WheelStations
open Sys2Proof Sys2Proof.Machine

/-- Settles O34: a valid report by whether the station rises from ABSENT, an expired deadline by whether its station is
ABSENT or PARKED. -/
theorem reportsAndDeadlinesAreTaken : Obligations.ReportsAndDeadlinesAreTaken := by
  refine ⟨fun s n bytes h => exec_reportFrame_discarded h, fun s n bytes f hparse hid hecho hquiet => ?_,
    fun s n => ⟨fun h => congrArg _ (if_neg (by simp [h])), fun h => exec_reportDeadlineExpiry h⟩⟩
  intro x rises st
  refine (exec_reportFrame_taken hparse hid hecho).trans (congrArg Host.Outcome.next ?_)
  cases hrises : x.rises f.report with
  | true =>
    have hst : rises = true := hrises
    rw [State.takeReport_of_rises hrises]
    simp only [st, hst, if_true]
    rfl
  | false =>
    have hst : rises = false := hrises
    rw [State.takeReport_of_stays hrises hquiet, State.setStation_eq_give]
    simp only [st, hst, Bool.false_eq_true, if_false]
    rfl

end Sys2Proof.Proofs.WheelStations


namespace Sys2Proof.Machine
open Sys2Proof

variable {s : State} {n : Station}

/-! ### A park completes (R62, R179) -/

/-- A retire claim leaves every slot that does not hold its key. -/
theorem getElem?_claimRetire_of_not_holdsKey {t : List Slot} {k : Key} {i : Nat} {y : Slot} (hi : t[i]? = some y)
    (hy : y.holdsKey k = false) : (claimRetire t k none)[i]? = some y := by
  rcases claimRetire_cases t k none with h | ⟨j, x, hj, hx, h⟩
  · rwa [h]
  · have hne : j ≠ i := by
      rintro rfl
      rw [Option.some.inj (hj.symm.trans hi), hy] at hx
      exact Bool.noConfusion hx
    rwa [h, List.getElem?_set_ne hne]

theorem getElem?_foldl_claimRetire {ks : List Key} {t : List Slot} {i : Nat} {y : Slot} (hi : t[i]? = some y)
    (hy : ∀ k ∈ ks, y.holdsKey k = false) : (ks.foldl (fun u k => claimRetire u k none) t)[i]? = some y := by
  induction ks generalizing t with
  | nil => exact hi
  | cons k ks ih =>
    obtain ⟨hk, hks⟩ := List.forall_mem_cons.1 hy
    exact ih (getElem?_claimRetire_of_not_holdsKey hi hk) hks

/-- R62: a station's context as its park completes, before its DISABLE frame is sent. -/
def StationCtx.parked (x : StationCtx) : StationCtx :=
  { x with
    state := .parked, custody := .supervisor, parkSlot := some x.settings, parkTimer := none, parkOrigin := none
    settings := Settings.default }

/-- R179: PU's record of a station that has parked. -/
def PuStation.parked (p : PuStation) : PuStation := { PuStation.reset with copy := .parked, threshold := p.threshold }

/-- The state in which the park of station `n`, whose context was `x`, has completed and is still to be answered. -/
def State.parkDone (s : State) (n : Station) (x : StationCtx) (l : List Instr) : State :=
  { s.give n (x.parked.send n (Config.freeTravel s.free) 0 false) (s.puStation n).parked with
    ct := stationKeysRetired s.ct n, free := s.free + 1, handed := l }

theorem State.completePark_eq (s : State) (n : Station) (x : StationCtx) (l : List Instr) (cls : ReplyClass)
    (d : Option Detail) :
    ((s.setStation n x).withHanded l).completePark n cls d =
      (s.parkDone n x l).answerPark n ⟨cls, d, settingsBytes x.settings ++ x.torqueBytes⟩ := by
  cases n <;> rfl

/-- R195: an answered park changes SL alone, and nothing when none is in flight for the station. -/
theorem State.answerPark_withSl (s : State) (n : Station) (a : Answer) :
    ∃ sl, s.answerPark n a = s.withSl sl ∧ (s.sl.inFlight ≠ some (.park n) → sl = s.sl) ∧
      (s.sl.inFlight = some (.park n) → sl.inFlight = none ∧
        ∃ r, sl.slot = some r ∧ r.req = some .parkStation ∧ r.cls = a.cls ∧ r.detail = a.detail ∧
          r.payload = a.payload) := by
  by_cases h : s.sl.inFlight = some (.park n)
  · exact ⟨_, State.answerPark_eq h a, fun hne => absurd h hne, fun _ => ⟨rfl, _, rfl, rfl, rfl, rfl, rfl⟩⟩
  · exact ⟨s.sl, if_neg h, fun _ => rfl, fun hpark => absurd hpark h⟩

/-- R62, R179: the park of a station with the context `x` completes while the events `l` are handed on. -/
theorem State.completePark_completed (s : State) (n : Station) (x : StationCtx) (l : List Instr) (cls : ReplyClass)
    (d : Option Detail) :
    parkCompleted s (((s.setStation n x).withHanded l).completePark n cls d) n x cls d ∧
      (((s.setStation n x).withHanded l).completePark n cls d).handed = l := by
  obtain ⟨sl, ht, hidle, hanswer⟩ :=
    (s.parkDone n x l).answerPark_withSl n ⟨cls, d, settingsBytes x.settings ++ x.torqueBytes⟩
  rw [State.completePark_eq, ht]
  exact ⟨⟨⟨_, PerStation.get_set_same ..⟩, fun m hm => PerStation.get_set_other _ _ hm, rfl, rfl,
    fun i y hi hy => getElem?_foldl_claimRetire hi hy, rfl, hidle, hanswer⟩, rfl⟩

/-- R64: the quiet report of a PARKING station. -/
theorem State.takeReport_of_quiet {r : Report} (hst : (s.station n).state = .parking) (hquiet : mag r.torque ≤ 20) :
    s.takeReport n r =
      ((s.setStation n ((s.station n).hears r)).withHanded
        (s.handed ++ [.reportJudgement n .parking r.judged])).completePark n .done none := by
  have hhanded := s.hears_handReport n r
  rw [hst] at hhanded
  rw [← hhanded]
  unfold State.takeReport
  dsimp only
  split
  case h_3 => exact if_pos hquiet
  all_goals next hother => exact absurd (hst.symm.trans hother) (by decide)

/-- R65: a park timer that runs out. -/
theorem exec_parkTimerExpiry (hst : (s.station n).state = .parking) (htimer : (s.station n).parkTimer ≠ none) :
    exec (.parkTimerExpiry n) s = .next (s.completePark n .doneAlert (some .forced)) :=
  congrArg Host.Outcome.next (if_pos (by simp [hst, Option.isSome_iff_ne_none, htimer]))

theorem exec_parkTimerExpiry_stopped (h : (s.station n).state ≠ .parking ∨ (s.station n).parkTimer = none) :
    exec (.parkTimerExpiry n) s = .next s := by
  refine congrArg Host.Outcome.next (if_neg fun hruns => ?_)
  simp only [Bool.and_eq_true, decide_eq_true_eq] at hruns
  rcases h with hst | htimer
  · exact hst hruns.1
  · simp [htimer] at hruns

/-! ### A park begins (R63) -/

@[simp] theorem stateOf_num (n : Station) (s : State) : stateOf n.num s = some (s.station n).state := by
  rw [stateOf, stationOf_num]
  rfl

@[simp] theorem State.takeFrame_station (s : State) (n : Station) : s.takeFrame.station n = s.station n := rfl

theorem exec_parkStation_num (n : Station) (s : State) :
    exec (.parkStation n.num) s =
      .next (longRequest .parkStation (.park n) (parkChecks n.num) (fun t => t.beginPark n) s) := by
  refine congrArg Host.Outcome.next ?_
  simp only [stationOf_num]

theorem exec_parkStation_refused {a : Answer} (h : s.linkFree)
    (hrow : firstFailure (parkChecks n.num s.takeFrame) = some a) :
    exec (.parkStation n.num) s = .next (replied s s .parkStation a) :=
  (exec_parkStation_num n s).trans (congrArg _ (longRequest_refused h hrow))

theorem State.beginPark_eq (s : State) (n : Station) :
    s.beginPark n = s.give n
      { s.station n with
        state := .parking, parkOrigin := StationState.asOrigin (s.station n).state, parkTimer := some 3000 }
      { s.puStation n with copy := .parking } :=
  s.setStation_enter_eq_give n _ _

/-- R63: the states in which a park begins, each with the origin it gives. -/
theorem asOrigin_of_mem {st : StationState} {origin : ParkOrigin}
    (h : (st, origin) ∈ [(StationState.standby, ParkOrigin.standby), (StationState.live, ParkOrigin.live),
      (StationState.restoring, ParkOrigin.restoring), (StationState.tripped, ParkOrigin.tripped)]) :
    StationState.asOrigin st = some origin ∧ st ≠ .absent ∧ st ≠ .parked := by
  simp only [List.mem_cons, Prod.mk.injEq, List.not_mem_nil, or_false] at h
  rcases h with ⟨rfl, rfl⟩ | ⟨rfl, rfl⟩ | ⟨rfl, rfl⟩ | ⟨rfl, rfl⟩ <;> exact ⟨rfl, nofun, nofun⟩

theorem exec_parkStation_accepted (h : s.linkFree) (hstate : (s.station n).state ≠ .absent)
    (hparked : (s.station n).state ≠ .parked) :
    exec (.parkStation n.num) s =
      .next ((s.withSl { s.takeFrame.sl with inFlight := some (.park n) }).beginPark n) := by
  refine (exec_parkStation_num n s).trans (congrArg _ (longRequest_accepted h ?_))
  simp [parkChecks, stationOf_num, firstFailure, hstate, hparked]

end Sys2Proof.Machine

namespace Sys2Proof.Proofs.WheelStations
open Sys2Proof Sys2Proof.Machine

/-- Settles O35: the rows of R63's table and the begin of a park; a completed park in general
(`State.completePark_completed`), at a quiet report and at the timer. -/
theorem parkBeginsAndCompletes : Obligations.ParkBeginsAndCompletes := by
  refine ⟨fun s n hfree hn => ?_, fun s n hfree => ⟨fun habsent => ?_, fun hparked => ?_, fun origin horigin => ?_⟩,
    fun s n bytes f hparse hid hecho hst hquiet => ?_,
    fun s n => ⟨exec_parkTimerExpiry_stopped, fun hst htimer => ?_⟩⟩
  · refine congrArg Host.Outcome.next ?_
    simp only [stationOf_of_le hn]
    exact request_unchanged _ _ hfree rfl
  · exact exec_parkStation_refused hfree (by simp [parkChecks, stationOf_num, firstFailure, habsent])
  · exact exec_parkStation_refused hfree (by simp [parkChecks, stationOf_num, firstFailure, hparked])
  · obtain ⟨has, habsent, hparked⟩ := asOrigin_of_mem horigin
    rw [exec_parkStation_accepted hfree habsent hparked, State.beginPark_eq, ← has]
    rfl
  · rw [exec_reportFrame_taken hparse hid hecho, State.takeReport_of_quiet hst hquiet]
    exact ⟨_, rfl, s.completePark_completed n _ _ .done none⟩
  · rw [exec_parkTimerExpiry hst htimer]
    have hself : (s.setStation n (s.station n)).withHanded s.handed = s :=
      (s.setStation_eq_give n _).trans (s.give_self n)
    have hpark := s.completePark_completed n (s.station n) s.handed .doneAlert (some .forced)
    rw [hself] at hpark
    exact ⟨_, rfl, hpark⟩

end Sys2Proof.Proofs.WheelStations


namespace Sys2Proof.Machine
open Sys2Proof

variable {s : State} {n : Station}

/-! ### Restores, rearms and writes of the parked copy (R68, R69, R71) -/

@[simp] theorem linkLost_num (n : Station) (s : State) : linkLost n.num s = ((s.station n).link == .lost) := by
  rw [linkLost, stationOf_num]
  rfl

@[simp] theorem trippingFlags_num (n : Station) (s : State) :
    trippingFlags n.num s = if (s.station n).settings.tripping then some (s.station n).settings.flags else none := by
  rw [trippingFlags, stationOf_num]
  rfl

theorem exec_restoreStation_refused {k : Nat} {a : Answer} (h : s.linkFree)
    (hrow : ((restoreChecks k s.takeFrame).find? Prod.fst).map Prod.snd = some a) :
    exec (.restoreStation k) s = .next (replied s s .restoreStation a) :=
  congrArg Host.Outcome.next (request_unchanged _ _ h (checked_refused hrow))

theorem exec_rearmStation_refused {k : Nat} {a : Answer} (h : s.linkFree)
    (hrow : ((rearmChecks k s.takeFrame).find? Prod.fst).map Prod.snd = some a) :
    exec (.rearmStation k) s = .next (replied s s .rearmStation a) :=
  congrArg Host.Outcome.next (request_unchanged _ _ h (checked_refused hrow))

theorem exec_writeParkedContext_refused {r : WriteReq} {a : Answer} (h : s.linkFree)
    (hrow : ((writeParkedChecks r s.takeFrame).find? Prod.fst).map Prod.snd = some a) :
    exec (.writeParkedContext r) s = .next (replied s s .writeParkedContext a) :=
  congrArg Host.Outcome.next (request_unchanged _ _ h (checked_refused hrow))

/-- R68: a station enters TRIPPED at its restore exactly where one of its flags trips it. -/
theorem restoredState_eq_tripped (x : Settings) (armed : Bool) : restoredState x armed = .tripped ↔ x.tripping = true := by
  unfold restoredState
  split
  · next htrips => exact iff_of_true rfl htrips
  · next htrips => exact iff_of_false (by split <;> exact nofun) htrips

theorem State.restore_eq (s : State) (n : Station) {p : Settings} (hslot : (s.station n).parkSlot = some p) :
    s.restore n = s.give n
      { s.station n with
        state := restoredState p s.ta.state.armed, custody := .part, settings := p, parkSlot := none }
      { s.puStation n with copy := restoredState p s.ta.state.armed } := by
  unfold State.restore
  dsimp only
  rw [hslot, State.setStation_enter_eq_give]
  rfl

/-- R68: a restore on its conditions. -/
theorem exec_restoreStation_done {p : Settings} (h : s.linkFree) (hst : (s.station n).state = .parked)
    (hlink : (s.station n).link = .alive) (hslot : (s.station n).parkSlot = some p) :
    exec (.restoreStation n.num) s = .next (replied s
      (s.give n
        { s.station n with
          state := restoredState p s.ta.state.armed, custody := .part, settings := p, parkSlot := none }
        { s.puStation n with copy := restoredState p s.ta.state.armed })
      .restoreStation
      (if p.tripping then
        doneAlert .restoredTripped (u8 (stationStateCode (restoredState p s.ta.state.armed)) ++ settingsBytes p)
      else done (u8 (stationStateCode (restoredState p s.ta.state.armed)) ++ settingsBytes p))) := by
  refine congrArg Host.Outcome.next (checked_replied _ _ _ _ _ _ _ h rfl ?_ ?_ rfl)
  · simp [restoreChecks, stationOf_num, hst, hlink]
  · simp only [stationOf_num, State.restore_eq s.takeFrame n hslot, State.give_station_same, restoredState_eq_tripped]
    rfl

/-- R69: a rearm on its conditions. -/
theorem exec_rearmStation_done (h : s.linkFree) (hst : (s.station n).state = .standby) (harmed : s.ta.state.armed = true)
    (hlink : (s.station n).link = .alive) (hclear : (s.station n).settings.tripping = false) :
    exec (.rearmStation n.num) s = .next (replied s
      (s.give n { s.station n with state := .restoring } { s.puStation n with copy := .restoring })
      .rearmStation (done [])) := by
  refine congrArg Host.Outcome.next (checked_replied _ _ _ _ _ _ _ h rfl ?_ ?_ rfl)
  · simp [rearmChecks, stationOf_num, hst, hlink, hclear, harmed]
  · simp only [stationOf_num]
    rfl

/-- R71: the operands of a write are in range. -/
structure WriteReq.InRange (r : WriteReq) : Prop where
  mask : ∀ m, r.mask = some m → stationMaskOf m ≠ none
  trim : ∀ v, r.trim = some v → -50 ≤ v ∧ v ≤ 50
  slip : ∀ v, r.slip = some v → 50 ≤ v ∧ v ≤ 200
  clear : ∀ c, r.clear = some c → stationFlagsOf c ≠ none

/-- R2: the first row that calls for a refusal, as the rows' chain of conditions. -/
theorem find?_fst_eq_foldr (rows : List (Bool × Answer)) :
    (rows.find? Prod.fst).map Prod.snd = rows.foldr (fun row t => if row.1 then some row.2 else t) none := by
  induction rows with
  | nil => rfl
  | cons row rows ih =>
    obtain ⟨fails, a⟩ := row
    cases fails with
    | true => rfl
    | false => exact ih

theorem any_eq_false_of_some {α : Type} {o : Option α} {p : α → Bool} (h : ∀ v, o = some v → p v = false) :
    o.any p = false := by
  cases o with
  | none => rfl
  | some v => exact h v rfl

theorem writeParkedChecks_pass {r : WriteReq} (hr : WriteReq.InRange r) (hn : r.station = n.num)
    (hst : (s.station n).state = .parked) : ∀ y ∈ writeParkedChecks r s, y.1 = false := by
  simp only [writeParkedChecks, hn, stationOf_num, stateOf_num, hst, List.forall_mem_cons]
  refine ⟨rfl, rfl, any_eq_false_of_some fun m hm => ?_, any_eq_false_of_some fun v hv => ?_,
    any_eq_false_of_some fun v hv => ?_, any_eq_false_of_some fun c hc => ?_, nofun⟩
  · exact Option.isNone_eq_false_iff.2 (Option.isSome_iff_ne_none.2 (hr.mask m hm))
  · simpa using hr.trim v hv
  · simpa using hr.slip v hv
  · exact Option.isNone_eq_false_iff.2 (Option.isSome_iff_ne_none.2 (hr.clear c hc))

/-- R71: a write of the parked copy on its conditions. -/
theorem exec_writeParkedContext_done {r : WriteReq} {p : Settings} (h : s.linkFree) (hr : WriteReq.InRange r)
    (hn : r.station = n.num) (hst : (s.station n).state = .parked) (hslot : (s.station n).parkSlot = some p) :
    exec (.writeParkedContext r) s = .next (replied s
      (s.setStation n { s.station n with parkSlot := some (p.written r) })
      .writeParkedContext (done (settingsBytes (p.written r)))) := by
  refine congrArg Host.Outcome.next (checked_replied _ _ _ _ _ _ _ h rfl (writeParkedChecks_pass hr hn hst) ?_ rfl)
  simp only [hn, stationOf_num, State.takeFrame_station, hslot]
  rfl

end Sys2Proof.Machine

namespace Sys2Proof.Proofs.WheelStations
open Sys2Proof Sys2Proof.Machine

/-- Settles O36: the rows of the three requests' tables, and the effect of each on its conditions. -/
theorem restoreRearmAndWriteParked : Obligations.RestoreRearmAndWriteParked := by
  refine ⟨fun s n hfree hn => ⟨?_, ?_, fun r hr => ?_⟩, fun s n hfree => ?_⟩
  · exact exec_restoreStation_refused hfree (by simp [restoreChecks, stationOf_of_le hn])
  · exact exec_rearmStation_refused hfree (by simp [rearmChecks, stationOf_of_le hn])
  · exact exec_writeParkedContext_refused hfree (by simp [writeParkedChecks, hr, stationOf_of_le hn])
  refine ⟨fun hst hlink => ?_, fun hst => ?_, fun hst harmed => ?_, fun hst harmed hlink => ?_,
    fun r d hr => ⟨fun hst => ?_, fun hst hbad => ?_⟩, fun p hst hlink hslot => ?_, fun hst => ?_,
    fun hst harmed hlink => ⟨fun hclear => ?_, fun htrips => ?_⟩,
    fun r p hr hst hslot hmask htrim hslip hflags => ?_⟩
  · exact exec_restoreStation_refused hfree (by simp [restoreChecks, stationOf_num, hst, hlink])
  · exact exec_rearmStation_refused hfree (by simp [rearmChecks, stationOf_num, hst])
  · exact exec_rearmStation_refused hfree (by simp [rearmChecks, stationOf_num, hst, harmed])
  · exact exec_rearmStation_refused hfree (by simp [rearmChecks, stationOf_num, hst, harmed, hlink])
  · exact exec_writeParkedContext_refused hfree (by simp [writeParkedChecks, hr, stationOf_num, hst])
  · refine exec_writeParkedContext_refused hfree ((find?_fst_eq_foldr _).trans ?_)
    have hrows := congrArg (Option.map refuseValue) hbad
    simp only [apply_ite (Option.map refuseValue), Option.map_some, Option.map_none] at hrows
    simpa [writeParkedChecks, hr, stationOf_num, hst] using hrows
  · exact exec_restoreStation_done hfree hst hlink hslot
  · exact exec_restoreStation_refused hfree (by simp [restoreChecks, stationOf_num, hst])
  · exact exec_rearmStation_done hfree hst harmed hlink hclear
  · exact exec_rearmStation_refused hfree (by simp [rearmChecks, stationOf_num, hst, harmed, hlink, htrips])
  · exact exec_writeParkedContext_done hfree ⟨hmask, htrim, hslip, hflags⟩ hr hst hslot

end Sys2Proof.Proofs.WheelStations


namespace Sys2Proof.Machine
open Sys2Proof

variable {s : State} {n : Station} {c : StationClass} {trips : Bool}

/-! ### Raise and clear claims on a station's context (R56, R66) -/

/-- R56: a station's context once its live settings have taken a raise claim. -/
def StationCtx.raised (x : StationCtx) (c : StationClass) : StationCtx := { x with settings := x.settings.raise c }

/-- R56: a claim sent as tripping, or one whose class escalates when SM takes it. -/
def StationCtx.acts (x : StationCtx) (c : StationClass) (trips : Bool) : Bool :=
  trips || (x.state.tripsHere && x.settings.escalates c)

theorem State.takeRaise_parked (h : (s.station n).state = .parked) :
    s.takeRaise n c trips = s.setStation n
      { s.station n with parkSlot := (s.station n).parkSlot.map fun p => p.raise c } :=
  if_pos h

theorem State.takeRaise_of_not_acts (hparked : (s.station n).state ≠ .parked)
    (hacts : (s.station n).acts c trips = false) :
    s.takeRaise n c trips = s.setStation n ((s.station n).raised c) := by
  obtain ⟨rfl, hstays⟩ := Bool.or_eq_false_iff.1 hacts
  simp only [State.takeRaise, hparked, hstays, if_false, Bool.not_false, Bool.true_and, Bool.or_false, Bool.false_eq_true]
  rfl

theorem State.takeRaise_of_inert (h : (s.station n).state = .absent ∨ (s.station n).state = .tripped) :
    s.takeRaise n c trips = s.setStation n ((s.station n).raised c) := by
  rcases h with hst | hst <;> cases trips <;> simp [State.takeRaise, hst, StationState.tripsHere, StationCtx.raised]

/-- R56: a station's context once its live settings have taken a claim that acts, told to the supervisor. -/
def State.toldRaise (s : State) (n : Station) (c : StationClass) (trips : Bool) : State :=
  (s.withSl (if trips then s.sl else (s.notifyTrip n).sl)).setStation n ((s.station n).raised c)

/-- R56: a claim that acts on a station that is not PARKED, by the station's state. -/
theorem State.takeRaise_of_acts (hparked : (s.station n).state ≠ .parked)
    (hacts : (s.station n).acts c trips = true) :
    s.takeRaise n c trips =
      match (s.station n).state with
      | .standby | .live | .restoring => (s.toldRaise n c trips).trip n
      | .parking => (s.toldRaise n c trips).completePark n .doneAlert (some .trippedDuringPark)
      | _ => s.toldRaise n c trips := by
  unfold State.takeRaise
  cases trips with
  | true =>
    simp only [hparked, if_false, Bool.not_true, Bool.false_and, Bool.or_false, if_true]
    rfl
  | false =>
    have hupgraded : ((s.station n).state.tripsHere && (s.station n).settings.escalates c) = true := hacts
    simp only [hparked, if_false, Bool.not_false, Bool.true_and, Bool.false_or, hupgraded, if_true]
    rfl

theorem State.takeRaise_of_parking (hst : (s.station n).state = .parking) (hacts : (s.station n).acts c trips = true) :
    s.takeRaise n c trips = (s.toldRaise n c trips).completePark n .doneAlert (some .trippedDuringPark) := by
  rw [State.takeRaise_of_acts (by simp [hst]) hacts]
  simp only [hst]

theorem State.takeRaise_of_driving (hst : (s.station n).state = .standby ∨ (s.station n).state = .live ∨
    (s.station n).state = .restoring) (hacts : (s.station n).acts c trips = true) :
    s.takeRaise n c trips = (s.toldRaise n c trips).trip n := by
  have hparked : (s.station n).state ≠ .parked := fun h => by simp [h] at hst
  rw [State.takeRaise_of_acts hparked hacts]
  rcases hst with hst | hst | hst <;> simp only [hst]

/-- R56: a station with the context `x` trips. -/
theorem State.setStation_trip (s : State) (n : Station) (x : StationCtx) :
    (s.setStation n x).trip n =
      { s.give n (StationCtx.send { x with state := .tripped } n (Config.freeTravel s.free) 0 false)
          { s.puStation n with copy := .tripped } with free := s.free + 1 } := by
  cases n <;> rfl

/-- R56: a station's context once its live settings have taken a clear claim. -/
def StationCtx.cleared (x : StationCtx) (f : StationFlags) : StationCtx :=
  { x with settings := { x.settings with flags := x.settings.flags.minus f } }

/-- R66: a TRIPPED station that no flag trips any more leaves TRIPPED. -/
def StationCtx.leaves (x : StationCtx) (f : StationFlags) : Bool :=
  x.state == .tripped && !(x.cleared f).settings.tripping

theorem State.takeClear_eq (s : State) (n : Station) (f : StationFlags) :
    s.takeClear n f = s.give n
      { (s.station n).cleared f with
        state := if (s.station n).leaves f then .standby else (s.station n).state }
      { s.puStation n with copy := if (s.station n).leaves f then .standby else (s.puStation n).copy } := by
  cases hleaves : (s.station n).leaves f with
  | true => exact (if_pos hleaves).trans (State.setStation_enter_eq_give ..)
  | false => exact (if_neg (Bool.eq_false_iff.1 hleaves)).trans (State.setStation_eq_give ..)

end Sys2Proof.Machine

namespace Sys2Proof.Proofs.WheelStations
open Sys2Proof Sys2Proof.Machine

/-- Settles O37: a raise claim by the station's state and whether it acts, a clear claim by whether the station leaves
TRIPPED. -/
theorem raiseAndClearClaimsAct : Obligations.RaiseAndClearClaimsAct := by
  refine ⟨fun s n c trips => ⟨fun hparked => ?_, fun hstays => ?_, fun hst hacts => ?_, fun hst hacts => ?_⟩,
    fun s n f => ?_⟩
  · exact congrArg Host.Outcome.next (State.takeRaise_parked hparked)
  · refine congrArg Host.Outcome.next ?_
    rcases hstays with habsent | htripped | ⟨hparked, hacts⟩
    · exact State.takeRaise_of_inert (.inl habsent)
    · exact State.takeRaise_of_inert (.inr htripped)
    · exact State.takeRaise_of_not_acts hparked hacts
  · refine ⟨_, congrArg Host.Outcome.next
      ((State.takeRaise_of_driving hst hacts).trans (State.setStation_trip ..)), ⟨_, PerStation.get_set_same ..⟩, ?_⟩
    cases trips <;> cases n <;> rfl
  · refine ⟨_, congrArg Host.Outcome.next (State.takeRaise_of_parking hst hacts), ?_⟩
    cases trips <;> exact State.completePark_completed _ n _ s.handed ..
  · exact congrArg Host.Outcome.next (s.takeClear_eq n f)

end Sys2Proof.Proofs.WheelStations


namespace Sys2Proof

/-! ### Sealed frames and two-byte fields (R204) -/

/-- R204: a sealed frame ends with the CRC of its body. -/
theorem crcGood_sealFrame (body : List Byte) : crcGood (sealFrame body) = true := by
  have hlength : (sealFrame body).length - 2 = body.length := by simp [sealFrame, crcBytes]
  rw [crcGood, hlength]
  simp [sealFrame]

theorem fieldU8_of_drop {p t : List Byte} {k : Nat} {b : Byte} (h : p.drop k = b :: t) : fieldU8 p k = b.toNat := by
  have hget : p[k]? = some b := by
    have hhead : (p.drop k)[0]? = some b := by rw [h]; rfl
    simpa using hhead
  rw [fieldU8, List.getD_eq_getElem?_getD, hget]
  rfl

/-- R204: a two-byte field is read back as the word that was written. -/
theorem fieldU16_of_drop {p t : List Byte} {k : Nat} {x : Int} (h : p.drop k = twoBytes x ++ t) :
    fieldU16 p k = (BitVec.ofInt 16 x).toNat := by
  have hlow : p.drop (k + 1) = (BitVec.ofInt 16 x).setWidth 8 :: t := by
    rw [← List.drop_drop, h]
    rfl
  rw [fieldU16, fieldU8_of_drop h, fieldU8_of_drop hlow]
  simp only [BitVec.toNat_setWidth, BitVec.toNat_ushiftRight, Nat.shiftRight_eq_div_pow]
  have := (BitVec.ofInt 16 x).isLt
  omega

theorem fieldU16_twoBytes {p t : List Byte} {k n : Nat} (h : p.drop k = twoBytes n ++ t) (hn : n < 65536) :
    fieldU16 p k = n := by
  rw [fieldU16_of_drop h, BitVec.toNat_ofInt]
  omega

theorem fieldS16_twoBytes {p t : List Byte} {k : Nat} {x : Int} (h : p.drop k = twoBytes x ++ t) (hx : mag x ≤ 32767) :
    fieldS16 p k = x := by
  have hmag : x.natAbs ≤ 32767 := hx
  rw [fieldS16, fieldU16_of_drop h, BitVec.toNat_ofInt]
  split <;> omega

/-! ### REPORT frames (R58, R204) -/

theorem Report.held_of_inRange {r : Report} (htorque : mag r.torque ≤ 1000) (hwheel : mag r.wheel ≤ 700)
    (hregen : r.regen ≤ 3000) : r.held = r := by
  have ht : r.torque.natAbs ≤ 1000 := htorque
  have hw : r.wheel.natAbs ≤ 700 := hwheel
  rw [Report.held, hold_of_mem (x := r.torque) (by omega) (by omega),
    hold_of_mem (x := r.wheel) (by omega) (by omega), min_eq_left hregen]

/-- R204: the first byte of a REPORT frame holds the station in its low and the echo in its high bits. -/
theorem reportByte_fields {id echo : Nat} (hid : id ≤ 3) (hecho : echo ≤ 15) :
    (BitVec.ofNat 8 (id % 4 + 16 * (echo % 16)) &&& 3#8).toNat = id ∧
      (BitVec.ofNat 8 (id % 4 + 16 * (echo % 16)) >>> 4).toNat = echo := by
  have hmask (m : Nat) : m &&& 3 = m % 4 := Nat.and_two_pow_sub_one_eq_mod m 2
  simp only [BitVec.toNat_and, BitVec.toNat_ushiftRight, BitVec.toNat_ofNat, Nat.shiftRight_eq_div_pow]
  norm_num [hmask]
  omega

theorem reportMarks_fields (ready peakOc invFault : Bool) :
    let marks := BitVec.ofNat 8 ((if ready then 1 else 0) + (if peakOc then 2 else 0) + (if invFault then 4 else 0))
    marks.getLsbD 0 = ready ∧ marks.getLsbD 1 = peakOc ∧ marks.getLsbD 2 = invFault := by
  revert ready peakOc invFault
  decide

theorem parseReport_encodeReport {f : ReportFrame} (hid : f.id ≤ 3) (hecho : f.echo ≤ 15)
    (htorque : mag f.report.torque ≤ 1000) (hwheel : mag f.report.wheel ≤ 700)
    (hmotor : mag f.report.motor ≤ 32767) (hinverter : mag f.report.inverter ≤ 32767)
    (hregen : f.report.regen ≤ 3000) : parseReport (encodeReport f) = some f := by
  obtain ⟨hidByte, hechoByte⟩ := reportByte_fields hid hecho
  obtain ⟨hready, hpeak, hfault⟩ := reportMarks_fields f.report.ready f.report.peakOc f.report.invFault
  have hvalid : ((encodeReport f).length == 14 && crcGood (encodeReport f)) = true :=
    Bool.and_eq_true_iff.2 ⟨rfl, crcGood_sealFrame _⟩
  have htorque' : fieldS16 (encodeReport f) 1 = f.report.torque := fieldS16_twoBytes rfl (by omega)
  have hwheel' : fieldS16 (encodeReport f) 3 = f.report.wheel := fieldS16_twoBytes rfl (by omega)
  have hmotor' : fieldS16 (encodeReport f) 5 = f.report.motor := fieldS16_twoBytes rfl hmotor
  have hinverter' : fieldS16 (encodeReport f) 7 = f.report.inverter := fieldS16_twoBytes rfl hinverter
  have hregen' : fieldU16 (encodeReport f) 9 = f.report.regen := fieldU16_twoBytes rfl (by omega)
  have hid' : ((encodeReport f).getD 0 0 &&& 3).toNat = f.id := hidByte
  have hecho' : ((encodeReport f).getD 0 0 >>> 4).toNat = f.echo := hechoByte
  have hready' : ((encodeReport f).getD 11 0).getLsbD 0 = f.report.ready := hready
  have hpeak' : ((encodeReport f).getD 11 0).getLsbD 1 = f.report.peakOc := hpeak
  have hfault' : ((encodeReport f).getD 11 0).getLsbD 2 = f.report.invFault := hfault
  rw [parseReport, if_pos hvalid, htorque', hwheel', hmotor', hinverter', hregen']
  simp only [hid', hecho', hready', hpeak', hfault']
  exact congrArg (fun r => some (ReportFrame.mk f.id f.echo r)) (Report.held_of_inRange htorque hwheel hregen)

/-! ### Fields side by side -/

theorem shiftLeft_or_shiftLeft {b k : Nat} (a i : Nat) (h : b < 2 ^ k) :
    a <<< (k + i) ||| b <<< i = (a * 2 ^ k + b) <<< i := by
  rw [Nat.shiftLeft_add, ← Nat.shiftLeft_or_distrib, ← Nat.shiftLeft_add_eq_or_of_lt h, Nat.shiftLeft_eq a k]

end Sys2Proof

namespace Sys2Proof.Machine
open Sys2Proof

/-! ### Descriptor words (R204) -/

theorem Surface.code_lt (x : Surface) : Surface.code x < 4 := by cases x <;> decide

/-- R204: the word of a SPAN descriptor as a number, field by field. -/
theorem toNat_descWord_span {len limit : Nat} (grade : Int) (surface : Surface) (notify : Bool) (hlen : len ≤ 4095)
    (hlimit : limit ≤ 700) :
    (descWord (.span len grade limit surface notify)).toNat =
      (((len * 512 + (BitVec.ofInt 9 grade).toNat) * 1024 + limit) * 4 + Surface.code surface) * 16 +
        if notify then 8 else 0 := by
  have hsurface := Surface.code_lt surface
  have hgrade : (BitVec.ofInt 9 grade).toNat < 2 ^ 9 := BitVec.isLt _
  have hlen' : (BitVec.ofNat 40 len <<< 25).toNat = len <<< (9 + 16) := by
    simp [Nat.shiftLeft_eq]
    omega
  have hgrade' : ((BitVec.ofInt 9 grade).setWidth 40 <<< 16).toNat = (BitVec.ofInt 9 grade).toNat <<< (10 + 6) := by
    simp [Nat.shiftLeft_eq]
    omega
  have hlimit' : (BitVec.ofNat 40 limit <<< 6).toNat = limit <<< (2 + 4) := by
    simp [Nat.shiftLeft_eq]
    omega
  have hsurface' : (BitVec.ofNat 40 (Surface.code surface) <<< 4).toNat = Surface.code surface <<< (4 + 0) := by
    simp [Nat.shiftLeft_eq]
    omega
  have hnotify : (if notify then 8#40 else 0#40).toNat = (if notify then 8 else 0) <<< 0 := by cases notify <;> rfl
  have hnotify' : (if notify then 8 else 0) < 2 ^ 4 := by cases notify <;> decide
  simp only [descWord, BitVec.toNat_or]
  rw [hlen', hgrade', hlimit', hsurface', hnotify, shiftLeft_or_shiftLeft len 16 hgrade,
    shiftLeft_or_shiftLeft _ 6 (by omega), shiftLeft_or_shiftLeft _ 4 (by omega), shiftLeft_or_shiftLeft _ 0 hnotify']
  rfl

theorem toNat_descWord_jump {g : Nat} (hg : g ≤ 63) : (descWord (.jump g)).toNat = (256 + g) * 536870912 := by
  have hkind : (1#40 <<< 37).toNat = 1 <<< (8 + 29) := rfl
  have htarget : (BitVec.ofNat 40 g <<< 29).toNat = g <<< 29 := by
    simp [Nat.shiftLeft_eq]
    omega
  rw [descWord, BitVec.toNat_or, hkind, htarget, shiftLeft_or_shiftLeft 1 29 (by omega), Nat.shiftLeft_eq]
  norm_num

/-! #### The fields of a word, as parts of its number -/

theorem wordKind_eq (w : BitVec 40) : wordKind w = w.toNat / 137438953472 % 8 := by
  simp [wordKind, Nat.shiftRight_eq_div_pow]

theorem wordLength_eq (w : BitVec 40) : wordLength w = w.toNat / 33554432 % 4096 := by
  simp [wordLength, Nat.shiftRight_eq_div_pow]

theorem wordLimit_eq (w : BitVec 40) : wordLimit w = w.toNat / 64 % 1024 := by
  simp [wordLimit, Nat.shiftRight_eq_div_pow]

theorem wordSurface_eq (w : BitVec 40) : wordSurface w = w.toNat / 16 % 4 := by
  simp [wordSurface, Nat.shiftRight_eq_div_pow]

theorem wordTarget_eq (w : BitVec 40) : wordTarget w = w.toNat / 536870912 % 256 := by
  simp [wordTarget, Nat.shiftRight_eq_div_pow]

theorem wordNotify_eq (w : BitVec 40) : wordNotify w = decide (w.toNat / 8 % 2 = 1) := by
  simp [wordNotify, BitVec.getLsbD, Nat.testBit_eq_decide_div_mod_eq]

theorem wordGrade_eq {w : BitVec 40} {grade : Int} (hlow : -250 ≤ grade) (hhigh : grade ≤ 250)
    (h : w.toNat / 65536 % 512 = (BitVec.ofInt 9 grade).toNat) : wordGrade w = grade := by
  have hbits : w.extractLsb' 16 9 = BitVec.ofInt 9 grade := by
    apply BitVec.eq_of_toNat_eq
    rw [← h]
    simp [Nat.shiftRight_eq_div_pow]
  rw [wordGrade, hbits, BitVec.toInt_ofInt]
  exact Int.bmod_eq_of_le (by omega) (by omega)

theorem surfaceOf_code (x : Surface) : surfaceOf (Surface.code x) = some x := by cases x <;> rfl

theorem holdKindOf_code (k : HoldKind) : holdKindOf k.code = some k := by cases k <;> rfl

/-- R94, R204: the word of a legal descriptor is accepted, and spells the descriptor. -/
theorem descWord_legal {d : Desc} (hd : d.legal) : wordFault (descWord d) = none ∧ descOf (descWord d) = d := by
  cases d with
  | span len grade limit surface notify =>
    obtain ⟨hlen, hlow, hhigh, hlimit⟩ := hd
    have hword := toNat_descWord_span grade surface notify hlen hlimit
    have hsurface := Surface.code_lt surface
    have hgrade : (BitVec.ofInt 9 grade).toNat < 512 := BitVec.isLt _
    generalize descWord (.span len grade limit surface notify) = w at hword ⊢
    have hbit : (if notify then 8 else 0) < 16 := by cases notify <;> decide
    have hkind : wordKind w = 0 := by rw [wordKind_eq]; omega
    have hlength : wordLength w = len := by rw [wordLength_eq]; omega
    have hgrade' : wordGrade w = grade := wordGrade_eq hlow hhigh (by omega)
    have hlimit' : wordLimit w = limit := by rw [wordLimit_eq]; omega
    have hsurface' : wordSurface w = Surface.code surface := by rw [wordSurface_eq]; omega
    have hnotify : wordNotify w = notify := by
      rw [wordNotify_eq]
      cases notify <;> simp at hword ⊢ <;> omega
    rw [wordFault, descOf, hkind, hlength, hgrade', hlimit', hsurface', hnotify, surfaceOf_code]
    simp [not_lt.2 hlow, not_lt.2 hhigh, not_lt.2 hlimit]
  | jump g =>
    have hg : g ≤ 63 := hd
    have hword := toNat_descWord_jump hg
    generalize descWord (.jump g) = w at hword ⊢
    have hkind : wordKind w = 1 := by rw [wordKind_eq]; omega
    have htarget : wordTarget w = g := by rw [wordTarget_eq]; omega
    rw [wordFault, descOf, hkind, htarget]
    simp [not_lt.2 hg]
  | stop => exact ⟨rfl, rfl⟩
  | hold k => cases k <;> exact ⟨rfl, rfl⟩

end Sys2Proof.Machine

namespace Sys2Proof.Proofs.WheelStations
open Sys2Proof Sys2Proof.Machine

/-- Settles O13: the REPORT frame field by field, the descriptor word as a number with its fields side by side, and the
samples by evaluation. -/
theorem framesAndWordsDecodeToTheirFields : Obligations.FramesAndWordsDecodeToTheirFields :=
  ⟨fun _ hid hecho htorque hwheel hmotor hinverter hregen =>
      parseReport_encodeReport hid hecho htorque hwheel hmotor hinverter hregen,
    fun _ hd => descWord_legal hd, by decide +kernel, by decide +kernel, by decide +kernel, by decide +kernel,
    by decide +kernel, by decide +kernel, by decide⟩

end Sys2Proof.Proofs.WheelStations

namespace Sys2Proof.Machine
open Sys2Proof

variable {s t : State}

/-! ### Banks as their states say (R77 to R79) -/

/-- `banksLegal` by its parts. -/
structure Gd.Legal (g : Gd) : Prop where
  bank : ∀ k, (g.banks.get k).legal
  lead : ∀ k, g.lead = some k → (g.banks.get k).state ≠ .failed
  noLead : g.lead = none → ∀ k, (g.banks.get k).state = .failed

theorem banksLegal_iff (g : Gd) : banksLegal g ↔ g.Legal := by
  constructor
  · rintro ⟨ha, hb, hlead, hnone⟩
    exact ⟨fun k => by cases k <;> assumption, hlead, hnone⟩
  · exact fun h => ⟨h.bank .a, h.bank .b, h.lead, h.noLead⟩

section Bank
variable {b : BankRec}

theorem BankRec.startCheck_legal (b : BankRec) : b.startCheck.legal := ⟨by simp [BankRec.startCheck], rfl, rfl⟩

theorem BankRec.endCheck_legal (b : BankRec) (rated cap : Nat) {st : BankState} (hst : st = .ready ∨ st = .failed) :
    (b.endCheck rated cap st).legal := by
  rcases hst with rfl | rfl
  · exact ⟨by simp [BankRec.endCheck], rfl⟩
  · exact ⟨by simp [BankRec.endCheck], rfl, rfl⟩

/-- R77: a bank that does not serve has no available power. -/
theorem BankRec.legal.avail_of_idle (h : b.legal) (hidle : b.state.serves = false) : b.avail = 0 := by
  obtain ⟨-, hstate⟩ := h
  cases hst : b.state with
  | ready | dissipating =>
    rw [hst] at hidle
    cases hidle
  | offline | checking | failed =>
    rw [hst] at hstate
    exact hstate.2

/-- R80: a bank that serves stays READY or DISSIPATING by its share, and a READY one has chopper 0. -/
theorem BankRec.legal.assign (h : b.legal) (rated share : Nat) : (b.assign rated share).legal := by
  obtain ⟨htimer, -⟩ := id h
  unfold BankRec.assign
  split
  · next hserves =>
    have hstopped : b.checkTimer.isSome ↔ False := by
      rw [htimer]
      exact iff_false_intro fun hc => by simp [hc, BankState.serves] at hserves
    rcases Nat.eq_zero_or_pos share with rfl | hpos
    · exact ⟨by simp [hstopped], by simp⟩
    · exact ⟨by simp [hstopped, hpos], by simp [hpos]⟩
  · exact h

theorem BankRec.assign_failed_iff (b : BankRec) (rated share : Nat) :
    (b.assign rated share).state = .failed ↔ b.state = .failed := by
  unfold BankRec.assign
  split
  · next hserves =>
    refine iff_of_false ?_ fun hfailed => by simp [hfailed, BankState.serves] at hserves
    dsimp only
    split <;> simp
  · rfl

/-- R84: a bank that fails open-grid served, so that no check of it runs. -/
theorem BankRec.legal.openStep (h : b.legal) (current : Nat) : (b.openStep current).legal := by
  obtain ⟨htimer, -⟩ := id h
  unfold BankRec.openStep
  split
  · next hserves =>
    split
    · split
      · refine ⟨htimer.trans (iff_of_false ?_ nofun), rfl, rfl⟩
        exact fun hc => by simp [hc, BankState.serves] at hserves
      · exact h
    · exact h
  · exact h

/-- R85: a bank that does not serve has no available power. -/
theorem BankRec.legal.availStep (h : b.legal) (rated cap : Nat) : (b.availStep rated cap).legal := by
  obtain ⟨htimer, hstate⟩ := h
  refine ⟨htimer, ?_⟩
  cases hst : b.state with
  | ready => simpa [BankRec.availStep, hst] using hstate
  | dissipating => simp [BankRec.availStep, hst]
  | offline | checking | failed =>
    simp only [hst] at hstate
    simp [BankRec.availStep, hst, availPower, BankState.serves, hstate]

theorem BankRec.legal.timerSteps (h : b.legal) (cfg : GridCfg) (k : Bank) (x : GridPorts) :
    (b.timerSteps cfg k x).legal := by
  have hblower (speed : Nat) :
      ((b.heatStep (cfg.capacity.get k) (cfg.cooling.get k) cfg.altitude).blowerStep (cfg.capacity.get k) speed).legal := h
  exact ((hblower _).openStep _).availStep _ _

end Bank

/-! ### GD's banks and its lead (R81) -/

/-- R81: the lead that an order calls for is not FAILED. -/
theorem settledLead_not_failed {order : LeadOrder} {lead : Option Bank} {failed : Bank → Bool} {k : Bank}
    (h : settledLead order lead failed = some k) : failed k = false := by
  have hfirst (j : Bank)
      (hj : (if !failed j then some j else if !failed j.other then some j.other else none) = some k) :
      failed k = false := by
    split at hj
    · next hok => exact Option.some.inj hj ▸ Bool.not_eq_true' _ ▸ hok
    · split at hj
      · next hok => exact Option.some.inj hj ▸ Bool.not_eq_true' _ ▸ hok
      · cases hj
  cases order <;> exact hfirst _ h

/-- R81: an order calls for no lead only where both banks are FAILED. -/
theorem settledLead_none {order : LeadOrder} {lead : Option Bank} {failed : Bank → Bool}
    (h : settledLead order lead failed = none) (k : Bank) : failed k = true := by
  have hfirst (j : Bank)
      (hj : (if !failed j then some j else if !failed j.other then some j.other else none) = none) :
      failed k = true := by
    split at hj
    · cases hj
    · next hnot =>
      split at hj
      · cases hj
      · next hnot' =>
        rcases bank_eq_or_other j k with rfl | rfl
        · simpa using hnot
        · simpa using hnot'
  cases order <;> exact hfirst _ h

section Grid
variable {g : Gd}

theorem Gd.settle_legal (h : ∀ k, (g.banks.get k).legal) : g.settle.Legal where
  bank k := by
    rw [show g.settle.banks.get k = _ from g.settle_bank k]
    exact h k
  lead k hk := by
    rw [Gd.settle_lead] at hk
    rw [(g.settle_bank k).state]
    exact beq_eq_false_iff_ne.1 (settledLead_not_failed hk)
  noLead hnone k := by
    rw [Gd.settle_lead] at hnone
    rw [(g.settle_bank k).state]
    exact beq_iff_eq.1 (settledLead_none hnone k)

/-- The banks replaced by legal ones, FAILED as they were. -/
theorem Gd.Legal.mapBanks (h : g.Legal) {f : Bank → BankRec} (hf : ∀ k, (f k).legal)
    (hfailed : ∀ k, (f k).state = .failed ↔ (g.banks.get k).state = .failed) : Gd.Legal { g with banks := .of f } where
  bank k := by
    rw [PerBank.get_of]
    exact hf k
  lead k hk := by
    rw [PerBank.get_of, ne_eq, hfailed]
    exact h.lead k hk
  noLead hnone k := by
    rw [PerBank.get_of, hfailed]
    exact h.noLead hnone k

theorem Gd.legal_setBank (h : ∀ k, (g.banks.get k).legal) {k : Bank} {b : BankRec} (hb : b.legal) (j : Bank) :
    ((g.banks.set k b).get j).legal := by
  rw [PerBank.get_set]
  split
  · exact hb
  · exact h j

/-- R81: under ALTERNATE the lead goes to the other bank only where that is not FAILED. -/
theorem Gd.Legal.countLead (h : g.Legal) : g.countLead.Legal := by
  have hset {l : Bank} (hl : g.lead = some l) {b : BankRec} (hb : b.legal) (hst : b.state = (g.banks.get l).state) :
      Gd.Legal { g with banks := g.banks.set l b } :=
    { bank := Gd.legal_setBank h.bank hb
      lead := fun k hk => by
        obtain rfl : l = k := Option.some.inj (hl.symm.trans hk)
        rw [PerBank.get_set_same, hst]
        exact h.lead l hl
      noLead := fun hnone => by cases hl.symm.trans hnone }
  unfold Gd.countLead
  split
  · exact h
  · next l hl =>
    dsimp only
    split
    · split
      · exact hset hl (h.bank l) rfl
      · next hother =>
        exact
          { bank := fun k => by rw [PerBank.get_of]; exact h.bank k
            lead := fun k hk => by
              obtain rfl := Option.some.inj hk
              rwa [PerBank.get_of]
            noLead := nofun }
    · exact hset hl (h.bank l) rfl

theorem Gd.Legal.dispatch (h : g.Legal) (p : Nat) : (g.dispatch p).Legal := by
  have hassigned := h.mapBanks (fun k => (h.bank k).assign (g.cfg.rated.get k) ((g.shares p).get k))
    fun k => BankRec.assign_failed_iff ..
  exact Gd.Legal.countLead { hassigned with }

theorem Gd.Legal.configure (h : g.Legal) (c : GridCfg) : (g.configure c).Legal :=
  { h.mapBanks (f := fun k => { g.banks.get k with heat := min (g.banks.get k).heat (c.capacity.get k) }) h.bank
      fun _ => Iff.rfl with }

/-- R93: a soft reset leaves each bank as a reset does, but for its heat. -/
theorem Gd.softReset_legal (g : Gd) : g.softReset.Legal :=
  { ((banksLegal_iff _).1 banksLegal_reset).mapBanks
      (f := fun k => { BankRec.reset with heat := (g.banks.get k).heat }) (fun _ => BankRec.reset_legal)
      fun k => by rw [Gd.reset_bank] with }

end Grid

/-! ### GD's operations -/

theorem State.withGd_settle_legal (h : ∀ k, (s.bank k).legal) : (s.withGd s.gd.settle).gd.Legal := Gd.settle_legal h

theorem State.publishGrid_legal (h : s.gd.Legal) : s.publishGrid.gd.Legal := { h with }

theorem State.evalGrid_legal (h : s.gd.Legal) : s.evalGrid.gd.Legal := by
  rw [State.evalGrid_eq]
  exact { h with }

@[simp] theorem State.testGf_gd (s : State) (atOnce : Bool) :
    (s.testGf atOnce).gd = { s.gd with gf := s.gd.faulty } := by
  cases atOnce <;> simp [State.testGf]

@[simp] theorem State.testGt_gd (s : State) : s.testGt.gd = { s.gd with gt := s.gd.hot 95 } := by simp [State.testGt]

theorem State.testGf_legal (h : s.gd.Legal) (atOnce : Bool) : (s.testGf atOnce).gd.Legal := by
  rw [State.testGf_gd]
  exact { h with }

theorem State.testGt_legal (h : s.gd.Legal) : s.testGt.gd.Legal := by
  rw [State.testGt_gd]
  exact { h with }

/-- R78, R79: a bank renewed is legal, and the lead settled after it. -/
theorem State.renew_legal (h : s.gd.Legal) {k : Bank} {b : BankRec} (hb : b.legal) : (s.renew k b).gd.Legal :=
  State.evalGrid_legal (State.withGd_settle_legal (Gd.legal_setBank h.bank hb))

theorem State.startCheck_legal (h : s.gd.Legal) (k : Bank) : (s.startCheck k).gd.Legal :=
  State.publishGrid_legal (State.renew_legal h (s.bank k).startCheck_legal)

theorem State.beginArm_legal (h : s.gd.Legal) : s.beginArm.gd.Legal :=
  State.testGf_legal (State.startCheck_legal
    (State.startCheck_legal (s := s.withTa { s.ta with state := .arming }) h .a) .b) false

/-- R89: the blower failure mark and the count of a bank cleared. -/
def BankRec.blowerCleared (b : BankRec) : BankRec := { b with blowerMark := false, blowerCount := 0 }

/-- R89: the grid clear, up to the checks it starts. -/
def State.blowersCleared (s : State) : State :=
  s.withGd { s.gd with banks := .of fun k => (s.gd.banks.get k).blowerCleared }

/-- R89: a check of bank `k` started where it is called for. -/
def State.recheck (s : State) (k : Bank) (failed : Bool) : State := if failed then s.startCheck k else s

/-- R89: the grid clear, one operation after the other. -/
theorem State.gridClear_eq (s : State) :
    s.gridClear.1 =
      ((s.blowersCleared.recheck .a ((s.bank .a).state == .failed)).recheck .b ((s.bank .b).state == .failed)).testGf
        true := rfl

theorem State.recheck_legal (h : s.gd.Legal) (k : Bank) (failed : Bool) : (s.recheck k failed).gd.Legal := by
  unfold State.recheck
  split
  · exact State.startCheck_legal h k
  · exact h

theorem State.gridClear_legal (h : s.gd.Legal) : s.gridClear.1.gd.Legal := by
  have hcleared : s.blowersCleared.gd.Legal := h.mapBanks h.bank fun _ => Iff.rfl
  rw [State.gridClear_eq]
  exact State.testGf_legal (State.recheck_legal (State.recheck_legal hcleared ..) ..) true

theorem State.endCheck_legal (h : s.gd.Legal) (k : Bank) {st : BankState} (hst : st = .ready ∨ st = .failed) :
    (s.endCheck k st).gd.Legal := by
  rw [State.endCheck_eq, ((State.checkCompletion_acts _).blocks .gd (by simp) : (State.checkCompletion _).gd = _)]
  exact State.publishGrid_legal (State.testGf_legal (State.renew_legal h (BankRec.endCheck_legal _ _ _ hst)) false)

theorem State.bankTimer_legal (h : s.gd.Legal) (k : Bank) (x : GridPorts) : (s.bankTimer k x).gd.Legal :=
  have hset (j : Bank) : ((s.setBank k ((s.bank k).timerSteps s.gd.cfg k x)).bank j).legal :=
    Gd.legal_setBank h.bank ((h.bank k).timerSteps s.gd.cfg k x) j
  State.testGf_legal (State.withGd_settle_legal hset) false

theorem State.dispatchPower_legal (h : s.gd.Legal) (p : Nat) : (s.dispatchPower p).gd.Legal := by
  unfold State.dispatchPower
  dsimp only
  split
  · exact State.publishGrid_legal (h.dispatch p)
  · exact h.dispatch p

theorem State.countOverVoltage_legal (h : s.gd.Legal) (volts : Nat) : (s.countOverVoltage volts).gd.Legal := by
  unfold State.countOverVoltage
  dsimp only
  split
  · split <;> exact { h with }
  · split <;> exact { h with }

theorem clearTruck_legal (h : s.gd.Legal) : (clearTruck s).1.gd.Legal := by
  refine Within.checked (p := Gd.Legal) (block := State.gd) h fun _ => ?_
  rw [Within, ((State.clearTruckFlags_acts _).blocks .gd (by simp) : (State.clearTruckFlags _).gd = _),
    ((State.steeringClear_acts _).blocks .gd (by simp) : (State.steeringClear _).gd = _)]
  exact State.gridClear_legal h

/-! ### Every command -/

theorem exec_gridLegal {c : Instr} (hg : Within Gd.Legal State.gd s) (h : exec c s = .next t) :
    Within Gd.Legal State.gd t := by
  by_cases hgd : Block.gd ∈ touched c
  · cases c with
    | softReset =>
      refine Within.next h (hg.request fun u hu => hu.checked fun _ => ?_)
      exact Gd.softReset_legal u.gd
    | hardReset => exact Within.next h ((banksLegal_iff _).1 banksLegal_reset)
    | arm => exact Within.next h (hg.longRequest fun u hu => State.beginArm_legal hu)
    | configureGrid r =>
      exact Within.next h (hg.request fun u hu => hu.checked fun _ => Gd.Legal.configure hu _)
    | setBankOrder code =>
      refine Within.next h (hg.request fun u hu => ?_)
      unfold bankOrderBody
      split
      · exact hu
      · exact Gd.settle_legal (Gd.Legal.bank (g := u.gd) hu)
    | clearFaultsStation target =>
      refine Within.next h (hg.request fun u hu => ?_)
      unfold clearFaultsBody
      split
      · next n _ =>
        rw [Within, ((clearStation_acts u n).blocks .gd (by simp) : _ = u.gd)]
        exact hu
      · split
        · exact clearTruck_legal hu
        · exact hu
    | clearFaultsTruck => exact Within.next h (hg.request fun u hu => clearTruck_legal hu)
    | allocationPass p =>
      refine Within.next h (Gd.Legal.mapBanks hg (fun k => ?_) fun _ => Iff.rfl)
      obtain ⟨htimer, hstate⟩ := Gd.Legal.bank hg k
      exact ⟨(Bool.coe_iff_coe.2 (tick_isSome _)).trans htimer, hstate⟩
    | powerArrival p volts =>
      exact Within.next h (State.countOverVoltage_legal (State.dispatchPower_legal hg _) _)
    | gridTimer x =>
      exact Within.next h (State.testGt_legal (State.evalGrid_legal (State.publishGrid_legal
        (State.bankTimer_legal (State.bankTimer_legal hg .a x.a) .b x.b))))
    | bankCurrentSeen k | checkTimerExpiry k =>
      refine Within.next h ?_
      split
      · exact State.endCheck_legal hg k (by simp)
      · exact hg
    | _ => simp [touched] at hgd
  · rw [Within, (exec_sameBlock h hgd : t.gd = s.gd)]
    exact hg

end Sys2Proof.Machine

namespace Sys2Proof.Proofs.GridBanks
open Sys2Proof Sys2Proof.Machine

/-- Settles O41: every command keeps the banks legal (`exec_gridLegal`), and a step runs one command, or none. -/
theorem banksStayLegal : Obligations.BanksStayLegal := by
  intro s t hs h
  rw [banksLegal_iff] at hs ⊢
  unfold step at h
  split at h
  · next c rest _ => exact exec_gridLegal (s := s.withPending rest) hs h
  · split at h
    · next e rest _ => exact exec_gridLegal (s := s.withHanded rest) hs h
    · exact Host.Outcome.next.inj h ▸ hs

end Sys2Proof.Proofs.GridBanks

namespace Sys2Proof

/-! ### Rows of a table by their numbers -/

theorem findIdx?_eq_find?_range {α : Type} (p : α → Bool) (l : List α) :
    l.findIdx? p = (List.range l.length).find? fun i => (l[i]?).any p := by
  induction l with
  | nil => rfl
  | cons a l ih =>
    rw [List.length_cons, List.range_succ_eq_map, List.findIdx?_cons, List.find?_cons, List.find?_map, ih]
    cases h : p a <;> simp [h]

theorem any_zip_getElem? {α β : Type} (f : α → β → Bool) (l : List α) (m : List β) (i : Nat) :
    ((l.zip m)[i]?).any (fun p => f p.1 p.2) = (l[i]?).any fun a => (m[i]?).any fun b => f a b := by
  rw [List.zip, List.getElem?_zipWith]
  cases l[i]? <;> cases m[i]? <;> rfl

theorem pairwise_zip_tail {α : Type} {r : α → α → Prop} {l : List α} (h : l.Pairwise r) : ∀ p ∈ l.zip l.tail, r p.1 p.2 := by
  induction h with
  | nil => nofun
  | @cons a l hall _ ih =>
    cases l with
    | nil => nofun
    | cons b l => exact List.forall_mem_cons.2 ⟨hall b List.mem_cons_self, ih⟩

/-- R152: the first row from 1 on at fault with the row before it, by the rows' numbers. -/
theorem EnvTable.firstPair_eq (t : EnvTable) {bad : EnvRow → EnvRow → Bool} {p : Nat → Bool} (hzero : p 0 = false)
    (hsucc : ∀ j, p (j + 1) = (t.rows[j]?).any fun a => (t.rows[j + 1]?).any fun b => bad a b) :
    t.firstPair bad = (List.range 8).find? p := by
  have hpair (j : Nat) : ((t.rows.zip t.rows.tail)[j]?).any (fun x => bad x.1 x.2) = p (j + 1) := by
    rw [any_zip_getElem?, List.getElem?_tail, hsucc]
  rw [EnvTable.firstPair, findIdx?_eq_find?_range, List.range_succ_eq_map, List.find?_cons, hzero, List.find?_map]
  simp only [hpair]
  rfl

theorem EnvTable.firstPair_none (t : EnvTable) {bad : EnvRow → EnvRow → Bool} {r : EnvRow → EnvRow → Prop}
    (h : t.rows.Pairwise r) (hbad : ∀ a b, r a b → bad a b = false) : t.firstPair bad = none :=
  Option.map_eq_none_iff.2 (List.findIdx?_eq_none_iff.2 fun p hp => hbad _ _ (pairwise_zip_tail h p hp))

end Sys2Proof

namespace Sys2Proof.Machine
open Sys2Proof

variable {s : State}

/-! ### Settings that TA's state does not guard (R81, R90, R122, R153, R156) -/

theorem orderOf_code {code : Nat} {order : LeadOrder} (h : orderOf code = some order) : order.code = code := by
  match code with
  | 0 | 1 | 2 => cases h; rfl
  | n + 3 => cases h

theorem orderOf_none {code : Nat} (h : 3 ≤ code) : orderOf code = none := by
  obtain ⟨n, rfl⟩ := Nat.exists_eq_add_of_le' h
  rfl

theorem enableOf_none {code : Nat} (h : 2 ≤ code) : enableOf code = none := by
  obtain ⟨n, rfl⟩ := Nat.exists_eq_add_of_le' h
  rfl

theorem enableOf_named (on : Bool) : enableOf (if on then 0 else 1) = some on := by cases on <;> rfl

/-- R90: an order accepted settles the lead by it, and names a FAILED bank with an alert. -/
theorem exec_setBankOrder (h : s.linkFree) {code : Nat} {order : LeadOrder} (hcode : orderOf code = some order) :
    exec (.setBankOrder code) s = .next (replied s (s.withGd (Gd.settle { s.gd with order := order })) .setBankOrder
      (if ∃ k, order.named = some k ∧ (s.bank k).state = .failed then
        doneAlert .leadFailed (u8 order.code ++ optBank (Gd.settle { s.gd with order := order }).lead)
      else done (u8 order.code ++ optBank (Gd.settle { s.gd with order := order }).lead))) := by
  refine congrArg Host.Outcome.next (request_replied _ (bankOrderBody code) s (s.withGd _) _ h ?_ rfl)
  unfold bankOrderBody
  rw [hcode]
  refine congrArg (Prod.mk _) (if_congr ?_ rfl rfl)
  have hstate (k : Bank) :
      ((Gd.settle { s.gd with order := order }).banks.get k).state = (s.bank k).state := (Gd.settle_bank _ k).state
  rw [Option.any_eq_true]
  exact exists_congr fun k => and_congr_right fun _ => beq_iff_eq.trans (by rw [← hstate]; rfl)

/-- R2: a refused request is answered by the first row of its table that calls for it. -/
theorem request_refused (h : s.linkFree) (q : Req) {body : State → State × Answer} {rows : List (Bool × Answer)}
    {ok : State × Answer} {a : Answer} (hbody : body s.takeFrame = checked s.takeFrame rows ok)
    (hrow : (rows.find? Prod.fst).map Prod.snd = some a) : request q body s = replied s s q a :=
  request_unchanged q body h (hbody.trans (checked_refused hrow))

/-! #### GOVERNOR_MODE (R122) -/

theorem governorModeBody_accepted {mode : Nat} {on : Bool} (hmode : enableOf mode = some on) (hon : s.dg.enabled ≠ on) :
    governorModeBody mode s = (s.setMode on, done (s.setMode on).modeBytes) := by
  rw [governorModeBody, hmode]
  exact if_neg hon

theorem governorModeBody_stands {mode : Nat} {on : Bool} (hmode : enableOf mode = some on) (hon : s.dg.enabled = on) :
    governorModeBody mode s = (s, doneAlert .noChange s.modeBytes) := by
  rw [governorModeBody, hmode]
  exact if_pos hon

/-- R122: the mode written while the governor claims nothing. -/
theorem State.setMode_idle (hactive : s.dg.state.active = false) :
    s.setMode false = s.withDg { s.dg with enabled := false, state := .off } := by
  simp [State.setMode, hactive]

/-- R122: the mode written while the governor claims, its records retired. -/
theorem State.setMode_active (hactive : s.dg.state.active = true) :
    s.setMode false = s.governorStandsDown.withDg { s.governorStandsDown.dg with enabled := false, state := .off } := by
  simp [State.setMode, hactive]

theorem State.setMode_on (hoff : s.dg.state = .off) :
    s.setMode true = s.withDg { s.dg with enabled := true, state := .standby } := by
  simp [State.setMode, hoff]

/-! #### STEER_ENVELOPE (R153) -/

/-- R153: a row is out of range. -/
def EnvRow.outOfRange (r : EnvRow) : Bool := decide (700 < r.speed ∨ 450 < r.angle)

/-- R153's table, its first row by the rows' numbers. -/
theorem envelopeChecks_eq (t : EnvTable) :
    envelopeChecks t =
      let range := (List.range 8).find? fun i => (t.rows[i]?).any EnvRow.outOfRange
      let speeds := t.firstPair fun a b => decide (b.speed ≤ a.speed)
      let angles := t.firstPair fun a b => decide (a.angle < b.angle)
      [ (range.isSome, ⟨.refusedValue, some .range, rowBytes range⟩), (t.r0.speed != 0, refuseValue .firstRow),
        (speeds.isSome, ⟨.refusedValue, some .speedOrder, rowBytes speeds⟩),
        (angles.isSome, ⟨.refusedValue, some .angleOrder, rowBytes angles⟩) ] := by
  have hrange : (t.rows.findIdx? fun r => decide (700 < r.speed) || decide (450 < r.angle)) =
      (List.range 8).find? fun i => (t.rows[i]?).any EnvRow.outOfRange := by
    rw [← funext fun r : EnvRow => Bool.decide_or (700 < r.speed) (450 < r.angle), findIdx?_eq_find?_range]
    rfl
  simp only [envelopeChecks, hrange]

end Sys2Proof.Machine

namespace Sys2Proof.Proofs.GridBanks
open Sys2Proof Sys2Proof.Machine

/-- R90: the order, the lead it calls for, and the lead energies. -/
theorem setBankOrder_writes {s : State} (hfree : s.linkFree) (code : Nat) (order : LeadOrder)
    (hcode : Machine.orderOf code = some order) :
    let lead := settledLead order s.gd.lead fun k => (s.bank k).state == .failed
    let shown := u8 order.code ++ optBank lead
    ∃ banks : PerBank BankRec,
      exec (.setBankOrder code) s = .next (replied s
        { s with gd := { s.gd with order := order, lead := lead, banks := banks } } .setBankOrder
        (if ∃ k, order.named = some k ∧ (s.bank k).state = .failed then doneAlert .leadFailed shown else done shown)) ∧
      (lead = s.gd.lead → banks = s.gd.banks) ∧
      (lead ≠ s.gd.lead → ∀ k, banks.get k = { s.bank k with leadEnergy := 0, leadRem := 0 }) := by
  intro lead shown
  set g : Gd := { s.gd with order := order } with hg
  have hlead : g.settle.lead = lead := g.settle_lead
  refine ⟨g.settle.banks, ?_, fun hkept => ?_, fun hmoved k => ?_⟩
  · rw [exec_setBankOrder hfree hcode, ← hg, hlead, g.settle_frame, hlead]
    rfl
  · rw [Gd.settle_of_kept (hlead.trans hkept)]
  · rw [Gd.settle_of_moved (g := g) (hlead ▸ hmoved), PerBank.get_of]
    rfl

/-- R122: GOVERNOR_MODE enables or disables the governor, and answers NO_CHANGE where it stands. -/
theorem governorMode_writes {s : State} (hfree : s.linkFree) :
    (∀ on : Bool, s.dg.enabled = on →
      exec (.governorMode (if on then 0 else 1)) s = .next (replied s s .governorMode
        (doneAlert .noChange (u8 (if on then 0 else 1) ++ u8 s.dg.state.code)))) ∧
    (s.dg.enabled = false → s.dg.state = .off →
      exec (.governorMode 0) s = .next (replied s
        { s with dg := { s.dg with enabled := true, state := .standby } } .governorMode (done [0, 1]))) ∧
    (s.dg.enabled = true → s.dg.state.active = false →
      exec (.governorMode 1) s = .next (replied s
        { s with dg := { s.dg with enabled := false, state := .off } } .governorMode (done [1, 0]))) ∧
    (s.dg.enabled = true → s.dg.state.active = true →
      exec (.governorMode 1) s = .next (replied s
        { s with
          ct := claimRetire (claimRetire s.ct .governorTarget none) .governorForecast none
          dg := { s.dg with
            enabled := false, state := .off, claimed := none, target := none, lastApply := none, demand := 0 } }
        .governorMode (done [1, 0]))) := by
  have haccepted {mode : Nat} {on : Bool} {u : State} {a : Answer} (hmode : enableOf mode = some on)
      (hon : s.dg.enabled ≠ on) (hset : s.takeFrame.setMode on = framed s u)
      (hshown : done (framed s u).modeBytes = a) (hsl : u.sl = s.sl) :
      exec (.governorMode mode) s = .next (replied s u .governorMode a) := by
    refine congrArg Host.Outcome.next (request_replied _ (governorModeBody mode) s u a hfree ?_ (by rw [hsl]))
    rw [governorModeBody_accepted (s := s.takeFrame) hmode hon, hset, hshown]
  refine ⟨fun on hon => ?_, fun hoff hstate => ?_, fun hon hactive => ?_, fun hon hactive => ?_⟩
  · refine congrArg Host.Outcome.next (request_unchanged _ (governorModeBody _) hfree ?_)
    rw [governorModeBody_stands (s := s.takeFrame) (enableOf_named on) hon, State.modeBytes,
      show s.takeFrame.dg.enabled = on from hon]
    rfl
  · exact haccepted (on := true) rfl (by simp [hoff]) (State.setMode_on (s := s.takeFrame) hstate) rfl rfl
  · exact haccepted (on := false) rfl (by simp [hon]) (State.setMode_idle (s := s.takeFrame) hactive) rfl rfl
  · exact haccepted (on := false) rfl (by simp [hon]) (State.setMode_active (s := s.takeFrame) hactive) rfl rfl

/-- R153: STEER_ENVELOPE replaces the table. -/
theorem steerEnvelope_writes {s : State} (hfree : s.linkFree) (table : EnvTable)
    (hrange : ∀ r ∈ table.rows, r.speed ≤ 700 ∧ r.angle ≤ 450) (hfirst : table.r0.speed = 0)
    (hordered : table.rows.Pairwise fun a b => a.speed < b.speed ∧ b.angle ≤ a.angle) :
    exec (.steerEnvelope table) s = .next (replied s { s with sc := { s.sc with envelope := table } } .steerEnvelope
      (done (table.rows.flatMap fun r => u16 r.speed ++ u16 r.angle))) := by
  have hin : (table.rows.findIdx? fun r => decide (700 < r.speed) || decide (450 < r.angle)) = none :=
    List.findIdx?_eq_none_iff.2 fun r hr => by simp [hrange r hr]
  have hspeeds : table.firstPair (fun a b => decide (b.speed ≤ a.speed)) = none :=
    table.firstPair_none hordered fun a b h => by simp [h.1]
  have hangles : table.firstPair (fun a b => decide (a.angle < b.angle)) = none :=
    table.firstPair_none hordered fun a b h => by simp [h.2]
  refine congrArg Host.Outcome.next
    (checked_replied _ (envelopeChecks table) _ (envelopeBody table) s _ _ hfree rfl ?_ rfl rfl)
  simp [envelopeChecks, hin, hspeeds, hangles, hfirst]

/-- R153: STEER_ENVELOPE is refused by the first check that fails, with the lowest-numbered row at fault. -/
theorem steerEnvelope_refused {s : State} (hfree : s.linkFree) (table : EnvTable) {a : Answer}
    (h : ((envelopeChecks table).find? Prod.fst).map Prod.snd = some a) :
    exec (.steerEnvelope table) s = .next (replied s s .steerEnvelope a) :=
  congrArg Host.Outcome.next (request_refused (body := envelopeBody table) hfree _ rfl h)

/-- Settles O25, request by request; the rows of STEER_ENVELOPE's table by their numbers (`EnvTable.firstPair_eq`). -/
theorem settingRequestsWrite : Obligations.SettingRequestsWrite := by
  intro s hfree
  obtain ⟨hstands, henabled, hidle, hactive⟩ := governorMode_writes hfree
  refine ⟨fun code order hcode => setBankOrder_writes hfree code order hcode, fun failed lead => ⟨?_, ?_, ?_⟩,
    fun code hcode => ?_, fun mode hmode => ?_, hstands, henabled, hidle, hactive,
    fun table hrange hfirst hordered => steerEnvelope_writes hfree table hrange hfirst hordered,
    fun table => ?_, fun enable gain henable => ?_, fun enable gain henable hgain => ?_, fun on gain hgain => ?_⟩
  · simp [settledLead, Bank.other]
  · simp [settledLead, Bank.other]
  · cases lead with
    | none => simp [settledLead, Bank.other]
    | some k => simp [settledLead]
  · refine congrArg Host.Outcome.next (request_unchanged _ (bankOrderBody code) hfree ?_)
    rw [bankOrderBody, orderOf_none hcode]
  · refine congrArg Host.Outcome.next (request_unchanged _ (governorModeBody mode) hfree ?_)
    rw [governorModeBody, enableOf_none hmode]
  · intro first pair range speeds angles
    have hspeeds : table.firstPair (fun a b => decide (b.speed ≤ a.speed)) = speeds :=
      table.firstPair_eq rfl fun _ => rfl
    have hangles : table.firstPair (fun a b => decide (a.angle < b.angle)) = angles :=
      table.firstPair_eq rfl fun _ => rfl
    have hchecks : envelopeChecks table =
        [ (range.isSome, ⟨.refusedValue, some .range, rowBytes range⟩), (table.r0.speed != 0, refuseValue .firstRow),
          (speeds.isSome, ⟨.refusedValue, some .speedOrder, rowBytes speeds⟩),
          (angles.isSome, ⟨.refusedValue, some .angleOrder, rowBytes angles⟩) ] := by
      rw [envelopeChecks_eq, hspeeds, hangles]
      rfl
    clear_value range speeds angles
    refine ⟨fun i hrow => ?_, fun hin hfirst => ?_, fun i hin hfirst hrow => ?_, fun i hin hfirst hup hrow => ?_⟩ <;>
      refine steerEnvelope_refused hfree table ?_ <;> rw [hchecks]
    · simp [hrow, rowBytes]
    · simp [hin, hfirst]
    · simp [hin, hfirst, hrow, rowBytes]
    · simp [hin, hfirst, hup, hrow, rowBytes]
  · refine congrArg Host.Outcome.next (request_refused (body := setAssistBody enable gain) hfree _ rfl ?_)
    simp [enableOf_none henable]
  · refine congrArg Host.Outcome.next (request_refused (body := setAssistBody enable gain) hfree _ rfl ?_)
    obtain ⟨on, hon⟩ : ∃ on, enableOf enable = some on := by
      match enable with
      | 0 => exact ⟨true, rfl⟩
      | 1 => exact ⟨false, rfl⟩
    simp [hon, hgain]
  · refine congrArg Host.Outcome.next
      (checked_replied _ _ _ (setAssistBody (if on then 0 else 1) gain) s _ _ hfree rfl ?_ ?_ rfl)
    · simp [enableOf_named, not_lt.2 hgain]
    · rw [enableOf_named]
      rfl

end Sys2Proof.Proofs.GridBanks

namespace Sys2Proof

theorem Bank.other_ne (k : Bank) : k.other ≠ k := by cases k <;> decide

theorem PerBank.get_set_other {α : Type} (p : PerBank α) (k : Bank) (x : α) : (p.set k x).get k.other = p.get k.other := by
  rw [PerBank.get_set, if_neg k.other_ne]

end Sys2Proof

namespace Sys2Proof.Machine
open Sys2Proof

/-! ### The lead energy at a dispatch (R81) -/

/-- R81: from `g` to `h` the share of the lead `l` goes into its lead energy, and under ALTERNATE the lead passes at 1000. -/
structure LeadCounted (g : Gd) (l : Bank) (h : Gd) : Prop where
  frame : h = { g with banks := h.banks, lead := h.lead }
  bank : ∀ k, (g.banks.get k).sameButLead (h.banks.get k)
  stays : h.lead = some l → h.banks.get l.other = g.banks.get l.other
  taken : h.lead = some l.other → (h.banks.get l.other).leadEnergy = 0 ∧ (h.banks.get l.other).leadRem = 0
  counted :
    let b := (g.banks.get l).addLead (g.banks.get l).share
    g.order ≠ .alternate ∨ b.leadEnergy < 1000 →
      h.lead = some l ∧ (h.banks.get l).leadEnergy = b.leadEnergy ∧ (h.banks.get l).leadRem = b.leadRem
  passed : g.order = .alternate → ((g.banks.get l).addLead (g.banks.get l).share).leadEnergy = 1000 →
    h.lead = (if (g.banks.get l.other).state = .failed then some l else some l.other) ∧
      (h.banks.get l).leadEnergy = 0 ∧ (h.banks.get l).leadRem = 0

theorem Gd.countLead_of_none {g : Gd} (h : g.lead = none) : g.countLead = g := by
  rw [Gd.countLead, h]

theorem Gd.countLead_counted {g : Gd} {l : Bank} (hl : g.lead = some l) : LeadCounted g l g.countLead := by
  have hset {b : BankRec} (hb : (g.banks.get l).sameButLead b) (k : Bank) :
      (g.banks.get k).sameButLead ((g.banks.set l b).get k) := by
    rw [PerBank.get_set]
    split
    · next hk => exact hk ▸ hb
    · rfl
  have hnot : g.lead ≠ some l.other := fun h => l.other_ne (Option.some.inj (h.symm.trans hl))
  unfold Gd.countLead
  split
  · next hnone => cases hnone.symm.trans hl
  next j hj =>
  obtain rfl : l = j := Option.some.inj (hl.symm.trans hj)
  dsimp only
  split
  · next hfull =>
    simp only [Bool.and_eq_true, decide_eq_true_eq] at hfull
    obtain ⟨horder, henergy⟩ := hfull
    have hcounted : ¬(g.order ≠ .alternate ∨ ((g.banks.get l).addLead (g.banks.get l).share).leadEnergy < 1000) :=
      not_or.2 ⟨not_not.2 horder, not_lt.2 henergy⟩
    split
    · next hother =>
      refine ⟨rfl, hset rfl, fun _ => PerBank.get_set_other .., fun h => absurd h hnot, fun h => absurd h hcounted,
        fun _ _ => ?_⟩
      rw [PerBank.get_set_same, if_pos hother]
      exact ⟨hl, rfl, rfl⟩
    · next hother =>
      refine ⟨rfl, fun k => by rw [PerBank.get_of]; rfl, fun h => absurd (Option.some.inj h) l.other_ne,
        fun _ => by rw [PerBank.get_of]; exact ⟨rfl, rfl⟩, fun h => absurd h hcounted, fun _ _ => ?_⟩
      rw [PerBank.get_of, if_neg hother]
      exact ⟨rfl, rfl, rfl⟩
  · next hfull =>
    simp only [Bool.and_eq_true, decide_eq_true_eq, not_and] at hfull
    refine ⟨rfl, hset rfl, fun _ => PerBank.get_set_other .., fun h => absurd h hnot, fun _ => ?_,
      fun horder h => absurd h.ge (hfull horder)⟩
    rw [PerBank.get_set_same]
    exact ⟨hl, rfl, rfl⟩

/-! ### The shares (R80) -/

section Bank
variable {b : BankRec}

/-- R77: a bank that does not serve has no available power to take. -/
theorem BankRec.legal.takes_eq (h : b.legal) (p : Nat) : b.takes p = min p b.avail := by
  unfold BankRec.takes
  split
  · rfl
  · next hserves => rw [h.avail_of_idle (Bool.eq_false_iff.2 hserves), Nat.min_zero]

theorem BankRec.assign_of_serves (h : b.state = .ready ∨ b.state = .dissipating) (rated share : Nat) :
    b.assign rated share =
      { b with
        state := if 0 < share then .dissipating else .ready, share := share
        chopper := min 1000 (share * 1000 / rated), accum := b.accum + share } :=
  if_pos (by rcases h with h | h <;> rw [h] <;> rfl)

theorem BankRec.assign_of_idle (h : b.state = .offline ∨ b.state = .checking ∨ b.state = .failed) (rated share : Nat) :
    b.assign rated share = { b with share := 0 } :=
  if_neg (by rcases h with h | h | h <;> rw [h] <;> decide)

theorem BankState.serves_iff {st : BankState} : st.serves = true ↔ st = .ready ∨ st = .dissipating := by
  cases st <;> decide

theorem BankRec.assign_lead (b : BankRec) (rated share : Nat) :
    (b.assign rated share).leadEnergy = b.leadEnergy ∧ (b.assign rated share).leadRem = b.leadRem := by
  unfold BankRec.assign
  split <;> exact ⟨rfl, rfl⟩

/-- R80: a bank takes the share it is given, which is 0 where it has no available power. -/
theorem BankRec.legal.assign_share (h : b.legal) (rated : Nat) {share : Nat} (hshare : share ≤ b.avail) :
    (b.assign rated share).share = share := by
  have htakes := h.takes_eq share
  rw [min_eq_left hshare, BankRec.takes] at htakes
  unfold BankRec.assign
  split
  · rfl
  · next hserves => rwa [if_neg hserves] at htakes

end Bank

section Shares
variable {g : Gd} {l : Bank}

theorem Gd.shares_of_none (h : g.lead = none) (p : Nat) : g.shares p = .fill 0 := by rw [Gd.shares, h]

/-- R80: the lead bank takes what it can, and the other the rest. -/
theorem Gd.Legal.shares_lead (h : g.Legal) (hl : g.lead = some l) (p : Nat) :
    (g.shares p).get l = min p (g.banks.get l).avail ∧
      (g.shares p).get l.other = min (p - (g.shares p).get l) (g.banks.get l.other).avail := by
  rw [Gd.shares, hl]
  simp only [PerBank.get_of, if_true, if_neg l.other_ne, (h.bank _).takes_eq, and_self]

theorem Gd.Legal.shares_le (h : g.Legal) (p : Nat) (k : Bank) : (g.shares p).get k ≤ (g.banks.get k).avail := by
  cases hl : g.lead with
  | none =>
    rw [Gd.shares_of_none hl, PerBank.get_fill]
    exact Nat.zero_le _
  | some l =>
    obtain ⟨hlead, hother⟩ := h.shares_lead hl p
    rcases bank_eq_or_other l k with rfl | rfl
    · exact hlead.trans_le (min_le_right _ _)
    · exact hother.trans_le (min_le_right _ _)

/-- R77, R81: with no lead there is no available power. -/
theorem Gd.Legal.avail_of_none (h : g.Legal) (hnone : g.lead = none) (k : Bank) : (g.banks.get k).avail = 0 := by
  exact (h.bank k).avail_of_idle (by rw [h.noLead hnone k]; rfl)

/-- R80: the shares make up the power, as far as the banks can take it. -/
theorem Gd.Legal.shares_sum (h : g.Legal) (p : Nat) :
    (g.shares p).a + (g.shares p).b = min p ((g.banks.get .a).avail + (g.banks.get .b).avail) := by
  cases hl : g.lead with
  | none =>
    rw [Gd.shares_of_none hl, h.avail_of_none hl, h.avail_of_none hl]
    simp [PerBank.fill]
  | some l =>
    obtain ⟨hlead, hother⟩ := h.shares_lead hl p
    cases l with
    | a =>
      change (g.shares p).a = _ at hlead
      change (g.shares p).b = min (p - (g.shares p).a) (g.banks.get .b).avail at hother
      omega
    | b =>
      change (g.shares p).b = _ at hlead
      change (g.shares p).a = min (p - (g.shares p).b) (g.banks.get .a).avail at hother
      omega

end Shares

/-! ### A dispatch (R80, R81, R85) -/

section Dispatch
variable (g : Gd) (p : Nat)

theorem Gd.countLead_frame : g.countLead = { g with banks := g.countLead.banks, lead := g.countLead.lead } := by
  cases hl : g.lead with
  | none => rw [Gd.countLead_of_none hl]
  | some l => exact (Gd.countLead_counted hl).frame

theorem Gd.countLead_bank (k : Bank) : (g.banks.get k).sameButLead (g.countLead.banks.get k) := by
  cases hl : g.lead with
  | none =>
    rw [Gd.countLead_of_none hl]
    rfl
  | some l => exact (Gd.countLead_counted hl).bank k

/-- R80: the shares of a power assigned, before the lead energy is counted. -/
def Gd.assigned : Gd :=
  { g with
    banks := .of fun k => (g.banks.get k).assign (g.cfg.rated.get k) ((g.shares p).get k)
    unabsorbed := p - (g.shares p).a - (g.shares p).b }

theorem Gd.dispatch_eq : g.dispatch p = (g.assigned p).countLead := rfl

theorem Gd.assigned_bank (k : Bank) :
    (g.assigned p).banks.get k = (g.banks.get k).assign (g.cfg.rated.get k) ((g.shares p).get k) := PerBank.get_of ..

theorem Gd.dispatch_frame :
    g.dispatch p = { g with
      banks := (g.dispatch p).banks, lead := (g.dispatch p).lead
      unabsorbed := p - (g.shares p).a - (g.shares p).b } := (g.assigned p).countLead_frame

theorem Gd.dispatch_bank (k : Bank) :
    ((g.banks.get k).assign (g.cfg.rated.get k) ((g.shares p).get k)).sameButLead ((g.dispatch p).banks.get k) := by
  rw [← Gd.assigned_bank]
  exact (g.assigned p).countLead_bank k

variable {g}

theorem Gd.Legal.assigned_share (h : g.Legal) (k : Bank) :
    ((g.assigned p).banks.get k).share = (g.shares p).get k := by
  rw [Gd.assigned_bank]
  exact (h.bank k).assign_share _ (h.shares_le p k)

theorem Gd.Legal.dispatch_share (h : g.Legal) (k : Bank) :
    ((g.dispatch p).banks.get k).share = (g.shares p).get k := by
  rw [show (g.dispatch p).banks.get k = _ from g.dispatch_bank p k]
  exact (h.bank k).assign_share _ (h.shares_le p k)

/-- R80: a bank that the dispatch takes into READY was DISSIPATING. -/
theorem Gd.enteredReady_dispatch :
    g.enteredReady (g.dispatch p) = true ↔
      ∃ k, (g.banks.get k).state = .dissipating ∧ ((g.dispatch p).banks.get k).state = .ready := by
  have hstate (k : Bank) (hready : ((g.dispatch p).banks.get k).state = .ready) :
      (g.banks.get k).state = .ready ∨ (g.banks.get k).state = .dissipating := by
    rw [(g.dispatch_bank p k).state] at hready
    unfold BankRec.assign at hready
    split at hready
    · next hserves => exact BankState.serves_iff.1 hserves
    · exact .inl hready
  have hentered (k : Bank) :
      ((g.banks.get k).state != .ready && ((g.dispatch p).banks.get k).state == .ready) = true ↔
        (g.banks.get k).state = .dissipating ∧ ((g.dispatch p).banks.get k).state = .ready := by
    rw [Bool.and_eq_true, bne_iff_ne, beq_iff_eq]
    refine and_congr_left fun hready => ?_
    rcases hstate k hready with h | h <;> simp [h]
  rw [Gd.enteredReady, List.any_eq_true]
  refine exists_congr fun k => ?_
  rw [hentered]
  exact and_iff_right (by cases k <;> simp)

end Dispatch

theorem State.dispatchPower_eq (s : State) (p : Nat) :
    s.dispatchPower p = s.withGd { s.gd with
      banks := (s.gd.dispatch p).banks, lead := (s.gd.dispatch p).lead
      unabsorbed := p - (s.gd.shares p).a - (s.gd.shares p).b
      published := if s.gd.enteredReady (s.gd.dispatch p) then (s.gd.dispatch p).figures else s.gd.published } := by
  have hframe := s.gd.dispatch_frame p
  by_cases hready : s.gd.enteredReady (s.gd.dispatch p) = true
  · rw [if_pos hready]
    exact (if_pos hready).trans
      (congrArg (fun g : Gd => s.withGd { g with published := (s.gd.dispatch p).figures }) hframe)
  · rw [if_neg hready]
    exact (if_neg hready).trans (congrArg s.withGd hframe)

/-! ### The over-voltage count (R88) -/

section OverVoltage
variable {s : State} {v : Nat}

theorem State.countOverVoltage_first (h : s.gd.cfg.dcMax < v) (hcount : s.gd.ovCount = 0) :
    s.countOverVoltage v = s.withGd { s.gd with dcLink := v, ovCount := 1 } := by
  simp [State.countOverVoltage, h, hcount]

theorem State.countOverVoltage_second (h : s.gd.cfg.dcMax < v) (hcount : s.gd.ovCount = 1) :
    s.countOverVoltage v =
      ((s.withGd { s.gd with dcLink := v, ovCount := 2, dvValue := some 900 }).claim .dv 900 (some 10) none).hand
        (.truckConditionBegins ⟨.dv, none⟩) := by
  simp [State.countOverVoltage, h, hcount]

theorem State.countOverVoltage_further (h : s.gd.cfg.dcMax < v) (hcount : s.gd.ovCount = 2) {w : Nat}
    (hw : s.gd.dvValue = some w) :
    s.countOverVoltage v =
      (s.withGd { s.gd with dcLink := v, ovCount := 2, dvValue := some (max 200 (w - 100)) }).claim .dv
        (max 200 (w - 100) : Nat) (some 10) none := by
  simp [State.countOverVoltage, h, hcount, hw]

theorem State.countOverVoltage_ends (h : ¬s.gd.cfg.dcMax < v) (hcount : s.gd.ovCount = 2) :
    s.countOverVoltage v =
      ((s.withGd { s.gd with dcLink := v, ovCount := 0, dvValue := none }).release .dv none).hand
        (.truckConditionEnds .dv) := by
  simp [State.countOverVoltage, h, hcount]

theorem State.countOverVoltage_normal (h : ¬s.gd.cfg.dcMax < v) (hcount : s.gd.ovCount < 2) :
    s.countOverVoltage v = s.withGd { s.gd with dcLink := v, ovCount := 0 } := by
  simp [State.countOverVoltage, h, hcount.ne]

/-- R88: what the count leaves unchanged. -/
theorem State.countOverVoltage_eq (s : State) (v : Nat) :
    ∃ count value ct handed,
      s.countOverVoltage v =
        { s with gd := { s.gd with dcLink := v, ovCount := count, dvValue := value }, ct := ct, handed := handed } := by
  unfold State.countOverVoltage
  dsimp only
  split
  · split <;> exact ⟨_, _, _, _, rfl⟩
  · split <;> exact ⟨_, _, _, _, rfl⟩

end OverVoltage

/-! ### A power arrival (R80, R85, R88) -/

/-- R80, R88: the state after a dispatch of the power `p` and the count of a DC-link reading `v`. -/
def State.powered (s : State) (p v : Nat) : State := (s.dispatchPower p).countOverVoltage v

/-- What a power arrival leaves of `s` in `t`, but for the over-voltage count. -/
structure Powered (s : State) (p v : Nat) (t : State) : Prop where
  frame : t = { s with ct := t.ct, gd := t.gd, handed := t.handed }
  gd : t.gd = { s.gd with
    banks := (s.gd.dispatch p).banks, lead := (s.gd.dispatch p).lead
    unabsorbed := p - (s.gd.shares p).a - (s.gd.shares p).b, dcLink := v, ovCount := t.gd.ovCount
    dvValue := t.gd.dvValue, published := t.gd.published }
  publishes : (∃ k, (s.bank k).state = .dissipating ∧ (t.bank k).state = .ready) → t.gd.published = t.gd.figures
  keeps : (∀ k, (s.bank k).state = .dissipating → (t.bank k).state ≠ .ready) → t.gd.published = s.gd.published

theorem State.powered_spec (s : State) (p v : Nat) : Powered s p v (s.powered p v) := by
  obtain ⟨count, value, ct, handed, ht⟩ := (s.dispatchPower p).countOverVoltage_eq v
  have hentered := s.gd.enteredReady_dispatch p
  rw [State.dispatchPower_eq] at ht
  rw [State.powered, State.dispatchPower_eq, ht]
  refine ⟨rfl, rfl, fun h => ?_, fun h => if_neg fun h' => ?_⟩
  · refine (if_pos (hentered.2 h)).trans ?_
    rw [Gd.dispatch_frame]
    rfl
  · obtain ⟨k, hbefore, hafter⟩ := hentered.1 h'
    exact h k hbefore hafter

section Powered
variable {s t : State} {p v : Nat}

theorem Powered.bank (h : Powered s p v t) (k : Bank) : t.bank k = (s.gd.dispatch p).banks.get k :=
  (congrArg (fun g : Gd => g.banks.get k) h.gd).trans rfl

theorem Powered.lead (h : Powered s p v t) : t.gd.lead = (s.gd.dispatch p).lead := (congrArg Gd.lead h.gd).trans rfl

/-- R80: a bank after its share is assigned, but for the lead energy. -/
theorem Powered.assigned (h : Powered s p v t) (k : Bank) :
    ((s.bank k).assign (s.gd.cfg.rated.get k) ((s.gd.shares p).get k)).sameButLead (t.bank k) := by
  rw [h.bank]
  exact s.gd.dispatch_bank p k

theorem Powered.share (h : Powered s p v t) (hs : s.gd.Legal) (k : Bank) : (t.bank k).share = (s.gd.shares p).get k := by
  rw [h.bank]
  exact hs.dispatch_share p k

end Powered

end Sys2Proof.Machine

namespace Sys2Proof.Proofs.GridBanks
open Sys2Proof Sys2Proof.Machine

section
variable {s : State} {p v : Nat}

/-- R80, R81: the banks with no lead. -/
theorem powered_noLead {t : State} (h : Powered s p v t) (hs : s.gd.Legal) (hnone : s.gd.lead = none) :
    (t.gd.lead = none ∧ ∀ k, (t.bank k).leadEnergy = (s.bank k).leadEnergy ∧ (t.bank k).leadRem = (s.bank k).leadRem) ∧
      ∀ k, (t.bank k).share = 0 := by
  have hdispatch : s.gd.dispatch p = s.gd.assigned p := Gd.countLead_of_none hnone
  refine ⟨⟨?_, fun k => ?_⟩, fun k => ?_⟩
  · rw [h.lead, hdispatch]
    exact hnone
  · rw [h.bank, hdispatch, Gd.assigned_bank]
    exact BankRec.assign_lead ..
  · rw [h.share hs, Gd.shares_of_none hnone, PerBank.get_fill]

/-- R81: the lead energies with a lead bank `l`. -/
theorem powered_lead {t : State} (h : Powered s p v t) (hs : s.gd.Legal) {l : Bank} (hl : s.gd.lead = some l) :
    ((t.gd.lead = some l → (t.bank l.other).leadEnergy = (s.bank l.other).leadEnergy ∧
        (t.bank l.other).leadRem = (s.bank l.other).leadRem) ∧
      (t.gd.lead = some l.other → (t.bank l.other).leadEnergy = 0 ∧ (t.bank l.other).leadRem = 0)) ∧
    (let sum := (s.bank l).leadRem + (t.bank l).share
      let energy := min 1000 ((s.bank l).leadEnergy + sum / 100)
      (s.gd.order ≠ .alternate ∨ energy < 1000 →
        t.gd.lead = some l ∧ (t.bank l).leadEnergy = energy ∧ (t.bank l).leadRem = sum % 100) ∧
      (s.gd.order = .alternate → energy = 1000 →
        t.gd.lead = (if (s.bank l.other).state = .failed then some l else some l.other) ∧
        (t.bank l).leadEnergy = 0 ∧ (t.bank l).leadRem = 0)) := by
  have hcounted : LeadCounted (s.gd.assigned p) l (s.gd.dispatch p) := Gd.countLead_counted hl
  have hassigned (k : Bank) :
      ((s.gd.assigned p).banks.get k).leadEnergy = (s.bank k).leadEnergy ∧
        ((s.gd.assigned p).banks.get k).leadRem = (s.bank k).leadRem := by
    rw [Gd.assigned_bank]
    exact BankRec.assign_lead ..
  have hfailed : ((s.gd.assigned p).banks.get l.other).state = .failed ↔ (s.bank l.other).state = .failed := by
    rw [Gd.assigned_bank]
    exact BankRec.assign_failed_iff ..
  obtain ⟨henergy, hrem⟩ := hassigned l
  have hadd : ((s.gd.assigned p).banks.get l).addLead ((s.gd.assigned p).banks.get l).share =
      { (s.gd.assigned p).banks.get l with
        leadEnergy := min 1000 ((s.bank l).leadEnergy + ((s.bank l).leadRem + (t.bank l).share) / 100)
        leadRem := ((s.bank l).leadRem + (t.bank l).share) % 100 } := by
    simp only [BankRec.addLead, henergy, hrem, h.share hs, hs.assigned_share]
  have hcount := hcounted.counted
  have hpass := hcounted.passed
  simp only [hadd, hfailed] at hcount hpass
  simp only [h.lead, h.bank] at hcount hpass ⊢
  exact ⟨⟨fun hstays => hcounted.stays hstays ▸ hassigned l.other, hcounted.taken⟩, hcount, hpass⟩

/-- R88: the over-voltage count, case by case. -/
theorem powered_counts (s : State) (p v : Nat) :
    let t := s.powered p v
    (s.gd.cfg.dcMax < v → s.gd.ovCount = 0 →
      t.gd.ovCount = 1 ∧ t.gd.dvValue = s.gd.dvValue ∧ t.ct = s.ct ∧ t.handed = s.handed) ∧
    (s.gd.cfg.dcMax < v → s.gd.ovCount = 1 →
      t.gd.ovCount = 2 ∧ t.gd.dvValue = some 900 ∧ t.ct = claimSet s.ct .dv 900 (some 10) none ∧
      t.handed = s.handed ++ [.truckConditionBegins ⟨.dv, none⟩]) ∧
    (∀ w, s.gd.cfg.dcMax < v → s.gd.ovCount = 2 → s.gd.dvValue = some w →
      t.gd.ovCount = 2 ∧ t.gd.dvValue = some (max 200 (w - 100)) ∧
      t.ct = claimSet s.ct .dv (max 200 (w - 100) : Nat) (some 10) none ∧ t.handed = s.handed) ∧
    (¬s.gd.cfg.dcMax < v → s.gd.ovCount = 2 →
      t.gd.ovCount = 0 ∧ t.gd.dvValue = none ∧ t.ct = claimRetire s.ct .dv none ∧
      t.handed = s.handed ++ [.truckConditionEnds .dv]) ∧
    (¬s.gd.cfg.dcMax < v → s.gd.ovCount < 2 →
      t.gd.ovCount = 0 ∧ t.gd.dvValue = s.gd.dvValue ∧ t.ct = s.ct ∧ t.handed = s.handed) := by
  intro t
  have hu : t = (s.dispatchPower p).countOverVoltage v := rfl
  obtain ⟨hct, hhanded, hcfg, hcount, hvalue⟩ : (s.dispatchPower p).ct = s.ct ∧ (s.dispatchPower p).handed = s.handed ∧
      (s.dispatchPower p).gd.cfg = s.gd.cfg ∧ (s.dispatchPower p).gd.ovCount = s.gd.ovCount ∧
      (s.dispatchPower p).gd.dvValue = s.gd.dvValue := by
    rw [State.dispatchPower_eq, Gd.dispatch_frame]
    exact ⟨rfl, rfl, rfl, rfl, rfl⟩
  generalize s.dispatchPower p = u at hu hct hhanded hcfg hcount hvalue
  rw [← hct, ← hhanded, ← hcfg, ← hcount, ← hvalue, hu]
  refine ⟨fun h h0 => ?_, fun h h1 => ?_, fun w h h2 hw => ?_, fun h h2 => ?_, fun h hlow => ?_⟩
  · rw [State.countOverVoltage_first h h0]
    exact ⟨rfl, rfl, rfl, rfl⟩
  · rw [State.countOverVoltage_second h h1]
    exact ⟨rfl, rfl, rfl, rfl⟩
  · rw [State.countOverVoltage_further h h2 hw]
    exact ⟨rfl, rfl, rfl, rfl⟩
  · rw [State.countOverVoltage_ends h h2]
    exact ⟨rfl, rfl, rfl, rfl⟩
  · rw [State.countOverVoltage_normal h hlow]
    exact ⟨rfl, rfl, rfl, rfl⟩

end

/-- Settles O39: the shares of a legal GD (`Gd.Legal.shares_lead`), the lead energy counted after them (`LeadCounted`), and
the over-voltage count case by case. -/
theorem powerArrivalSplitsAndCountsOverVoltage : Obligations.PowerArrivalSplitsAndCountsOverVoltage := by
  intro s p volts hlegal power v high
  have hs : s.gd.Legal := (banksLegal_iff _).1 hlegal
  obtain ⟨hfirst, hsecond, hfurther, hends, hnormal⟩ := powered_counts s power v
  refine ⟨s.powered power v, rfl, ?_⟩
  have ht := s.powered_spec power v
  generalize s.powered power v = t at *
  have hshare := ht.share hs
  refine ⟨ht.frame, ?_, fun hnone => (powered_noLead ht hs hnone).1, fun l hl => (powered_lead ht hs hl).1, fun l hl => ?_,
    fun hnone => (powered_noLead ht hs hnone).2, ?_, ?_, fun k hk => ?_, fun k hk => ?_, fun l hl => (powered_lead ht hs hl).2,
    ht.publishes, ht.keeps, (congrArg Gd.dcLink ht.gd).trans rfl, hfirst, hsecond, hfurther, hends, hnormal⟩
  · rw [ht.gd]
  · obtain ⟨hlead, hother⟩ := hs.shares_lead hl power
    rw [hshare, hshare]
    exact ⟨hlead, hother⟩
  · rw [hshare, hshare]
    exact hs.shares_sum power
  · rw [hshare, hshare, ht.gd]
    rfl
  · have hassigned := ht.assigned k
    rwa [BankRec.assign_of_serves hk, ← hshare] at hassigned
  · have hassigned := ht.assigned k
    rwa [BankRec.assign_of_idle hk] at hassigned

end Sys2Proof.Proofs.GridBanks

namespace Sys2Proof

@[simp] theorem Bank.other_other (k : Bank) : k.other.other = k := by cases k <;> rfl

end Sys2Proof

namespace Sys2Proof.Machine
open Sys2Proof

/-! ### The lead while banks fail (R81) -/

/-- The first bank of `k` and the other that is not FAILED. -/
def firstSound (failed : Bank → Bool) (k : Bank) : Option Bank :=
  if failed k = false then some k else if failed k.other = false then some k.other else none

/-- The bank that an order prefers. -/
def LeadOrder.preferred (order : LeadOrder) (lead : Option Bank) : Bank :=
  match order with
  | .fixedA => .a
  | .fixedB => .b
  | .alternate => lead.getD .a

theorem settledLead_eq (order : LeadOrder) (lead : Option Bank) (failed : Bank → Bool) :
    settledLead order lead failed = firstSound failed (order.preferred lead) := by
  simp only [settledLead, Bool.not_eq_true']
  cases order <;> rfl

theorem firstSound_self {failed : Bank → Bool} {k : Bank} (h : failed k = false) : firstSound failed k = some k :=
  if_pos h

theorem firstSound_other {failed : Bank → Bool} {k : Bank} (h : failed k = true) :
    firstSound failed k = if failed k.other = false then some k.other else none :=
  if_neg (by rw [h]; decide)

section Grown
variable {before after : Bank → Bool}

theorem firstSound_again (h : ∀ k, before k = true → after k = true) (k : Bank) :
    firstSound after ((firstSound before k).getD .a) = firstSound after k := by
  by_cases hk : before k = false
  · simp [firstSound, hk]
  · have hak := h k (Bool.eq_true_of_not_eq_false hk)
    by_cases ho : before k.other = false
    · simp [firstSound, hk, ho, hak]
    · have hao := h k.other (Bool.eq_true_of_not_eq_false ho)
      have hall (j : Bank) : after j = true := by rcases bank_eq_or_other k j with rfl | rfl <;> assumption
      simp [firstSound, hall]

/-- R81: the lead settled while one bank fails, and settled again as more fail, is the lead settled once. -/
theorem settledLead_again (h : ∀ k, before k = true → after k = true) (order : LeadOrder) (lead : Option Bank) :
    settledLead order (settledLead order lead before) after = settledLead order lead after := by
  cases order with
  | fixedA | fixedB => rfl
  | alternate =>
    simp only [settledLead_eq]
    exact firstSound_again h _

/-- R81: a lead that stands at the end, as banks fail, has stood in between. -/
theorem settledLead_between {first : Bank → Bool} (hfirst : ∀ k, first k = true → before k = true)
    (h : ∀ k, before k = true → after k = true) {order : LeadOrder} {lead : Option Bank}
    (hstart : settledLead order lead first = lead) (hend : settledLead order lead after = lead) :
    settledLead order lead before = lead := by
  simp only [settledLead_eq] at *
  generalize order.preferred lead = k at *
  have hsound {j : Bank} (hj : before j = false) : first j = false :=
    Bool.eq_false_iff.2 fun h' => by rw [hfirst j h'] at hj; cases hj
  rw [← hstart] at hend ⊢
  by_cases hk : before k = false
  · rw [firstSound_self hk, firstSound_self (hsound hk)]
  have hafter := h k (Bool.eq_true_of_not_eq_false hk)
  rw [firstSound_other hafter] at hend
  rw [firstSound_other (Bool.eq_true_of_not_eq_false hk)]
  by_cases ho : before k.other = false
  · have hlost : first k = true := Bool.eq_true_of_not_eq_false fun hf => by
      rw [firstSound_self hf] at hend
      split at hend
      · exact k.other_ne (Option.some.inj hend)
      · cases hend
    rw [firstSound_other hlost, if_pos ho, if_pos (hsound ho)]
  · rw [← hend, if_neg ho, if_neg (by rw [h _ (Bool.eq_true_of_not_eq_false ho)]; decide)]

end Grown

/-! ### The lead settled (R81) -/

theorem Gd.settle_settled (g : Gd) :
    g.settle.lead = settledLead g.order g.lead fun k => (g.settle.banks.get k).state == .failed := by
  simp only [(g.settle_bank _).state]
  exact g.settle_lead

theorem Gd.settle_restarts {g : Gd} (h : g.settle.lead ≠ g.lead) (k : Bank) :
    (g.settle.banks.get k).leadEnergy = 0 ∧ (g.settle.banks.get k).leadRem = 0 := by
  rw [Gd.settle_of_moved h, PerBank.get_of]
  exact ⟨rfl, rfl⟩

/-! ### The four steps of one bank (R82 to R85) -/

section Bank
variable {b : BankRec} {current : Nat}

/-- R84: a serving bank whose current is below a tenth of its chopper figure. -/
def BankRec.openGrid (b : BankRec) (current : Nat) : Bool :=
  b.state.serves && decide (100 < b.chopper) && decide (current < b.chopper / 10)

theorem BankRec.openStep_closed (h : b.openGrid current = false) : b.openStep current = { b with openCount := 0 } := by
  unfold BankRec.openStep
  split
  · next hserves =>
    refine if_neg fun hopen => ?_
    rw [BankRec.openGrid, hserves, Bool.true_and, hopen] at h
    cases h
  · rfl

theorem BankRec.openStep_open (h : b.openGrid current = true) :
    b.openStep current =
      if 3 ≤ b.openCount + 1 then { b with state := .failed, share := 0, chopper := 0, avail := 0, openCount := 0 }
      else { b with openCount := b.openCount + 1 } := by
  rw [BankRec.openGrid, Bool.and_assoc, Bool.and_eq_true] at h
  exact (if_pos h.1).trans (if_pos h.2)

theorem BankRec.openStep_counts (h : b.openGrid current = true) (hfew : b.openCount + 1 < 3) :
    b.openStep current = { b with openCount := b.openCount + 1 } :=
  (BankRec.openStep_open h).trans (if_neg (not_le.2 hfew))

theorem BankRec.openStep_fails (h : b.openGrid current = true) (hmany : 3 ≤ b.openCount + 1) :
    b.openStep current = { b with state := .failed, share := 0, chopper := 0, avail := 0, openCount := 0 } :=
  (BankRec.openStep_open h).trans (if_pos hmany)

theorem availPower_idle {st : BankState} (rated cap heat : Nat) (h : st.serves = false) :
    availPower rated cap heat st = 0 :=
  if_neg (Bool.eq_false_iff.1 h)

theorem availPower_serving {st : BankState} (rated cap heat : Nat) (h : st.serves = true) :
    availPower rated cap heat st =
      if heat < percent 80 cap then rated else min rated (rated * (cap - heat) * 5 / cap) :=
  if_pos h

theorem BankState.serves_eq (st : BankState) : st.serves = (st == .ready || st == .dissipating) := by cases st <;> rfl

/-- R82, R83: a bank after its heat and blower steps. -/
def BankRec.cooled (b : BankRec) (cfg : GridCfg) (k : Bank) (x : GridPorts) : BankRec :=
  (b.heatStep (cfg.capacity.get k) (cfg.cooling.get k) cfg.altitude).blowerStep (cfg.capacity.get k) (min 100 x.blowerSpeed)

theorem BankRec.cooled_heat (b : BankRec) (cfg : GridCfg) (k : Bank) (x : GridPorts) :
    (b.cooled cfg k x).heat = min (cfg.capacity.get k)
      (b.heat + b.accum / 100 - cfg.cooling.get k * (if b.blower = true ∧ b.blowerMark = false then 100 else 20) *
        cfg.altitude / 100000) := by
  simp [BankRec.cooled, BankRec.blowerStep, BankRec.heatStep]

theorem BankRec.cooled_blower (b : BankRec) (cfg : GridCfg) (k : Bank) (x : GridPorts) :
    (b.cooled cfg k x).blower =
      (decide (percent 20 (cfg.capacity.get k) < (b.cooled cfg k x).heat) || b.state == .dissipating) := rfl

theorem BankRec.cooled_blowerCount (b : BankRec) (cfg : GridCfg) (k : Bank) (x : GridPorts) :
    (b.cooled cfg k x).blowerCount =
      if (b.cooled cfg k x).blower && decide (min 100 x.blowerSpeed < 50) then min 20 (b.blowerCount + 1) else 0 := rfl

theorem BankRec.cooled_blowerMark (b : BankRec) (cfg : GridCfg) (k : Bank) (x : GridPorts) :
    (b.cooled cfg k x).blowerMark = (b.blowerMark || (b.cooled cfg k x).blowerCount == 20) := rfl

/-- R82, R83: the heat and blower steps leave what the open-grid step reads. -/
theorem BankRec.cooled_openGrid (b : BankRec) (cfg : GridCfg) (k : Bank) (x : GridPorts) :
    (b.cooled cfg k x).openGrid x.current = b.openGrid x.current := rfl

theorem BankRec.openStep_frame (b : BankRec) (current : Nat) :
    b.openStep current = { b with
      state := (b.openStep current).state, share := (b.openStep current).share, chopper := (b.openStep current).chopper
      avail := (b.openStep current).avail, openCount := (b.openStep current).openCount } := by
  unfold BankRec.openStep
  split
  · split
    · split <;> rfl
    · rfl
  · rfl

/-- R82 to R85: the figures of a bank after its four steps. -/
structure TimerStepped (b : BankRec) (cfg : GridCfg) (k : Bank) (x : GridPorts) (c : BankRec) : Prop where
  cooled : c = { b.cooled cfg k x with
    state := c.state, share := c.share, chopper := c.chopper, avail := c.avail, openCount := c.openCount
    leadEnergy := c.leadEnergy, leadRem := c.leadRem }
  closed : b.openGrid x.current = false →
    c.openCount = 0 ∧ c.state = b.state ∧ c.chopper = b.chopper ∧ c.share = b.share
  counted : b.openGrid x.current = true → b.openCount + 1 < 3 →
    c.openCount = b.openCount + 1 ∧ c.state = b.state ∧ c.chopper = b.chopper ∧ c.share = b.share
  fails : b.openGrid x.current = true → 3 ≤ b.openCount + 1 →
    c.openCount = 0 ∧ c.state = .failed ∧ c.chopper = 0 ∧ c.share = 0
  avail : c.avail = availPower (cfg.rated.get k) (cfg.capacity.get k) c.heat c.state

theorem BankRec.timerSteps_stepped (b : BankRec) (cfg : GridCfg) (k : Bank) (x : GridPorts) :
    TimerStepped b cfg k x (b.timerSteps cfg k x) := by
  have hsteps : b.timerSteps cfg k x =
      ((b.cooled cfg k x).openStep x.current).availStep (cfg.rated.get k) (cfg.capacity.get k) := rfl
  rw [hsteps]
  refine ⟨?_, fun h => ?_, fun h hfew => ?_, fun h hmany => ?_, rfl⟩
  · rw [BankRec.openStep_frame]
    rfl
  · rw [BankRec.openStep_closed ((b.cooled_openGrid cfg k x).trans h)]
    exact ⟨rfl, rfl, rfl, rfl⟩
  · rw [BankRec.openStep_counts ((b.cooled_openGrid cfg k x).trans h) hfew]
    exact ⟨rfl, rfl, rfl, rfl⟩
  · rw [BankRec.openStep_fails ((b.cooled_openGrid cfg k x).trans h) hmany]
    exact ⟨rfl, rfl, rfl, rfl⟩

theorem TimerStepped.lead_changed {cfg : GridCfg} {k : Bank} {x : GridPorts} {c d : BankRec}
    (h : TimerStepped b cfg k x c) (hd : c.sameButLead d) : TimerStepped b cfg k x d := by
  rw [BankRec.sameButLead] at hd
  generalize d.leadEnergy = energy, d.leadRem = rem at hd
  subst hd
  exact ⟨congrArg (fun y : BankRec => { y with leadEnergy := energy, leadRem := rem }) h.cooled, h.closed, h.counted,
    h.fails, h.avail⟩

theorem TimerStepped.of_lead_changed {cfg : GridCfg} {k : Bank} {x : GridPorts} {c d : BankRec} (hb : b.sameButLead c)
    (h : TimerStepped c cfg k x d) : TimerStepped b cfg k x d := by
  rw [BankRec.sameButLead] at hb
  generalize c.leadEnergy = energy, c.leadRem = rem at hb
  subst hb
  exact ⟨h.cooled, h.closed, h.counted, h.fails, h.avail⟩

/-- R84: a FAILED bank stays FAILED at the grid timer. -/
theorem TimerStepped.failed {cfg : GridCfg} {k : Bank} {x : GridPorts} {c : BankRec} (h : TimerStepped b cfg k x c)
    (hb : b.state = .failed) : c.state = .failed := by
  obtain ⟨-, hstate, -, -⟩ := h.closed (by simp [BankRec.openGrid, hb, BankState.serves])
  rw [hstate, hb]

end Bank

/-! ### One bank at the grid timer (R82 to R84, R87) -/

/-- From `s` to `t` bank `k` takes its four steps, the lead is settled, and GF tested. -/
structure BankTimed (s : State) (k : Bank) (x : GridPorts) (t : State) : Prop where
  frame : t = { s with gd := t.gd, handed := t.handed }
  gd : t.gd = { s.gd with banks := t.gd.banks, lead := t.gd.lead, gf := t.gd.gf }
  bank : ((s.bank k).timerSteps s.gd.cfg k x).sameButLead (t.bank k)
  other : (s.bank k.other).sameButLead (t.bank k.other)
  lead : t.gd.lead = settledLead s.gd.order s.gd.lead fun j => (t.bank j).state == .failed
  moved : t.gd.lead ≠ s.gd.lead → ∀ j, (t.bank j).leadEnergy = 0 ∧ (t.bank j).leadRem = 0
  kept : t.gd.lead = s.gd.lead →
    ∀ j, (t.bank j).leadEnergy = (s.bank j).leadEnergy ∧ (t.bank j).leadRem = (s.bank j).leadRem
  gf : t.gd.gf = t.gd.faulty
  handed : t.handed = s.handed ++ told .gf s.gd.gf t.gd.gf

theorem BankRec.timerSteps_lead (b : BankRec) (cfg : GridCfg) (k : Bank) (x : GridPorts) :
    (b.timerSteps cfg k x).leadEnergy = b.leadEnergy ∧ (b.timerSteps cfg k x).leadRem = b.leadRem := by
  rw [show b.timerSteps cfg k x =
      ((b.cooled cfg k x).openStep x.current).availStep (cfg.rated.get k) (cfg.capacity.get k) from rfl,
    BankRec.openStep_frame]
  exact ⟨rfl, rfl⟩

theorem State.bankTimer_spec (s : State) (k : Bank) (x : GridPorts) : BankTimed s k x (s.bankTimer k x) := by
  set g := (s.setBank k ((s.bank k).timerSteps s.gd.cfg k x)).gd with hg
  have htimer : s.bankTimer k x = _ := State.testGf_later_eq ((s.setBank k _).withGd g.settle)
  have hk : g.banks.get k = (s.bank k).timerSteps s.gd.cfg k x := s.setBank_bank_same k _
  have hother : g.banks.get k.other = s.bank k.other := s.setBank_bank_other k _
  have hframe := g.settle_frame
  have hbank (j : Bank) := g.settle_bank j
  have hlead := g.settle_settled
  have hmoved := g.settle_restarts
  have hkept (h : g.settle.lead = g.lead) : g.settle = g := Gd.settle_of_kept h
  generalize g.settle = h at *
  rw [htimer]
  refine ⟨rfl, ?_, hk ▸ hbank k, hother ▸ hbank k.other, hlead, fun h => hmoved h, fun hstands j => ?_, rfl, ?_⟩
  · rw [hframe]
    rfl
  · have hj : h.banks.get j = g.banks.get j := by rw [hkept hstands]
    change (h.banks.get j).leadEnergy = _ ∧ (h.banks.get j).leadRem = _
    rw [hj]
    rcases bank_eq_or_other k j with rfl | rfl
    · rw [hk]
      exact BankRec.timerSteps_lead ..
    · rw [hother]
      exact ⟨rfl, rfl⟩
  · rw [hframe]
    rfl

/-! ### The close of the grid timer (R85 to R87) -/

theorem State.testGt_eq (s : State) :
    s.testGt = (s.withGd { s.gd with gt := s.gd.hot 95 }).withHanded (s.handed ++ told .gt s.gd.gt (s.gd.hot 95)) :=
  State.handCondition_eq _ _ _ _

/-- R87: a bank that makes the grid fault condition hold. -/
def BankRec.faulty (b : BankRec) : Bool := b.unproven || b.blowerMark

theorem BankRec.sameButLead.faulty {b c : BankRec} (h : b.sameButLead c) : c.faulty = b.faulty := by rw [h]; rfl

/-- R87: the grid fault condition, bank by bank. -/
theorem Gd.faulty_or (g : Gd) : g.faulty = ((g.banks.get .a).faulty || (g.banks.get .b).faulty) := by
  simp only [Gd.faulty, BankRec.faulty, Bool.or_assoc, Bool.or_left_comm]
  rfl

/-- What the grid timer leaves of `s` in `t`, with the lead after bank A's steps. -/
structure GridTimed (s : State) (x : PerBank GridPorts) (t : State) : Prop where
  frame : t = { s with ct := t.ct, gd := t.gd, handed := t.handed }
  gd : t.gd = { s.gd with
    banks := t.gd.banks, lead := t.gd.lead, gt := t.gd.gt, gf := t.gd.gf, gridValue := t.gd.gridValue
    published := t.gd.published }
  bank : ∀ k, TimerStepped (s.bank k) s.gd.cfg k (x.get k) (t.bank k)
  lead : t.gd.lead = settledLead s.gd.order s.gd.lead fun k => (t.bank k).state == .failed
  moved : t.gd.lead ≠ s.gd.lead → ∀ k, (t.bank k).leadEnergy = 0 ∧ (t.bank k).leadRem = 0
  kept : s.gd.lead = settledLead s.gd.order s.gd.lead (fun k => (s.bank k).state == .failed) → t.gd.lead = s.gd.lead →
    ∀ k, (t.bank k).leadEnergy = (s.bank k).leadEnergy ∧ (t.bank k).leadRem = (s.bank k).leadRem
  published : t.gd.published = t.gd.figures
  evaluated : (t.gd.gridValue, t.ct) = gridEvaluated s.ct s.gd.gridValue t.gd.condition t.gd.recordValue
  gt : t.gd.gt = t.gd.hot 95
  gf : t.gd.gf = ((t.bank .a).faulty || (t.bank .b).faulty)
  handed : t.handed = s.handed ++ told .gf s.gd.gf ((t.bank .a).faulty || (s.bank .b).faulty)
    ++ told .gf ((t.bank .a).faulty || (s.bank .b).faulty) t.gd.gf ++ told .gt s.gd.gt t.gd.gt

section Both
variable {s u w : State} {x : PerBank GridPorts}

theorem BankTimed.order {k : Bank} {y : GridPorts} (h : BankTimed s k y u) : u.gd.order = s.gd.order := by rw [h.gd]

theorem BankTimed.cfg {k : Bank} {y : GridPorts} (h : BankTimed s k y u) : u.gd.cfg = s.gd.cfg := by rw [h.gd]

theorem BankTimed.stepped {k : Bank} {y : GridPorts} (h : BankTimed s k y u) :
    TimerStepped (s.bank k) s.gd.cfg k y (u.bank k) :=
  ((s.bank k).timerSteps_stepped s.gd.cfg k y).lead_changed h.bank

/-- R84: no bank leaves FAILED at the grid timer. -/
theorem BankTimed.failed {k : Bank} {y : GridPorts} (h : BankTimed s k y u) (j : Bank)
    (hj : ((s.bank j).state == .failed) = true) : ((u.bank j).state == .failed) = true := by
  rw [beq_iff_eq] at hj ⊢
  rcases bank_eq_or_other k j with rfl | rfl
  · exact h.stepped.failed hj
  · exact h.other.state.trans hj

theorem bothTimed_stepped (ha : BankTimed s .a x.a u) (hb : BankTimed u .b x.b w) (k : Bank) :
    TimerStepped (s.bank k) s.gd.cfg k (x.get k) (w.bank k) := by
  cases k with
  | a => exact ha.stepped.lead_changed hb.other
  | b => exact ha.cfg ▸ hb.stepped.of_lead_changed ha.other

/-- R81: the lead after both banks' steps is the one that its order settles on once. -/
theorem bothTimed_lead (ha : BankTimed s .a x.a u) (hb : BankTimed u .b x.b w) :
    w.gd.lead = settledLead s.gd.order s.gd.lead fun k => (w.bank k).state == .failed := by
  rw [hb.lead, ha.order, ha.lead]
  exact settledLead_again hb.failed _ _

theorem bothTimed_moved (ha : BankTimed s .a x.a u) (hb : BankTimed u .b x.b w) (h : w.gd.lead ≠ s.gd.lead) (k : Bank) :
    (w.bank k).leadEnergy = 0 ∧ (w.bank k).leadRem = 0 := by
  by_cases hlast : w.gd.lead = u.gd.lead
  · obtain ⟨henergy, hrem⟩ := hb.kept hlast k
    rw [henergy, hrem]
    exact ha.moved (fun h' => h (hlast.trans h')) k
  · exact hb.moved hlast k

theorem bothTimed_kept (ha : BankTimed s .a x.a u) (hb : BankTimed u .b x.b w)
    (hstart : s.gd.lead = settledLead s.gd.order s.gd.lead fun k => (s.bank k).state == .failed)
    (h : w.gd.lead = s.gd.lead) (k : Bank) :
    (w.bank k).leadEnergy = (s.bank k).leadEnergy ∧ (w.bank k).leadRem = (s.bank k).leadRem := by
  have hbetween : u.gd.lead = s.gd.lead :=
    ha.lead.trans (settledLead_between ha.failed hb.failed hstart.symm ((bothTimed_lead ha hb).symm.trans h))
  obtain ⟨henergy, hrem⟩ := hb.kept (h.trans hbetween.symm) k
  rw [henergy, hrem]
  exact ha.kept hbetween k

end Both

/-- R85 to R87: the figures published, the GRID record evaluated and GT tested. -/
theorem State.gridTimer_close_eq (s : State) :
    let evaluated := gridEvaluated s.ct s.gd.gridValue s.gd.condition s.gd.recordValue
    s.publishGrid.evalGrid.testGt = { s with
      ct := evaluated.2
      gd := { s.gd with published := s.gd.figures, gridValue := evaluated.1, gt := s.gd.hot 95 }
      handed := s.handed ++ told .gt s.gd.gt (s.gd.hot 95) } := by
  rw [State.evalGrid_eq, State.testGt_eq]
  rfl

/-- Two operations that act on the ceiling table, on GD and on the events handed on, one after the other. -/
theorem gridFrame_trans {s w t : State} (hw : w = { s with ct := w.ct, gd := w.gd, handed := w.handed })
    (ht : t = { w with ct := t.ct, gd := t.gd, handed := t.handed }) :
    t = { s with ct := t.ct, gd := t.gd, handed := t.handed } :=
  ht.trans (congrArg (fun u : State => { u with ct := t.ct, gd := t.gd, handed := t.handed }) hw)

theorem Gd.frame_trans {g w h : Gd}
    (hw : w = { g with
      banks := w.banks, lead := w.lead, gt := w.gt, gf := w.gf, gridValue := w.gridValue, published := w.published })
    (hh : h = { w with
      banks := h.banks, lead := h.lead, gt := h.gt, gf := h.gf, gridValue := h.gridValue, published := h.published }) :
    h = { g with
      banks := h.banks, lead := h.lead, gt := h.gt, gf := h.gf, gridValue := h.gridValue, published := h.published } :=
  hh.trans (congrArg (fun u : Gd => { u with
    banks := h.banks, lead := h.lead, gt := h.gt, gf := h.gf, gridValue := h.gridValue, published := h.published }) hw)

theorem execGridTimer_spec (s : State) (x : PerBank GridPorts) :
    ∃ t, exec (.gridTimer x) s = .next t ∧ GridTimed s x t := by
  refine ⟨((s.bankTimer .a x.a).bankTimer .b x.b).publishGrid.evalGrid.testGt, rfl, ?_⟩
  have ha := s.bankTimer_spec .a x.a
  generalize s.bankTimer .a x.a = u at *
  have hb := u.bankTimer_spec .b x.b
  generalize u.bankTimer .b x.b = w at *
  rw [State.gridTimer_close_eq]
  have hgd : w.gd = { s.gd with
      banks := w.gd.banks, lead := w.gd.lead, gt := w.gd.gt, gf := w.gd.gf, gridValue := w.gd.gridValue
      published := w.gd.published } := by rw [hb.gd, ha.gd]
  have hframe : w = { s with ct := w.ct, gd := w.gd, handed := w.handed } := by rw [hb.frame, ha.frame]
  have hct : w.ct = s.ct := by rw [hb.frame, ha.frame]
  have hvalue : w.gd.gridValue = s.gd.gridValue := by rw [hb.gd, ha.gd]
  have hgt : w.gd.gt = s.gd.gt := by rw [hb.gd, ha.gd]
  have hgf : w.gd.gf = ((w.bank .a).faulty || (w.bank .b).faulty) := hb.gf.trans w.gd.faulty_or
  have hgfA : u.gd.gf = ((w.bank .a).faulty || (s.bank .b).faulty) := by
    rw [ha.gf, u.gd.faulty_or]
    exact congrArg₂ or (BankRec.sameButLead.faulty hb.other).symm (BankRec.sameButLead.faulty ha.other)
  have hhanded : w.handed ++ told .gt w.gd.gt (w.gd.hot 95) =
      s.handed ++ told .gf s.gd.gf ((w.bank .a).faulty || (s.bank .b).faulty) ++
        told .gf ((w.bank .a).faulty || (s.bank .b).faulty) w.gd.gf ++ told .gt s.gd.gt (w.gd.hot 95) := by
    rw [hb.handed, ha.handed, hgfA, hgt]
  have hstepped := bothTimed_stepped ha hb
  have hlead := bothTimed_lead ha hb
  have hmoved := bothTimed_moved ha hb
  have hkept := bothTimed_kept ha hb
  refine ⟨?_, ?_, hstepped, hlead, hmoved, hkept, rfl, ?_, rfl, hgf, hhanded⟩
  · exact gridFrame_trans hframe rfl
  · exact Gd.frame_trans hgd rfl
  · rw [← hct, ← hvalue]
    rfl

end Sys2Proof.Machine

namespace Sys2Proof.Proofs.GridBanks
open Sys2Proof Sys2Proof.Machine

/-- Settles O40: the four steps of each bank (`TimerStepped`), and the close of the timer after both (`GridTimed`). -/
theorem gridTimerStepsEachBank : Obligations.GridTimerStepsEachBank := by
  intro s ports
  obtain ⟨t, hexec, ht⟩ := execGridTimer_spec s ports
  have hcfg : t.gd.cfg = s.gd.cfg := (congrArg Gd.cfg ht.gd).trans rfl
  refine ⟨t, hexec, ht.frame, ht.gd, fun k => ?_, ht.lead, ht.moved, ht.kept, ht.published, ?_, ?_, ht.gf, ht.handed⟩
  · intro b cap rated speed fraction heat on fails serves openGrid
    have hk := ht.bank k
    have hopen : b.openGrid (ports.get k).current = openGrid := by
      rw [BankRec.openGrid, BankState.serves_eq]
    have hheat : (t.bank k).heat = heat := (congrArg BankRec.heat hk.cooled).trans (b.cooled_heat _ k (ports.get k))
    have hon : (t.bank k).blower = on := by
      rw [hk.cooled]
      exact (b.cooled_blower s.gd.cfg k (ports.get k)).trans (by rw [BankRec.cooled_heat])
    have hcount : (t.bank k).blowerCount = if fails then min 20 (b.blowerCount + 1) else 0 := by
      rw [hk.cooled]
      exact (b.cooled_blowerCount s.gd.cfg k (ports.get k)).trans
        (by rw [BankRec.cooled_blower, BankRec.cooled_heat])
    have hserves (h : (t.bank k).state = .ready ∨ (t.bank k).state = .dissipating) := hk.avail.trans
      (availPower_serving rated cap (t.bank k).heat (BankState.serves_iff.2 h))
    refine ⟨hheat, (congrArg BankRec.accum hk.cooled).trans rfl, hon, (congrArg BankRec.blowerSpeed hk.cooled).trans rfl,
      hcount, ?_, hopen ▸ hk.closed, hopen ▸ hk.counted, hopen ▸ hk.fails, fun hready hdissipating => ?_,
      fun h => ⟨fun hcool => ?_, fun hhot => ?_⟩, (congrArg BankRec.checkTimer hk.cooled).trans rfl,
      (congrArg BankRec.recheck hk.cooled).trans rfl⟩
    · rw [hk.cooled]
      exact b.cooled_blowerMark s.gd.cfg k (ports.get k)
    · refine hk.avail.trans (availPower_idle _ _ _ (Bool.eq_false_iff.2 fun hserving => ?_))
      exact (BankState.serves_iff.1 hserving).elim hready hdissipating
    · rw [hserves h, hheat, if_pos hcool]
    · rw [hserves h, hheat, if_neg (not_lt.2 hhot)]
  · refine ht.evaluated.trans (congrArg₂ (gridEvaluated s.ct s.gd.gridValue) ?_ ?_)
    · rw [Gd.condition_any, hcfg]
      simp only [BankRec.unproven, Bool.or_assoc]
      rfl
    · rw [Gd.recordValue, hcfg]
      rfl
  · rw [ht.gt, Gd.hot, hcfg]
    rfl

end Sys2Proof.Proofs.GridBanks

namespace Sys2Proof.Machine
open Sys2Proof

/-! ### The grid clear (R78, R89) -/

/-- R89: a bank after the grid clear: its blower marks cleared, and its check restarted where it was FAILED. -/
def BankRec.gridCleared (b : BankRec) : BankRec :=
  if b.state = .failed then b.blowerCleared.startCheck else b.blowerCleared

/-- R86: an evaluation repeated at the same value changes nothing. -/
theorem gridEvaluated_again (t : List Slot) (held : Option Nat) (v : Nat) :
    gridEvaluated (gridEvaluated t held true v).2 (gridEvaluated t held true v).1 true v = gridEvaluated t held true v := by
  have hnear : ¬10 ≤ gap v v := by simp [gap]
  cases held with
  | none => simp [gridEvaluated, hnear]
  | some w =>
    by_cases hfar : 10 ≤ gap v w
    · simp [gridEvaluated, hfar, hnear]
    · simp [gridEvaluated, hfar]

/-- R89: the checks that the grid clear restarts, before GF is tested. -/
def State.rechecked (s : State) : State :=
  (s.blowersCleared.recheck .a ((s.bank .a).state == .failed)).recheck .b ((s.bank .b).state == .failed)

theorem State.gridClear_rechecked (s : State) : s.gridClear.1 = s.rechecked.testGf true := rfl

/-- What the checks of the grid clear leave of `s` in `w`, with some bank FAILED. -/
structure Rechecked (s w : State) : Prop where
  frame : w = { s with ct := w.ct, gd := w.gd }
  gd : w.gd = { s.gd with
    banks := w.gd.banks, lead := w.gd.lead, gridValue := w.gd.gridValue, published := w.gd.published }
  bank : ∀ k, (s.bank k).gridCleared.sameButLead (w.bank k)
  published : w.gd.published = w.gd.figures
  lead : s.gd.Legal → w.gd.lead = settledLead s.gd.order s.gd.lead (fun _ => false)
  evaluated : s.gd.Legal → (w.gd.gridValue, w.ct) = gridEvaluated s.ct s.gd.gridValue true w.gd.recordValue

section Clear
variable {s : State}

theorem State.blowersCleared_bank (s : State) (k : Bank) : s.blowersCleared.bank k = (s.bank k).blowerCleared :=
  PerBank.get_of ..

theorem State.rechecked_none (h : ∀ k, (s.bank k).state ≠ .failed) : s.rechecked = s.blowersCleared := by
  simp [State.rechecked, State.recheck, h]

theorem State.rechecked_one {k : Bank} (h : (s.bank k).state = .failed) (hother : (s.bank k.other).state ≠ .failed) :
    s.rechecked = s.blowersCleared.startCheck k := by
  cases k with
  | a => simp [State.rechecked, State.recheck, h, show (s.bank .b).state ≠ .failed from hother]
  | b => simp [State.rechecked, State.recheck, h, show (s.bank .a).state ≠ .failed from hother]

theorem State.rechecked_both (h : ∀ k, (s.bank k).state = .failed) : s.rechecked = s.blowersCleared.startBoth := by
  simp [State.rechecked, State.recheck, h, State.startBoth]

/-- R78: one check restarted, the other bank not being FAILED. -/
theorem rechecked_of_one {k : Bank} (h : (s.bank k).state = .failed) (hother : (s.bank k.other).state ≠ .failed) :
    Rechecked s (s.blowersCleared.startCheck k) := by
  have hw := s.blowersCleared.startCheck_renewed k
  have hpublished : (s.blowersCleared.startCheck k).gd.published = (s.blowersCleared.startCheck k).gd.figures := rfl
  generalize s.blowersCleared.startCheck k = w at *
  have hbank (j : Bank) : (s.bank j).gridCleared.sameButLead (w.bank j) := by
    rcases bank_eq_or_other k j with rfl | rfl
    · rw [BankRec.gridCleared, if_pos h, ← State.blowersCleared_bank]
      exact hw.bank
    · rw [BankRec.gridCleared, if_neg hother, ← State.blowersCleared_bank]
      exact hw.other
  have hnone (j : Bank) : (w.bank j).state ≠ .failed := by
    rw [(hbank j).state, BankRec.gridCleared]
    split
    · exact nofun
    · assumption
  have hunproven : (w.bank k).unproven = true := by
    rw [BankRec.unproven, hbank k, BankRec.gridCleared, if_pos h]
    simp [BankRec.startCheck, BankRec.blowerCleared, h]
  refine ⟨hw.frame, hw.gd, hbank, hpublished, fun _ => ?_, fun _ => hw.evaluated.trans ?_⟩
  · rw [hw.lead]
    exact congrArg (settledLead _ _) (funext fun j => beq_eq_false_iff_ne.2 (hnone j))
  · refine congrArg (gridEvaluated s.ct s.gd.gridValue · _) ?_
    rw [Gd.condition_any, List.any_eq_true]
    exact ⟨k, by cases k <;> simp, Bool.or_eq_true_iff.2 (.inr hunproven)⟩

/-- R78: both checks restarted, A before B; over legal banks the two evaluations find the same value (log 21). -/
theorem rechecked_of_both (h : ∀ k, (s.bank k).state = .failed) : Rechecked s s.blowersCleared.startBoth := by
  have hw := s.blowersCleared.startBoth_started
  generalize s.blowersCleared.startBoth = w at *
  have hcleared (hs : s.gd.Legal) : banksLegal s.blowersCleared.gd :=
    (banksLegal_iff _).2 (hs.mapBanks hs.bank fun _ => Iff.rfl)
  refine ⟨hw.frame, hw.gd, fun k => ?_, hw.published, fun hs => hw.lead (hcleared hs), fun hs => hw.evaluated.trans ?_⟩
  · rw [BankRec.gridCleared, if_pos (h k), ← State.blowersCleared_bank]
    exact hw.bank k
  · have havail : (s.blowersCleared.bank .b).avail = 0 := by
      rw [State.blowersCleared_bank]
      exact (hs.bank .b).avail_of_idle (by rw [show (s.gd.banks.get .b).state = .failed from h .b]; rfl)
    have hvalue : w.gd.recordValue = 0 := by
      rw [Gd.recordValue_eq (hw.bank .a) (hw.bank .b)]
      simp [BankRec.startCheck]
    have hfailed (k : Bank) : ((s.blowersCleared.bank k).state == .failed) = true := by
      rw [State.blowersCleared_bank]
      exact beq_iff_eq.2 (h k)
    simp only [hfailed, havail, hvalue, Bool.or_true, Bool.true_or, Nat.mul_zero, Nat.zero_div, Nat.min_zero]
    exact gridEvaluated_again s.ct s.gd.gridValue 0

theorem State.rechecked_spec (h : ∃ k, (s.bank k).state = .failed) : Rechecked s s.rechecked := by
  obtain ⟨k, hk⟩ := h
  by_cases hother : (s.bank k.other).state = .failed
  · have hboth (j : Bank) : (s.bank j).state = .failed := by rcases bank_eq_or_other k j with rfl | rfl <;> assumption
    exact State.rechecked_both hboth ▸ rechecked_of_both hboth
  · exact State.rechecked_one hk hother ▸ rechecked_of_one hk hother

end Clear

/-! ### The clears of CLEAR_FAULTS for the truck (R150, R187) -/

/-- R187: GF or ST tested at once: a begins event waits, and PU takes an ends event within the request. -/
theorem State.takeCondition_eq (s : State) (c : HandedClass) (was now : Bool) :
    s.takeCondition c was now = { s with
      pu := if was && !now then { s.pu with conds := s.pu.conds.put c.toTruck false } else s.pu
      handed := s.handed ++ if now && !was then [.truckConditionBegins ⟨c, none⟩] else [] } := by
  cases was <;> cases now <;> simp [State.takeCondition, State.hand, State.endsEvent, State.withPu, State.withHanded]

theorem State.testGf_atOnce_eq (s : State) :
    s.testGf true = { s with
      gd := { s.gd with gf := s.gd.faulty }
      pu := { s.pu with conds := { s.pu.conds with gf := s.pu.conds.gf && !(s.gd.gf && !s.gd.faulty) } }
      handed := s.handed ++ if s.gd.faulty && !s.gd.gf then [.truckConditionBegins ⟨.gf, none⟩] else [] } := by
  rw [show s.testGf true = (s.withGd { s.gd with gf := s.gd.faulty }).takeCondition .gf s.gd.gf s.gd.faulty from rfl,
    State.takeCondition_eq]
  cases s.gd.gf <;> cases s.gd.faulty <;> simp [TruckSet.put, HandedClass.toTruck, State.withGd]

/-- R150: SC leaves DIRECT for ALIGN where its sensors agree. -/
def Sc.steeringCleared (c : Sc) : Sc :=
  if c.state = .direct ∧ c.sensorsAgree = true then
    { c with
      state := .align, valve := 0, following := 0, followMark := false, sensorFault := 0, agreement := 0, stCond := false }
  else c

theorem State.steeringClear_eq (s : State) :
    s.steeringClear = { s with
      sc := s.sc.steeringCleared
      pu := { s.pu with conds := { s.pu.conds with
        st := s.pu.conds.st && !(s.sc.state == .direct && s.sc.sensorsAgree && s.sc.stCond) } } } := by
  by_cases h : s.sc.state = .direct ∧ s.sc.sensorsAgree = true
  · have hclear : s.steeringClear =
        (s.withSc { s.sc.backup .align with stCond := false }).takeCondition .st s.sc.stCond false := if_pos (by simp [h])
    rw [hclear, State.takeCondition_eq, Sc.steeringCleared, if_pos h, h.1, h.2]
    cases s.sc.stCond <;> simp [Sc.backup, TruckSet.put, HandedClass.toTruck, State.withSc]
  · have hstands : s.steeringClear = s := if_neg (by simpa using h)
    have hnot : (s.sc.state == .direct && s.sc.sensorsAgree) = false := by simpa using h
    rw [hstands, Sc.steeringCleared, if_neg h, hnot]
    simp

/-- R187: the level once the truck flags are `flags`. -/
def Pu.clearedLevel (p : Pu) (flags : TruckSet) : Level :=
  if p.level = .stoppedSafe ∧ stopping flags p.masks = false then .normal else p.level

theorem State.clearTruckFlags_eq (s : State) :
    s.clearTruckFlags = { s with
      ct := if s.pu.level = .stoppedSafe ∧ s.pu.clearedLevel (s.pu.flags.inter s.pu.conds) = .normal then
        claimRetire s.ct .safe none else s.ct
      pu := { s.pu with
        flags := s.pu.flags.inter s.pu.conds, level := s.pu.clearedLevel (s.pu.flags.inter s.pu.conds) } } := by
  generalize hflags : s.pu.flags.inter s.pu.conds = flags
  by_cases h : s.pu.level = .stoppedSafe ∧ stopping flags s.pu.masks = false
  · have hends : s.clearTruckFlags =
        (s.withPu { s.pu with flags := flags, level := .normal }).release .safe none := by
      subst hflags
      exact if_pos (Bool.and_eq_true_iff.2 ⟨decide_eq_true h.1, by rw [Bool.not_eq_true']; exact h.2⟩)
    rw [hends, Pu.clearedLevel, if_pos h, if_pos ⟨h.1, rfl⟩]
    rfl
  · have hstands : s.clearTruckFlags = s.withPu { s.pu with flags := flags } := by
      subst hflags
      refine if_neg fun h' => h ?_
      obtain ⟨hlevel, hends⟩ := Bool.and_eq_true_iff.1 h'
      exact ⟨of_decide_eq_true hlevel, Bool.not_eq_true' _ ▸ hends⟩
    rw [hstands, Pu.clearedLevel, if_neg h, if_neg fun h' => by simp [h'.1] at h']
    rfl

/-- R187: the truck cleared. -/
def State.truckCleared (s : State) : State := s.gridClear.1.steeringClear.clearTruckFlags

/-- R187: the conditions that PU holds after the grid and the steering clear. -/
def State.clearedConds (s : State) (faulty : Bool) : TruckSet :=
  { s.pu.conds with
    gf := s.pu.conds.gf && !(s.gd.gf && !faulty)
    st := s.pu.conds.st && !(s.sc.state == .direct && s.sc.sensorsAgree && s.sc.stCond) }

theorem State.truckCleared_eq (s : State) :
    let w := s.rechecked
    let conds := w.clearedConds w.gd.faulty
    let flags := w.pu.flags.inter conds
    s.truckCleared = { w with
      ct := if w.pu.level = .stoppedSafe ∧ w.pu.clearedLevel flags = .normal then claimRetire w.ct .safe none else w.ct
      gd := { w.gd with gf := w.gd.faulty }
      sc := w.sc.steeringCleared
      pu := { w.pu with conds := conds, flags := flags, level := w.pu.clearedLevel flags }
      handed := w.handed ++ if w.gd.faulty && !w.gd.gf then [.truckConditionBegins ⟨.gf, none⟩] else [] } := by
  rw [State.truckCleared, State.clearTruckFlags_eq, State.steeringClear_eq, State.gridClear_rechecked,
    State.testGf_atOnce_eq]
  rfl

section Rechecked
variable (s : State)

theorem State.rechecked_frame : s.rechecked = { s with ct := s.rechecked.ct, gd := s.rechecked.gd } := by
  by_cases h : ∃ k, (s.bank k).state = .failed
  · exact (State.rechecked_spec h).frame
  · rw [State.rechecked_none (not_exists.1 h)]
    rfl

theorem State.rechecked_gd :
    s.rechecked.gd = { s.gd with
      banks := s.rechecked.gd.banks, lead := s.rechecked.gd.lead, gridValue := s.rechecked.gd.gridValue
      published := s.rechecked.gd.published } := by
  by_cases h : ∃ k, (s.bank k).state = .failed
  · exact (State.rechecked_spec h).gd
  · rw [State.rechecked_none (not_exists.1 h)]
    rfl

theorem State.rechecked_bank (k : Bank) : (s.bank k).gridCleared.sameButLead (s.rechecked.bank k) := by
  by_cases h : ∃ k, (s.bank k).state = .failed
  · exact (State.rechecked_spec h).bank k
  · rw [State.rechecked_none (not_exists.1 h), State.blowersCleared_bank, BankRec.gridCleared,
      if_neg (not_exists.1 h k)]
    rfl

end Rechecked

/-- R86: the ceiling table once the checks of the grid clear have evaluated the GRID record at the value `v`. -/
def State.graded (s : State) (v : Nat) : List Slot :=
  if (s.bank .a).state = .failed ∨ (s.bank .b).state = .failed then (gridEvaluated s.ct s.gd.gridValue true v).2 else s.ct

theorem exists_bank_iff {p : Bank → Prop} : (∃ k, p k) ↔ p .a ∨ p .b :=
  ⟨fun ⟨k, hk⟩ => by cases k <;> tauto, fun h => h.elim (⟨_, ·⟩) (⟨_, ·⟩)⟩

/-- What CLEAR_FAULTS for the truck leaves of `s` in `u`. -/
structure TruckCleared (s u : State) : Prop where
  frame : u = { s with ct := u.ct, gd := u.gd, sc := u.sc, pu := u.pu, handed := u.handed }
  cfg : u.gd.cfg = s.gd.cfg
  bank : ∀ k, (s.bank k).gridCleared.sameButLead (u.bank k)
  unstarted : (¬∃ k, (s.bank k).state = .failed) →
    u.gd = { s.gd with banks := u.gd.banks, gf := u.gd.gf } ∧
      ∀ k, (u.bank k).leadEnergy = (s.bank k).leadEnergy ∧ (u.bank k).leadRem = (s.bank k).leadRem
  started : (∃ k, (s.bank k).state = .failed) → s.gd.Legal →
    u.gd.lead = settledLead s.gd.order s.gd.lead (fun _ => false) ∧ u.gd.published = u.gd.figures ∧
      u.gd.gridValue = (gridEvaluated s.ct s.gd.gridValue true u.gd.recordValue).1
  table : (¬∃ k, (s.bank k).state = .failed) ∨ s.gd.Legal →
    u.ct = if s.pu.level = .stoppedSafe ∧ u.pu.level = .normal then
      claimRetire (s.graded u.gd.recordValue) .safe none else s.graded u.gd.recordValue
  gf : u.gd.gf = u.gd.faulty
  handed : u.handed = s.handed ++ if u.gd.faulty && !s.gd.gf then [.truckConditionBegins ⟨.gf, none⟩] else []
  conds : u.pu.conds = s.clearedConds u.gd.faulty
  sc : u.sc = s.sc.steeringCleared
  pu : u.pu = { s.pu with
    conds := u.pu.conds, flags := s.pu.flags.inter u.pu.conds
    level := s.pu.clearedLevel (s.pu.flags.inter u.pu.conds) }

/-- R78, R89: a bank after the grid clear, but for the lead energy. -/
theorem truckCleared_bank {s u : State} (h : TruckCleared s u) (k : Bank) :
    u.bank k =
      if (s.bank k).state = .failed then
        { s.bank k with
          blowerMark := false, blowerCount := 0, state := .checking, chopper := 200, avail := 0, openCount := 0
          checkTimer := some 200, recheck := true
          leadEnergy := (u.bank k).leadEnergy, leadRem := (u.bank k).leadRem }
      else
        { s.bank k with
          blowerMark := false, blowerCount := 0
          leadEnergy := (u.bank k).leadEnergy, leadRem := (u.bank k).leadRem } := by
  have hbank : u.bank k = { (s.bank k).gridCleared with
    leadEnergy := (u.bank k).leadEnergy, leadRem := (u.bank k).leadRem } := h.bank k
  rw [BankRec.gridCleared] at hbank
  split at hbank
  · next hfailed =>
    rw [if_pos hfailed]
    simpa [BankRec.startCheck, BankRec.blowerCleared, hfailed] using hbank
  · next hfailed =>
    rw [if_neg hfailed]
    exact hbank

theorem State.rechecked_table {s : State} (h : (¬∃ k, (s.bank k).state = .failed) ∨ s.gd.Legal) :
    s.rechecked.ct = s.graded s.rechecked.gd.recordValue := by
  by_cases hstarted : ∃ k, (s.bank k).state = .failed
  · have hevaluated := (State.rechecked_spec hstarted).evaluated (h.resolve_left (not_not.2 hstarted))
    rw [State.graded, if_pos (exists_bank_iff.1 hstarted), ← hevaluated]
  · rw [State.graded, if_neg (mt exists_bank_iff.2 hstarted), State.rechecked_none (not_exists.1 hstarted)]
    rfl

theorem State.truckCleared_spec (s : State) : TruckCleared s s.truckCleared := by
  have hframe := s.rechecked_frame
  have hgd := s.rechecked_gd
  have hbank := s.rechecked_bank
  have hstarted (h : ∃ k, (s.bank k).state = .failed) := State.rechecked_spec h
  have hnone (h : ¬∃ k, (s.bank k).state = .failed) := State.rechecked_none (not_exists.1 h)
  have htable (h : (¬∃ k, (s.bank k).state = .failed) ∨ s.gd.Legal) := State.rechecked_table h
  have hu := s.truckCleared_eq
  generalize s.rechecked = w at *
  have hpu : w.pu = s.pu := (congrArg State.pu hframe).trans rfl
  have hsc : w.sc = s.sc := (congrArg State.sc hframe).trans rfl
  have hhanded : w.handed = s.handed := (congrArg State.handed hframe).trans rfl
  have hgf : w.gd.gf = s.gd.gf := (congrArg Gd.gf hgd).trans rfl
  have hcfg : w.gd.cfg = s.gd.cfg := (congrArg Gd.cfg hgd).trans rfl
  have hconds : w.clearedConds w.gd.faulty = s.clearedConds w.gd.faulty := by
    simp only [State.clearedConds, hpu, hsc, hgf]
  simp only [hconds, hpu, hsc, hhanded, hgf] at hu
  rw [hu]
  refine ⟨?_, hcfg, hbank, fun h => ?_, fun h hs => ?_, fun h => ?_, rfl, rfl, rfl, rfl, rfl⟩
  · conv_lhs => rw [hframe]
  · obtain rfl := hnone h
    refine ⟨rfl, fun k => ?_⟩
    change (s.blowersCleared.bank k).leadEnergy = _ ∧ (s.blowersCleared.bank k).leadRem = _
    rw [State.blowersCleared_bank]
    exact ⟨rfl, rfl⟩
  · have hw := hstarted h
    refine ⟨hw.lead hs, hw.published, ?_⟩
    exact congrArg Prod.fst (hw.evaluated hs)
  · exact if_congr Iff.rfl (congrArg (claimRetire · _ _) (htable h)) (htable h)

/-! ### CLEAR_FAULTS and SET_MASK by their targets (R186 to R190) -/

section Requests
variable {s : State}

/-- R193, R194: a request whose effects, on the frame taken, leave the link alone. -/
theorem request_framed (h : s.linkFree) (q : Req) {body : State → State × Answer} {v : State} {a : Answer}
    (hbody : body s.takeFrame = (v, a)) (hsl : v.sl = s.takeFrame.sl) :
    request q body s = replied s { v with sl := s.sl } q a := by
  refine request_replied q body s _ a h (hbody.trans (congrArg (·, a) ?_)) rfl
  exact congrArg (fun x => ({ v with sl := x } : State)) hsl

theorem clearFaultsBody_station (n : Station) : clearFaultsBody n.num = clearStation n := by
  funext u
  rw [clearFaultsBody, stationOf_num]

theorem setMaskBody_station (n : Station) (set : Nat) : setMaskBody n.num set = setStationMask n set := by
  funext u
  rw [setMaskBody, stationOf_num]

theorem clearFaultsBody_beyond {n : Nat} (h : 5 ≤ n) (u : State) : clearFaultsBody n u = (u, refuseValue .target) := by
  rw [clearFaultsBody, stationOf_of_le (by omega)]
  exact if_neg (by omega)

theorem setMaskBody_beyond {n : Nat} (h : 5 ≤ n) (set : Nat) (u : State) :
    setMaskBody n set u = (u, refuseValue .target) := by
  rw [setMaskBody, stationOf_of_le (by omega)]
  exact if_neg (by omega)

/-- R186: the answer, by the station's state and flags after the request. -/
theorem clearStationAnswer_eq {before : StationState} {x : StationCtx} (payload : List Byte)
    (h : x.state = .tripped → before = .tripped) :
    clearStationAnswer before x payload =
      if x.state = .tripped then doneAlert .stillTripped payload
      else if x.settings.flags.any then doneAlert .conditionsPresent payload else done payload := by
  unfold clearStationAnswer
  refine if_congr ?_ rfl rfl
  simpa using h

/-- R187: the answer, by the level, the checks and the flags after the request. -/
theorem clearTruckAnswer_eq {s u : State} (h : TruckCleared s u) (hmoving : s.pu.level ≠ .safeStop) {started : Bool}
    {p : Prop} [Decidable p] (hstarted : started = true ↔ p) :
    ((clearTruckAnswer (s.pu.level == .stoppedSafe) started u).cls,
      (clearTruckAnswer (s.pu.level == .stoppedSafe) started u).detail) =
      if u.pu.level ≠ .normal then (.doneAlert, some .stillStopped)
      else if p then (.doneAlert, some .checkStarted)
      else if u.pu.flags.any then (.doneAlert, some .conditionsPresent) else (.done, none) := by
  have hlevel : u.pu.level = s.pu.clearedLevel u.pu.flags := by rw [h.pu]
  have hmasks : u.pu.masks = s.pu.masks := by rw [h.pu]
  have hstill : (s.pu.level == .stoppedSafe && stopping u.pu.flags u.pu.masks) = true ↔ u.pu.level ≠ .normal := by
    rw [hlevel, hmasks, Pu.clearedLevel]
    cases hl : s.pu.level with
    | normal => simp
    | safeStop => exact absurd hl hmoving
    | stoppedSafe => cases stopping u.pu.flags s.pu.masks <;> simp
  unfold clearTruckAnswer
  by_cases hs : u.pu.level ≠ .normal
  · rw [if_pos hs, if_pos (hstill.2 hs)]
    rfl
  · rw [if_neg hs, if_neg (mt hstill.1 hs), if_congr hstarted.symm rfl rfl]
    cases started <;> cases u.pu.flags.any <;> rfl

/-- R187: the answer's payload is the level, the flags and the condition marks. -/
theorem clearTruckAnswer_payload (started stopped : Bool) (u : State) :
    (clearTruckAnswer stopped started u).payload = u.truckFlagBytes := by
  simp only [clearTruckAnswer, apply_ite Answer.payload, doneAlert, done, ite_self]

/-! #### The PL mask and the escalation (R168, R183) -/

theorem State.claimWanted_eq (s : State) (k : Key) (want claimed : Option Nat) :
    s.claimWanted k want claimed = s.withCt (keyClaimed s.ct k want claimed) := by
  unfold State.claimWanted keyClaimed
  cases want with
  | none =>
    dsimp only
    split <;> rfl
  | some v =>
    dsimp only
    split <;> rfl

theorem payloadWanted_eq (p : Pm) : payloadWanted p.over10Speed p.plMasked p.cls = (p.speedWanted, p.propelWanted) := by
  unfold Pm.speedWanted Pm.propelWanted
  cases p.cls with
  | none => rfl
  | some c => cases c <;> rfl

/-- R168: PM takes a PL mask, and claims its keys one after the other. -/
theorem State.takePlMask_eq (s : State) (masked : Bool) :
    let want := payloadWanted s.pm.over10Speed masked s.pm.cls
    s.takePlMask masked = { s with
      ct := keyClaimed (keyClaimed s.ct .payloadSpeed want.1 s.pm.speedClaimed) .payloadPropel want.2 s.pm.propelClaimed
      pm := { s.pm with plMasked := masked, speedClaimed := want.1, propelClaimed := want.2 } } := by
  have hwant := payloadWanted_eq { s.pm with plMasked := masked }
  dsimp only at hwant ⊢
  rw [hwant, State.takePlMask, State.claimPayload, State.claimWanted_eq, State.claimWanted_eq]
  rfl

/-- R183: an escalation from NORMAL. -/
theorem State.safeStop_eq {s : State} (h : s.pu.level = .normal) :
    s.safeStop = { s with
      ct := claimSet s.ct .safe 0 none none
      pu := { s.pu with level := .safeStop, stopped := 0 }
      sl := { s.sl with notices := { s.sl.notices with safeStop := true } } } := if_pos h

/-- R189: the classes other than PL that a mask set opens with their flag set. -/
theorem newlyStopping_eq (old new flags : TruckSet) :
    newlyStopping old new flags = [TruckClass.gt, .gf, .dv, .os, .st, .sp, .pr].any fun c =>
      old.get c && !new.get c && flags.get c := by
  rw [Bool.eq_iff_iff, newlyStopping, stopping_iff, List.any_eq_true]
  refine exists_congr fun c => ?_
  rw [TruckSet.get_inter]
  cases c <;> simp [TruckSet.stops, and_assoc, and_comm, and_left_comm]

end Requests

end Sys2Proof.Machine

namespace Sys2Proof.Proofs.GridBanks
open Sys2Proof Sys2Proof.Machine

section
variable {s : State}

/-- R186: CLEAR_FAULTS for a station. -/
theorem clearFaultsStation_clears (hfree : s.linkFree) (n : Station) :
    let x := s.station n
    let kept : Settings := { x.settings with flags := x.settings.flags.minus (x.settings.flags.minus (s.puStation n).conds) }
    let st : StationState := if x.state = .tripped ∧ kept.tripping = false then .standby else x.state
    let shown := u8 (stationStateCode st) ++ u16 kept.flags.code
    (x.state = .parked →
      exec (.clearFaultsStation n.num) s = .next (replied s s .clearFaults (refuseState .parked))) ∧
    (x.state ≠ .parked →
      exec (.clearFaultsStation n.num) s = .next (replied s
        { s with
          sm := s.sm.set n { x with state := st, settings := kept }
          pu := { s.pu with
            stations := s.pu.stations.set n
              { s.puStation n with copy := if st = x.state then (s.puStation n).copy else st } } }
        .clearFaults
        (if st = .tripped then doneAlert .stillTripped shown
        else if kept.flags.any then doneAlert .conditionsPresent shown else done shown))) := by
  intro x kept st shown
  refine ⟨fun hparked => ?_, fun hparked => ?_⟩
  · refine congrArg Host.Outcome.next (request_refused (body := clearFaultsBody n.num) hfree _
      (congrFun (clearFaultsBody_station n) _) ?_)
    rw [State.takeFrame_station]
    simp [show (s.station n).state = .parked from hparked]
  · have hleaves : x.leaves (x.settings.flags.minus (s.puStation n).conds) = true ↔
        x.state = .tripped ∧ kept.tripping = false := by
      rw [StationCtx.leaves, Bool.and_eq_true, beq_iff_eq, Bool.not_eq_true']
      rfl
    have hst : (if x.leaves (x.settings.flags.minus (s.puStation n).conds) then StationState.standby else x.state) = st :=
      if_congr hleaves rfl rfl
    have hcopy : (if x.leaves (x.settings.flags.minus (s.puStation n).conds) then StationState.standby
        else (s.puStation n).copy) = if st = x.state then (s.puStation n).copy else st := by
      rw [← hst]
      split
      · next h => rw [if_neg (by rw [(hleaves.1 h).1]; exact nofun)]
      · rw [if_pos rfl]
    have hstays : st = .tripped → x.state = .tripped := fun h => by
      rw [← hst] at h
      split at h
      · cases h
      · exact h
    have htake : s.takeFrame.takeClear n (x.settings.flags.minus (s.puStation n).conds) =
        framed s (s.give n { x with state := st, settings := kept }
          { s.puStation n with copy := if st = x.state then (s.puStation n).copy else st }) := by
      rw [State.takeClear_eq, ← hcopy, ← hst]
      rfl
    refine congrArg Host.Outcome.next (request_replied _ (clearFaultsBody n.num) s (s.give n _ _) _ hfree ?_ rfl)
    rw [clearFaultsBody_station]
    refine (checked_ok _ _ _ ?_).trans ?_
    · simpa using hparked
    · rw [show (s.takeFrame.station n).settings.flags.minus (s.takeFrame.puStation n).conds =
        x.settings.flags.minus (s.puStation n).conds from rfl, htake]
      have hctx (p : PuStation) : (framed s (s.give n { x with state := st, settings := kept } p)).station n =
          { x with state := st, settings := kept } := State.give_station_same s n _ p
      rw [State.stationFlagBytes, hctx, clearStationAnswer_eq _ hstays]

/-- R188: SET_MASK for a station. -/
theorem setMaskStation_writes (hfree : s.linkFree) (n : Station) (set : Nat) :
    let x := s.station n
    (stationMaskOf set = none →
      exec (.setMaskStation n.num set) s = .next (replied s s .setMask (refuseValue .mask))) ∧
    ∀ m, stationMaskOf set = some m →
      (x.state = .tripped →
        exec (.setMaskStation n.num set) s = .next (replied s s .setMask (refuseState .tripped))) ∧
      (x.state = .parked →
        exec (.setMaskStation n.num set) s = .next (replied s s .setMask (refuseState .parked))) ∧
      (x.state ≠ .tripped → x.state ≠ .parked →
        let u : State := { s with sm := s.sm.set n { x with settings := { x.settings with mask := m } } }
        let opened := [StationClass.oc, .mt, .it, .sl].filter fun c =>
          x.settings.mask.masks c && !m.masks c && x.settings.flags.get c
        (opened = [] → exec (.setMaskStation n.num set) s = .next (replied s u .setMask (done []))) ∧
        ∀ c, opened.head? = some c → exec (.setMaskStation n.num set) s = .next (replied s
          { u with
            sl := { s.sl with
              notices := { s.sl.notices with stationTrip := true }, tripSet := s.sl.tripSet.set n true }
            handed := s.handed ++ [.raiseClaim n c true] }
          .setMask (doneAlert .escalated []))) := by
  intro x
  have hrefused {a : Answer}
      (h : (([((stationMaskOf set).isNone, refuseValue .mask), (x.state == .tripped, refuseState .tripped),
        (x.state == .parked, refuseState .parked)] : List (Bool × Answer)).find? Prod.fst).map Prod.snd = some a) :
      exec (.setMaskStation n.num set) s = .next (replied s s .setMask a) :=
    congrArg Host.Outcome.next (request_refused (body := setMaskBody n.num set) hfree _
      (congrFun (setMaskBody_station n set) _) h)
  refine ⟨fun hmask => hrefused (by simp [hmask]), fun m hmask => ⟨fun htripped => hrefused (by simp [hmask, htripped]),
    fun hparked => hrefused (by simp [hmask, hparked]), fun htripped hparked => ?_⟩⟩
  intro u opened
  have haccepted {v : State} {a : Answer} (hbody : (match opened with
        | c :: _ => ((framed s u).sendRaise n c true, doneAlert .escalated [])
        | [] => (framed s u, done [])) = (framed s v, a)) (hv : v.sl.busySeen = s.sl.busySeen) :
      exec (.setMaskStation n.num set) s = .next (replied s v .setMask a) := by
    refine congrArg Host.Outcome.next (request_replied _ (setMaskBody n.num set) s v a hfree ?_ hv)
    rw [setMaskBody_station, ← hbody]
    refine (checked_ok _ _ _ ?_).trans ?_
    · simp [hmask, show (s.station n).state ≠ .tripped from htripped, show (s.station n).state ≠ .parked from hparked]
    · rw [hmask]
      rfl
  refine ⟨fun hopened => haccepted (by rw [hopened]) rfl, fun c hopened => haccepted ?_ rfl⟩
  obtain ⟨rest, hrest⟩ := List.head?_eq_some_iff.1 hopened
  rw [hrest]
  rfl

/-- R189: SET_MASK for the truck. -/
theorem setMaskTruck_writes (hfree : s.linkFree) (set : Nat) :
    (truckMaskOf set = none → exec (.setMaskTruck set) s = .next (replied s s .setMask (refuseValue .mask))) ∧
    ∀ m, truckMaskOf set = some m →
      (s.pu.level ≠ .normal → exec (.setMaskTruck set) s = .next (replied s s .setMask (refuseState .level))) ∧
      (s.pu.level = .normal →
        let up : Bool := [TruckClass.gt, .gf, .dv, .os, .st, .sp, .pr].any fun c =>
          s.pu.masks.get c && !m.get c && s.pu.flags.get c
        let want := payloadWanted s.pm.over10Speed m.pl s.pm.cls
        let t0 := if up then claimSet s.ct .safe 0 none none else s.ct
        exec (.setMaskTruck set) s = .next (replied s
          { s with
            ct := if m.pl = s.pu.masks.pl then t0
              else keyClaimed (keyClaimed t0 .payloadSpeed want.1 s.pm.speedClaimed) .payloadPropel want.2
                s.pm.propelClaimed
            pm := if m.pl = s.pu.masks.pl then s.pm
              else { s.pm with plMasked := m.pl, speedClaimed := want.1, propelClaimed := want.2 }
            pu := { s.pu with
              masks := m, level := if up then .safeStop else .normal, stopped := if up then 0 else s.pu.stopped }
            sl := { s.sl with notices := { s.sl.notices with safeStop := s.sl.notices.safeStop || up } } }
          .setMask (if up then doneAlert .escalated [] else done []))) := by
  have hrefused {a : Answer}
      (h : (([((truckMaskOf set).isNone, refuseValue .mask), (s.pu.level != .normal, refuseState .level)] :
        List (Bool × Answer)).find? Prod.fst).map Prod.snd = some a) :
      exec (.setMaskTruck set) s = .next (replied s s .setMask a) :=
    congrArg Host.Outcome.next (request_refused (body := setTruckMask set) hfree _ rfl h)
  refine ⟨fun hmask => hrefused (by simp [hmask]), fun m hmask => ⟨fun hlevel => hrefused (by simp [hmask, hlevel]),
    fun hlevel => ?_⟩⟩
  intro up want t0
  have hup : newlyStopping s.pu.masks m s.pu.flags = up := newlyStopping_eq ..
  have hescalated (v : State) (hv : v.pu.level = .normal) : (if up then v.safeStop else v) = { v with
      ct := if up then claimSet v.ct .safe 0 none none else v.ct
      pu := { v.pu with level := if up then .safeStop else .normal, stopped := if up then 0 else v.pu.stopped }
      sl := { v.sl with notices := { v.sl.notices with safeStop := v.sl.notices.safeStop || up } } } := by
    cases up with
    | true => simp [State.safeStop_eq hv]
    | false => simp [← hv]
  clear_value up
  refine congrArg Host.Outcome.next (request_replied _ (setTruckMask set) s _ _ hfree ?_ rfl)
  refine (checked_ok _ _ _ ?_).trans ?_
  · simp [hmask, hlevel]
  · rw [hmask, Option.getD_some, show newlyStopping s.takeFrame.pu.masks m s.takeFrame.pu.flags = up from hup,
      hescalated (s.takeFrame.withPu { s.takeFrame.pu with masks := m }) hlevel]
    refine congrArg (·, _) ?_
    by_cases hpl : m.pl = s.pu.masks.pl
    · rw [if_pos (show s.takeFrame.pu.masks.pl = m.pl from hpl.symm), if_pos hpl, if_pos hpl]
      rfl
    · rw [if_neg (show s.takeFrame.pu.masks.pl ≠ m.pl from Ne.symm hpl), if_neg hpl, if_neg hpl, State.takePlMask_eq]
      rfl

/-- R190: PROTECTION_INIT. -/
theorem protectionInit_restores (hfree : s.linkFree) :
    (s.pu.level ≠ .normal →
      exec .protectionInit s = .next (replied s s .protectionInit (refuseState .level))) ∧
    (s.pu.level = .normal → 5 ≤ s.ta.speed →
      exec .protectionInit s = .next (replied s s .protectionInit (refuseState .moving))) ∧
    (s.pu.level = .normal → s.ta.speed < 5 →
      let want := payloadWanted s.pm.over10Speed true s.pm.cls
      exec .protectionInit s = .next (replied s
        { s with
          ct := if s.pu.masks.pl then s.ct
            else keyClaimed (keyClaimed s.ct .payloadSpeed want.1 s.pm.speedClaimed) .payloadPropel want.2
              s.pm.propelClaimed
          pm := if s.pu.masks.pl then s.pm
            else { s.pm with plMasked := true, speedClaimed := want.1, propelClaimed := want.2 }
          pu := { s.pu with
            masks := { gt := false, gf := true, dv := true, os := true, pl := true, st := false, sp := false, pr := true }
            flags := ⟨false, false, false, false, false, false, false, false⟩
            osRef := some (speedCeiling s.ct).value, osCount := 0, osDemand := 0 } }
        .protectionInit (done []))) := by
  have hrefused {a : Answer}
      (h : (([(s.pu.level != .normal, refuseState .level), (decide (5 ≤ s.ta.speed), refuseState .moving)] :
        List (Bool × Answer)).find? Prod.fst).map Prod.snd = some a) :
      exec .protectionInit s = .next (replied s s .protectionInit a) :=
    congrArg Host.Outcome.next (request_refused (body := protectionInitBody) hfree _ rfl h)
  refine ⟨fun hlevel => hrefused (by simp [hlevel]), fun hlevel hmoving => hrefused (by simp [hlevel, hmoving]),
    fun hlevel hslow => ?_⟩
  intro want
  refine congrArg Host.Outcome.next (request_replied _ protectionInitBody s _ _ hfree ?_ rfl)
  refine (checked_ok _ _ _ ?_).trans ?_
  · simp [hlevel, hslow]
  · refine congrArg (·, _) ?_
    by_cases hpl : s.pu.masks.pl = true
    · rw [if_pos hpl, if_pos hpl]
      exact if_pos hpl
    · rw [if_neg hpl, if_neg hpl]
      refine (if_neg hpl).trans ?_
      rw [State.takePlMask_eq]
      rfl

/-- R187: CLEAR_FAULTS for the truck outside SAFE_STOP. -/
theorem exec_clearFaultsTruck (hfree : s.linkFree) (hmoving : s.pu.level ≠ .safeStop) :
    ∃ u a, exec .clearFaultsTruck s = .next (replied s u .clearFaults a) ∧ TruckCleared s u ∧
      a = clearTruckAnswer (s.pu.level == .stoppedSafe)
        ((s.bank .a).state == .failed || (s.bank .b).state == .failed) u := by
  have hv := s.takeFrame.truckCleared_spec
  have hbody : clearTruck s.takeFrame = (s.takeFrame.truckCleared,
      clearTruckAnswer (s.pu.level == .stoppedSafe) s.takeFrame.gridClear.2 s.takeFrame.truckCleared) :=
    checked_ok _ _ _ (by simpa using hmoving)
  have hstarted : s.takeFrame.gridClear.2 = ((s.bank .a).state == .failed || (s.bank .b).state == .failed) := rfl
  rw [hstarted] at hbody
  generalize s.takeFrame.truckCleared = v at hv hbody
  refine ⟨{ v with sl := s.sl }, _, congrArg Host.Outcome.next (request_framed hfree .clearFaults hbody ?_), ?_, ?_⟩
  · exact (congrArg State.sl hv.frame).trans rfl
  · exact ⟨(congrArg (fun t : State => { t with sl := s.sl }) hv.frame).trans rfl, hv.cfg, hv.bank, hv.unstarted,
      hv.started, hv.table, hv.gf, hv.handed, hv.conds, hv.sc, hv.pu⟩
  · rfl

end

/-- Settles O58: CLEAR_FAULTS and SET_MASK target by target, and PROTECTION_INIT; the clears for the truck one after the
other (`TruckCleared`), the checks that they restart by the number of FAILED banks (`Rechecked`). -/
theorem faultClearsAndMasksAct : Obligations.FaultClearsAndMasksAct := by
  intro s hfree
  refine ⟨fun n hn => ⟨?_, fun m => ?_⟩, rfl, fun m => rfl, clearFaultsStation_clears hfree, setMaskStation_writes hfree,
    fun hmoving => ?_, fun hmoving => ?_, setMaskTruck_writes hfree, protectionInit_restores hfree⟩
  · exact congrArg Host.Outcome.next (request_unchanged _ (clearFaultsBody n) hfree (clearFaultsBody_beyond hn _))
  · exact congrArg Host.Outcome.next (request_unchanged _ (setMaskBody n m) hfree (setMaskBody_beyond hn m _))
  · refine congrArg Host.Outcome.next (request_refused (body := clearTruck) hfree _ rfl ?_)
    simp [hmoving]
  · obtain ⟨u, a, hexec, hu, rfl⟩ := exec_clearFaultsTruck hfree hmoving
    have hbank (k : Bank) := truckCleared_bank hu k
    have hvalue : u.gd.recordValue =
        min 1000 (1000 * ((u.bank .a).avail + (u.bank .b).avail) / (s.gd.cfg.rated.a + s.gd.cfg.rated.b)) := by
      rw [Gd.recordValue, hu.cfg]
      rfl
    have hstarted : ((s.bank .a).state == .failed || (s.bank .b).state == .failed) = true ↔
        (s.bank .a).state = .failed ∨ (s.bank .b).state = .failed := by
      rw [Bool.or_eq_true, beq_iff_eq, beq_iff_eq]
    refine ⟨u, _, hexec, clearTruckAnswer_payload .., hu.frame, fun k => ?_, hbank,
      ⟨hu.unstarted, fun hstarted hlegal => ?_, fun h => ?_⟩, hu.gf, hu.handed, hu.conds, hu.sc, hu.pu,
      fun c hgf hst => ?_, clearTruckAnswer_eq hu hmoving hstarted⟩
    · rw [hbank k]
      split <;> exact ⟨rfl, rfl, rfl⟩
    · rw [← hvalue]
      exact hu.started hstarted ((banksLegal_iff _).1 hlegal)
    · rw [← hvalue]
      exact hu.table (h.imp_right (banksLegal_iff _).1)
    · rw [hu.conds]
      cases c with
      | gf => exact absurd rfl hgf
      | st => exact absurd rfl hst
      | _ => rfl

end Sys2Proof.Proofs.GridBanks

namespace Sys2Proof.Machine
open Sys2Proof

/-! ### A resolution line by line (R97, R103 to R105) -/

section Resolution
variable {store : List (Nat × Group)} {p q : RoutePos}

theorem fetchCalled_invalid (h : p.c0 = none) : fetchCalled store p = some (p.fetch store p.next) := by
  unfold fetchCalled
  rw [h]
  rfl

theorem fetchCalled_jump {e : Entry} {g : Nat} (h : p.c0 = some e) (hd : e.desc = .jump g) :
    fetchCalled store p = some (p.fetch store g) := by
  unfold fetchCalled
  simp only [h, hd]
  rfl

theorem standsAt_span {e : Entry} {len limit : Nat} {grade : Int} {surface : Surface} {notify : Bool}
    (h : p.c0 = some e) (hd : e.desc = .span len grade limit surface notify) : standsAt p = some .span := by
  simp [standsAt, h, hd]

theorem standsAt_hold {e : Entry} {k : HoldKind} (h : p.c0 = some e) (hd : e.desc = .hold k) :
    standsAt p = some (.hold k) := by
  simp [standsAt, h, hd]

theorem standsAt_stop {e : Entry} (h : p.c0 = some e) (hd : e.desc = .stop) (ha : p.detour.isActive = false) :
    standsAt p = some .stop := by
  simp [standsAt, h, hd, ha]

/-- R103: the line that applies to a C0: a fetch, the return of an ACTIVE detour at its STOP, or an end. -/
theorem resolution_line (store : List (Nat × Group)) (p : RoutePos) :
    (∃ g, fetchCalled store p = some (p.fetch store g)) ∨
      (∃ e, p.c0 = some e ∧ e.desc = .stop ∧ p.detour.isActive = true) ∨ ∃ x, standsAt p = some x := by
  cases hc : p.c0 with
  | none => exact .inl ⟨_, fetchCalled_invalid hc⟩
  | some e =>
    cases hd : e.desc with
    | jump g => exact .inl ⟨g, fetchCalled_jump hc hd⟩
    | span l g m u b => exact .inr (.inr ⟨.span, standsAt_span hc hd⟩)
    | hold k => exact .inr (.inr ⟨.hold k, standsAt_hold hc hd⟩)
    | stop =>
      cases ha : p.detour.isActive with
      | true => exact .inr (.inl ⟨e, rfl, hd, rfl⟩)
      | false => exact .inr (.inr ⟨.stop, standsAt_stop hc hd ha⟩)

/-- A fetch is called for by an invalid C0 or by a JUMP. -/
theorem fetchCalled_some (h : fetchCalled store p = some q) :
    (p.c0 = none ∨ ∃ e g, p.c0 = some e ∧ e.desc = .jump g) ∧ ∃ g, q = p.fetch store g := by
  cases hc : p.c0 with
  | none => exact ⟨.inl rfl, _, (Option.some.inj ((fetchCalled_invalid hc).symm.trans h)).symm⟩
  | some e =>
    cases hd : e.desc with
    | jump g =>
      exact ⟨.inr ⟨e, g, rfl, hd⟩, g, (Option.some.inj ((fetchCalled_jump hc hd).symm.trans h)).symm⟩
    | span l g m u b => simp [fetchCalled, hc, hd] at h
    | hold k => simp [fetchCalled, hc, hd] at h
    | stop => simp [fetchCalled, hc, hd] at h

/-- What C0 is where a resolution ends. -/
theorem standsAt_some {x : Ending} (h : standsAt p = some x) :
    ∃ e, p.c0 = some e ∧
      ((x = .span ∧ ∃ l g m u b, e.desc = .span l g m u b) ∨ (∃ k, x = .hold k ∧ e.desc = .hold k) ∨
        (x = .stop ∧ e.desc = .stop ∧ p.detour.isActive = false)) := by
  cases hc : p.c0 with
  | none => simp [standsAt, hc] at h
  | some e =>
    refine ⟨e, rfl, ?_⟩
    cases hd : e.desc with
    | jump g => simp [standsAt, hc, hd] at h
    | span l g m u b => exact .inl ⟨Option.some.inj (h.symm.trans (standsAt_span hc hd)), l, g, m, u, b, rfl⟩
    | hold k => exact .inr (.inl ⟨k, Option.some.inj (h.symm.trans (standsAt_hold hc hd)), rfl⟩)
    | stop =>
      cases ha : p.detour.isActive with
      | true => simp [standsAt, hc, hd, ha] at h
      | false => exact .inr (.inr ⟨Option.some.inj (h.symm.trans (standsAt_stop hc hd ha)), rfl, rfl⟩)

/-! Each line as it is taken with a step count and fuel left. -/

variable (fuel steps : Nat) (returned : Bool)

/-- R103, R104: a fetch is one step, and a fifth is not made. -/
theorem resolveFrom_fetch (h : fetchCalled store p = some q) :
    resolveFrom store (fuel + 1) steps returned p =
      if 4 ≤ steps then ⟨p, returned, .loop⟩ else resolveFrom store fuel (steps + 1) returned q := by
  obtain ⟨hc | ⟨e, g, hc, hd⟩, -⟩ := fetchCalled_some h
  · obtain rfl := Option.some.inj ((fetchCalled_invalid hc).symm.trans h)
    simp only [resolveFrom, hc, Option.map_none]
  · obtain rfl := Option.some.inj ((fetchCalled_jump hc hd).symm.trans h)
    simp only [resolveFrom, hc, hd, Option.map_some]

/-- R103, R105: at the STOP of an ACTIVE detour the resolution goes on from the continuation, its step count kept. -/
theorem resolveFrom_return {e : Entry} (hc : p.c0 = some e) (hd : e.desc = .stop) (ha : p.detour.isActive = true) :
    resolveFrom store (fuel + 1) steps returned p = resolveFrom store fuel steps true p.restore := by
  cases hdetour : p.detour with
  | active g => simp only [resolveFrom, hc, hd, hdetour, Option.map_some]
  | none => simp [Detour.isActive, hdetour] at ha
  | pending g => simp [Detour.isActive, hdetour] at ha

/-- R103: the lines that end a resolution. -/
theorem resolveFrom_end {x : Ending} (h : standsAt p = some x) :
    resolveFrom store (fuel + 1) steps returned p = ⟨p, returned, x⟩ := by
  obtain ⟨e, hc, ⟨rfl, l, g, m, u, b, hd⟩ | ⟨k, rfl, hd⟩ | ⟨rfl, hd, ha⟩⟩ := standsAt_some h
  · simp only [resolveFrom, hc, hd, Option.map_some]
  · simp only [resolveFrom, hc, hd, Option.map_some]
  · cases hdetour : p.detour with
    | active g => simp [Detour.isActive, hdetour] at ha
    | none => simp only [resolveFrom, hc, hd, hdetour, Option.map_some]
    | pending g => simp only [resolveFrom, hc, hd, hdetour, Option.map_some]

/-- R105: a restored position has no detour. -/
@[simp] theorem RoutePos.restore_detour (p : RoutePos) : p.restore.detour = .none := by
  unfold RoutePos.restore
  split <;> rfl

@[simp] theorem RoutePos.restore_cont (p : RoutePos) : p.restore.cont = none := by
  unfold RoutePos.restore
  split
  · rfl
  · next h => exact h

/-- What holds at each end of a resolution, and is carried back over each fetch and each return, holds of the
resolution; the fuel covers four fetches and a return. -/
theorem resolveFrom_induct {motive : Bool → RoutePos → Resolved → Prop}
    (loop : ∀ b p q, fetchCalled store p = some q → motive b p ⟨p, b, .loop⟩)
    (stands : ∀ b p x, standsAt p = some x → motive b p ⟨p, b, x⟩)
    (fetch : ∀ b p g r, motive b (p.fetch store g) r → motive b p r)
    (back : ∀ b p r, p.detour.isActive = true → motive true p.restore r → motive b p r)
    (hfuel : 4 - steps + p.detour.isActive.toNat < fuel) :
    motive returned p (resolveFrom store fuel steps returned p) := by
  induction fuel generalizing steps returned p with
  | zero => omega
  | succ fuel ih =>
    rcases resolution_line store p with ⟨g, h⟩ | ⟨e, hc, hd, ha⟩ | ⟨x, h⟩
    · rw [resolveFrom_fetch fuel steps returned h]
      split
      · exact loop _ _ _ h
      · refine fetch _ _ g _ (ih _ _ ?_)
        change 4 - (steps + 1) + p.detour.isActive.toNat < fuel
        omega
    · rw [resolveFrom_return fuel steps returned hc hd ha]
      refine back _ _ _ ha (ih _ _ ?_)
      simp only [ha, Bool.toNat_true] at hfuel
      simp only [RoutePos.restore_detour, Detour.isActive, Bool.toNat_false]
      omega
    · rw [resolveFrom_end fuel steps returned h]
      exact stands _ _ _ h

theorem resolve_induct {motive : Bool → RoutePos → Resolved → Prop}
    (loop : ∀ b p q, fetchCalled store p = some q → motive b p ⟨p, b, .loop⟩)
    (stands : ∀ b p x, standsAt p = some x → motive b p ⟨p, b, x⟩)
    (fetch : ∀ b p g r, motive b (p.fetch store g) r → motive b p r)
    (back : ∀ b p r, p.detour.isActive = true → motive true p.restore r → motive b p r) (p : RoutePos) :
    motive false p (resolve store p) :=
  resolveFrom_induct 7 0 false loop stands fetch back (by cases p.detour.isActive <;> decide)

/-- R103, R104: the fetches that C0 calls for in turn are made while the step count allows. -/
theorem resolveFrom_fetches {n : Nat} (hn : steps + n ≤ 4) (h : fetchesCalled store n p = some q) :
    resolveFrom store (fuel + n) steps returned p = resolveFrom store fuel (steps + n) returned q := by
  induction n generalizing steps p with
  | zero =>
    obtain rfl := Option.some.inj h
    rfl
  | succ n ih =>
    obtain ⟨m, hm, hrest⟩ := Option.bind_eq_some_iff.1 h
    have hfew : ¬4 ≤ steps := by omega
    rw [← Nat.add_assoc, resolveFrom_fetch (fuel + n) steps returned hm, if_neg hfew, ih (steps + 1) (by omega) hrest,
      Nat.add_assoc, Nat.add_comm 1 n]

/-! ### What a resolution leaves of the position (R98, R104, R105) -/

/-- What C0 is at each end. -/
theorem resolve_ending (store : List (Nat × Group)) (p : RoutePos) :
    standsAt (resolve store p).pos = some (resolve store p).ending ∨
      (resolve store p).ending = .loop ∧ ∃ q, fetchCalled store (resolve store p).pos = some q :=
  resolve_induct (motive := fun _ _ r =>
      standsAt r.pos = some r.ending ∨ r.ending = .loop ∧ ∃ q, fetchCalled store r.pos = some q)
    (fun _ _ q h => .inr ⟨rfl, q, h⟩) (fun _ _ _ h => .inl h) (fun _ _ _ _ h => h) (fun _ _ _ _ h => h) p

/-- R103: a resolution that ends running stands on a SPAN. -/
theorem resolve_span (h : (resolve store p).ending = .span) :
    ∃ e, (resolve store p).pos.c0 = some e ∧ ∃ l g m u b, e.desc = .span l g m u b := by
  obtain ⟨e, hc, ⟨-, hd⟩ | ⟨k, hx, -⟩ | ⟨hx, -⟩⟩ :=
    standsAt_some ((resolve_ending store p).resolve_right (by simp [h]))
  · exact ⟨e, hc, hd⟩
  · exact Ending.noConfusion (h.symm.trans hx)
  · exact Ending.noConfusion (h.symm.trans hx)

/-- R106: one that ends holding stands on that HOLD. -/
theorem resolve_hold {k : HoldKind} (h : (resolve store p).ending = .hold k) :
    ∃ e, (resolve store p).pos.c0 = some e ∧ e.desc = .hold k := by
  obtain ⟨e, hc, ⟨hx, -⟩ | ⟨j, hx, hd⟩ | ⟨hx, -⟩⟩ :=
    standsAt_some ((resolve_ending store p).resolve_right (by simp [h]))
  · exact Ending.noConfusion (h.symm.trans hx)
  · exact ⟨e, hc, Ending.hold.inj (h.symm.trans hx) ▸ hd⟩
  · exact Ending.noConfusion (h.symm.trans hx)

/-- R105: one that ends the route stands on a STOP, with no detour ACTIVE. -/
theorem resolve_stop (h : (resolve store p).ending = .stop) :
    (resolve store p).pos.detour.isActive = false ∧ ∃ e, (resolve store p).pos.c0 = some e ∧ e.desc = .stop := by
  obtain ⟨e, hc, ⟨hx, -⟩ | ⟨j, hx, -⟩ | ⟨-, hd, ha⟩⟩ :=
    standsAt_some ((resolve_ending store p).resolve_right (by simp [h]))
  · exact Ending.noConfusion (h.symm.trans hx)
  · exact Ending.noConfusion (h.symm.trans hx)
  · exact ⟨ha, e, hc, hd⟩

/-- R104: one that faults is left with a C0 that calls for the fifth fetch. -/
theorem resolve_loop (h : (resolve store p).ending = .loop) {e : Entry} (he : (resolve store p).pos.c0 = some e) :
    ∃ g, e.desc = .jump g := by
  rcases resolve_ending store p with hstands | ⟨-, q, hq⟩
  · obtain ⟨-, -, ⟨hx, -⟩ | ⟨j, hx, -⟩ | ⟨hx, -⟩⟩ := standsAt_some hstands
    · exact Ending.noConfusion (h.symm.trans hx)
    · exact Ending.noConfusion (h.symm.trans hx)
    · exact Ending.noConfusion (h.symm.trans hx)
  · obtain ⟨hnone | ⟨e', g, hc, hd⟩, -⟩ := fetchCalled_some hq
    · exact absurd (he.symm.trans hnone) (by simp)
    · exact ⟨g, Option.some.inj (he.symm.trans hc) ▸ hd⟩

/-- R105: a resolution returns from an ACTIVE detour only, and clears it. -/
theorem resolve_returned (h : (resolve store p).returned = true) :
    p.detour.isActive = true ∧ (resolve store p).pos.detour = .none ∧ (resolve store p).pos.cont = none := by
  have hline := resolve_induct (store := store)
    (motive := fun b p r => (b = true → p.detour = .none ∧ p.cont = none) → r.returned = true →
      (b = true ∨ p.detour.isActive = true) ∧ r.pos.detour = .none ∧ r.pos.cont = none)
    (fun _ _ _ _ hb h => ⟨.inl h, hb h⟩) (fun _ _ _ _ hb h => ⟨.inl h, hb h⟩) (fun _ _ _ _ ih => ih)
    (fun _ p _ ha ih _ h => ⟨.inr ha, (ih (fun _ => ⟨p.restore_detour, p.restore_cont⟩) h).2⟩) p
  obtain ⟨ha, hcleared⟩ := hline (fun hb => Bool.noConfusion hb) h
  exact ⟨ha.resolve_left Bool.false_ne_true, hcleared⟩

/-- R103: with no detour ACTIVE, nothing returns. -/
theorem resolve_returned_of_inactive (h : p.detour.isActive = false) : (resolve store p).returned = false := by
  rw [← Bool.not_eq_true]
  intro hr
  rw [(resolve_returned hr).1] at h
  exact Bool.noConfusion h

/-- A resolution that does not return leaves the detour and its continuation. -/
theorem resolve_kept (h : (resolve store p).returned = false) :
    (resolve store p).pos.detour = p.detour ∧ (resolve store p).pos.cont = p.cont := by
  have hline := resolve_induct (store := store)
    (motive := fun b p r => r.returned = false → b = false ∧ r.pos.detour = p.detour ∧ r.pos.cont = p.cont)
    (fun _ _ _ _ h => ⟨h, rfl, rfl⟩) (fun _ _ _ _ h => ⟨h, rfl, rfl⟩) (fun _ _ _ _ ih => ih)
    (fun _ _ _ _ ih h => Bool.noConfusion (ih h).1) p
  exact (hline h).2

/-- R98: the saved entries of the continuation form an unbroken run. -/
def RoutePos.savedRun (p : RoutePos) : Prop :=
  ∀ k, p.cont = some k → (k.e1.isSome → k.e0.isSome) ∧ (k.e2.isSome → k.e1.isSome)

theorem RoutePos.restore_unbroken (h : p.unbroken) (hk : p.savedRun) : p.restore.unbroken := by
  unfold RoutePos.restore
  split
  · next k hcont => exact ⟨(hk k hcont).1, (hk k hcont).2, fun hnone => by simp at hnone⟩
  · exact h

theorem RoutePos.fetch_unbroken (p : RoutePos) (store : List (Nat × Group)) (g : Nat) : (p.fetch store g).unbroken :=
  ⟨fun _ => rfl, fun _ => rfl, fun _ => rfl⟩

theorem RoutePos.shift_unbroken (h : p.unbroken) : p.shift.unbroken := by
  obtain ⟨-, h2, h3⟩ := h
  exact ⟨h2, h3, fun hnone => by simp [RoutePos.shift] at hnone⟩

/-- R98: a resolution keeps the valid entries an unbroken run. -/
theorem resolve_unbroken (h : p.unbroken) (hk : p.savedRun) : (resolve store p).pos.unbroken :=
  resolve_induct (motive := fun _ p r => p.unbroken → p.savedRun → r.pos.unbroken)
    (fun _ _ _ _ h _ => h) (fun _ _ _ _ h _ => h) (fun _ p g _ ih _ hk => ih (p.fetch_unbroken store g) hk)
    (fun _ p _ _ ih h hk => ih (RoutePos.restore_unbroken h hk) fun k hc => by simp at hc) p h hk

end Resolution

end Sys2Proof.Machine

namespace Sys2Proof.Proofs.RouteProfiles
open Sys2Proof Sys2Proof.Machine

/-- Settles O44: the fetches and the return line by line, in the fuel that a resolution is given; then what its end
leaves, by induction over its lines (`resolve_induct`). -/
theorem resolutionEndsAsItsTableSays : Obligations.ResolutionEndsAsItsTableSays := by
  intro store p
  refine ⟨fun n q hn hq => ?_, resolve_span, fun k => resolve_hold, resolve_stop, fun h e => resolve_loop h,
    fun e he => ?_, resolve_returned, resolve_kept, resolve_unbroken⟩
  · have hfirst : resolve store p = resolveFrom store (6 - n + 1) n false q := by
      rw [resolve, show 7 = 6 - n + 1 + n by omega, resolveFrom_fetches _ 0 false (by omega) hq, Nat.zero_add]
    refine ⟨fun x hx => hfirst.trans (resolveFrom_end _ _ _ hx), fun h4 hcalled => ?_,
      fun e k m q' hc hd ha hcont hm hq' => ?_⟩
    · obtain ⟨m, hm⟩ := Option.ne_none_iff_exists'.1 hcalled
      rw [hfirst, resolveFrom_fetch _ _ _ hm, if_pos h4.ge]
    · have hrestore : q.restore =
          { c0 := k.e0, c1 := k.e1, c2 := k.e2, c3 := none, next := k.next, detour := .none, cont := none } := by
        rw [RoutePos.restore, hcont]
      have hsecond : resolve store p = resolveFrom store (5 - (n + m) + 1) (n + m) true q' := by
        rw [hfirst, resolveFrom_return _ _ _ hc hd ha, hrestore, show 6 - n = 5 - (n + m) + 1 + m by omega,
          resolveFrom_fetches _ n true hm hq']
      refine ⟨fun x hx => hsecond.trans (resolveFrom_end _ _ _ hx), fun h4 hcalled => ?_⟩
      obtain ⟨j, hj⟩ := Option.ne_none_iff_exists'.1 hcalled
      rw [hsecond, resolveFrom_fetch _ _ _ hj, if_pos h4.ge]
  · exact ⟨fun l g m u b hd => resolveFrom_end 6 0 false (standsAt_span he hd),
      fun k hd => resolveFrom_end 6 0 false (standsAt_hold he hd),
      fun hd ha => resolveFrom_end 6 0 false (standsAt_stop he hd ha)⟩

end Sys2Proof.Proofs.RouteProfiles

namespace Sys2Proof.Machine
open Sys2Proof

/-! ### What the sequencer's operations do to the route, the notices and the events handed (R102 to R107, R112) -/

/-- The route replaced, with the notices and with events handed on. -/
def State.moveRoute (s : State) (r : Rs) (n : NoticeSet) (is : List Instr) : State :=
  { s with rs := r, sl := { s.sl with notices := n }, handed := s.handed ++ is }

/-- R103 to R106: the route record after the resolution `r` of the real route. -/
def Resolved.route (r : Resolved) (x : Rs) : Rs :=
  match r.ending with
  | .span => { x with pos := r.pos, state := .running, index := 0 }
  | .hold _ => { x with pos := r.pos, state := .holding, index := 0 }
  | .stop => { x with pos := r.pos, state := .ended }
  | .loop =>
    { x with pos := { r.pos with detour := .none, cont := none }, state := .faulted, fault := some .jumpLoop }

/-- R104 to R106: the notices that a resolution raises. -/
def Resolved.notices (r : Resolved) (n : NoticeSet) : NoticeSet :=
  let m := if r.returned then n.raise .detourDone else n
  match r.ending with
  | .hold _ => m.raise .holdReached
  | .stop => m.raise .routeEnded
  | .span | .loop => m

/-- R106: the hold-reached events for the HOLD that a resolution ends on. -/
def Ending.holdReached : Ending → List Instr
  | .hold k => [.holdReachedAtPm k, .holdReachedAtDg k]
  | .span | .stop | .loop => []

/-- R104 to R107: the events that a resolution hands on. -/
def Resolved.events (r : Resolved) : List Instr :=
  (if r.returned then [.routeEditEvent] else []) ++ r.ending.holdReached
    ++ if r.ending = .loop then [.truckConditionBegins ⟨.pr, some .jumpLoop⟩] else []

/-- R102: the notices and the events of a detour taken at a rollover. -/
def RoutePos.rolloverNotices (p : RoutePos) (n : NoticeSet) : NoticeSet :=
  if p.takesDetour then n.raise .detourTaken else n

def RoutePos.rolloverEvents (p : RoutePos) : List Instr := if p.takesDetour then [.routeEditEvent] else []

/-- R112, R113: the route fault ends event of a route that was FAULTED. -/
def faultEnded (r : Rs) : List Instr := if r.state = .faulted then [.truckConditionEnds .pr] else []

section Moves
variable (s : State)

theorem Resolved.route_pos (r : Resolved) (x : Rs) (p : RoutePos) : r.route { x with pos := p } = r.route x := by
  unfold Resolved.route
  cases r.ending <;> rfl

theorem State.moveRoute_self : s.moveRoute s.rs s.sl.notices [] = s := by
  simp [State.moveRoute]

theorem State.moveRoute_moveRoute (x y : Rs) (n m : NoticeSet) (is js : List Instr) :
    (s.moveRoute x n is).moveRoute y m js = s.moveRoute y m (is ++ js) := by
  simp [State.moveRoute]

theorem State.withRs_eq (x : Rs) : s.withRs x = s.moveRoute x s.sl.notices [] := by
  simp [State.moveRoute, State.withRs]

theorem State.hand_eq (i : Instr) : s.hand i = s.moveRoute s.rs s.sl.notices [i] := rfl

theorem State.notify_eq (k : Notice) : s.notify k = s.moveRoute s.rs (s.sl.notices.raise k) [] := by
  simp [State.moveRoute, State.notify, State.withSl]

@[simp] theorem State.moveRoute_rs (x : Rs) (n : NoticeSet) (is : List Instr) : (s.moveRoute x n is).rs = x := rfl
@[simp] theorem State.moveRoute_notices (x : Rs) (n : NoticeSet) (is : List Instr) :
    (s.moveRoute x n is).sl.notices = n := rfl
@[simp] theorem State.moveRoute_handed (x : Rs) (n : NoticeSet) (is : List Instr) :
    (s.moveRoute x n is).handed = s.handed ++ is := rfl

/-- R106: the hold-left events of a route leaving its HOLD. -/
theorem State.leaveHold_eq (cause : HoldCause) :
    s.leaveHold cause = s.moveRoute s.rs s.sl.notices (holdLeft s.rs cause) := by
  unfold State.leaveHold holdLeft RoutePos.holdKind
  cases s.rs.state with
  | holding =>
    cases s.rs.pos.c0 with
    | none => exact s.moveRoute_self.symm
    | some e =>
      cases hd : e.desc with
      | hold k => simp [hd, State.hand_eq, State.moveRoute_moveRoute]
      | span l g m u b => simp [hd, State.moveRoute_self]
      | jump g => simp [hd, State.moveRoute_self]
      | stop => simp [hd, State.moveRoute_self]
  | idle => exact s.moveRoute_self.symm
  | running => exact s.moveRoute_self.symm
  | ended => exact s.moveRoute_self.symm
  | faulted => exact s.moveRoute_self.symm

theorem State.endRouteFault_eq : s.endRouteFault = s.moveRoute s.rs s.sl.notices (faultEnded s.rs) := by
  unfold State.endRouteFault faultEnded
  split
  · rfl
  · exact s.moveRoute_self.symm

/-- R104: entering FAULTED. -/
theorem State.routeFault_eq (cause : RouteFault) :
    s.routeFault cause = s.moveRoute
      { s.rs with state := .faulted, fault := some cause, pos := { s.rs.pos with detour := .none, cont := none } }
      s.sl.notices [.truckConditionBegins ⟨.pr, some cause⟩] := rfl

/-- R103 to R107: a resolution of the real route, whole. -/
theorem State.resolveRoute_eq :
    s.resolveRoute =
      let r := resolve s.rs.store s.rs.pos
      s.moveRoute (r.route s.rs) (r.notices s.sl.notices) r.events := by
  unfold State.resolveRoute
  dsimp only
  generalize resolve s.rs.store s.rs.pos = r
  obtain ⟨pos, returned, ending⟩ := r
  have hreturn : (if returned = true then
      ((s.withRs { s.rs with pos := pos }).notify .detourDone).hand .routeEditEvent
      else s.withRs { s.rs with pos := pos }) =
      s.moveRoute { s.rs with pos := pos } (if returned then s.sl.notices.raise .detourDone else s.sl.notices)
        (if returned then [.routeEditEvent] else []) := by
    cases returned with
    | true => rfl
    | false => exact s.withRs_eq _
  rw [hreturn]
  cases ending <;>
    simp [Resolved.route, Resolved.notices, Resolved.events, Ending.holdReached, State.withRs_eq, State.notify_eq,
      State.hand_eq, State.routeFault_eq, State.moveRoute_moveRoute]

/-- R102: a rollover with the resolution that follows it, whole. -/
theorem State.rollover_eq :
    s.rollover =
      let r := resolve s.rs.store (s.rs.pos.rollover s.rs.store)
      s.moveRoute (r.route s.rs) (r.notices (s.rs.pos.rolloverNotices s.sl.notices))
        (s.rs.pos.rolloverEvents ++ r.events) := by
  have htaken : (if s.rs.pos.takesDetour then
      ((s.withRs { s.rs with pos := s.rs.pos.rollover s.rs.store }).notify .detourTaken).hand .routeEditEvent
      else s.withRs { s.rs with pos := s.rs.pos.rollover s.rs.store }) =
      s.moveRoute { s.rs with pos := s.rs.pos.rollover s.rs.store } (s.rs.pos.rolloverNotices s.sl.notices)
        s.rs.pos.rolloverEvents := by
    unfold RoutePos.rolloverNotices RoutePos.rolloverEvents
    split
    · rfl
    · exact s.withRs_eq _
  refine (congrArg State.resolveRoute htaken).trans ?_
  simp only [State.resolveRoute_eq, State.moveRoute_moveRoute, State.moveRoute_rs, State.moveRoute_notices,
    Resolved.route_pos]

/-- R112: the start, whole. -/
theorem State.startRoute_eq (g first offset : Nat) :
    s.startRoute g first offset =
      let r := resolve s.rs.store (startPos s.rs.store g first)
      s.moveRoute
        { r.route { s.rs with debt := 0, advance := 0, fault := none, startGroup := g, startFirst := first } with
          index := offset }
        (r.notices s.sl.notices)
        (holdLeft s.rs .routeStart ++ faultEnded s.rs ++ r.events ++ [.routeEditEvent]) := by
  unfold State.startRoute
  simp only [State.leaveHold_eq, State.endRouteFault_eq, State.withRs_eq, State.resolveRoute_eq, State.hand_eq,
    State.moveRoute_moveRoute, State.moveRoute_rs, State.moveRoute_notices, List.append_nil, List.append_assoc]
  exact congrArg (fun x : Rs => s.moveRoute { x with index := offset } _ _) (Resolved.route_pos _
    { s.rs with debt := 0, advance := 0, fault := none, startGroup := g, startFirst := first } _)

/-- R113: the stop, whole. -/
theorem State.stopRoute_eq :
    s.stopRoute = s.moveRoute
      { s.rs with
        state := .idle, fault := none, debt := 0, index := 0
        pos :=
          { c0 := none, c1 := none, c2 := none, c3 := none, next := s.rs.pos.next, detour := .none, cont := none } }
      s.sl.notices (holdLeft s.rs .routeStop ++ faultEnded s.rs ++ [.routeEditEvent]) := by
  unfold State.stopRoute
  simp only [State.leaveHold_eq, State.endRouteFault_eq, State.withRs_eq, State.hand_eq, State.moveRoute_moveRoute,
    State.moveRoute_rs, State.moveRoute_notices, List.append_nil]

/-- R111: the return from an ACTIVE detour, whole. -/
theorem State.abortDetour_active {g : Nat} (h : s.rs.pos.detour = .active g) :
    s.abortDetour =
      let r := resolve s.rs.store s.rs.pos.restore
      s.moveRoute { r.route s.rs with index := 0 } (r.notices s.sl.notices) (holdLeft s.rs .abort ++ r.events) := by
  unfold State.abortDetour
  simp only [h, State.leaveHold_eq, State.withRs_eq, State.resolveRoute_eq, State.moveRoute_moveRoute,
    State.moveRoute_rs, State.moveRoute_notices, List.append_nil, Resolved.route_pos]

/-- R111: a PENDING detour dropped. -/
theorem State.abortDetour_pending {g : Nat} (h : s.rs.pos.detour = .pending g) :
    s.abortDetour = s.moveRoute { s.rs with pos := { s.rs.pos with detour := .none } } s.sl.notices [] := by
  unfold State.abortDetour
  simp only [h, State.withRs_eq]

/-- R114: a HOLD left by RESUME, whole. -/
theorem State.resume_eq :
    (s.leaveHold .resume).rollover =
      let r := resolve s.rs.store (s.rs.pos.rollover s.rs.store)
      s.moveRoute (r.route s.rs) (r.notices (s.rs.pos.rolloverNotices s.sl.notices))
        (holdLeft s.rs .resume ++ s.rs.pos.rolloverEvents ++ r.events) := by
  simp only [State.leaveHold_eq, State.rollover_eq, State.moveRoute_moveRoute, State.moveRoute_rs,
    State.moveRoute_notices, List.append_assoc]

end Moves

end Sys2Proof.Machine

namespace Sys2Proof.Machine
open Sys2Proof

variable {s t : State}

/-! ### The real route after a resolution (R102 to R107) -/

section Route
variable (x : Rs)

theorem Resolved.route_store (r : Resolved) : (r.route x).store = x.store := by
  unfold Resolved.route
  cases r.ending <;> rfl

theorem Resolved.route_span {r : Resolved} (h : r.ending = .span) :
    r.route x = { x with pos := r.pos, state := .running, index := 0 } := by
  rw [Resolved.route, h]

theorem Resolved.route_hold {r : Resolved} {k : HoldKind} (h : r.ending = .hold k) :
    r.route x = { x with pos := r.pos, state := .holding, index := 0 } := by
  rw [Resolved.route, h]

theorem Resolved.route_stop {r : Resolved} (h : r.ending = .stop) :
    r.route x = { x with pos := r.pos, state := .ended } := by
  rw [Resolved.route, h]

theorem Resolved.route_loop {r : Resolved} (h : r.ending = .loop) :
    r.route x = { x with
      pos := { r.pos with detour := .none, cont := none }, state := .faulted, fault := some .jumpLoop } := by
  rw [Resolved.route, h]

/-- R103: the index is 0 where a route runs or holds after a resolution. -/
theorem Resolved.route_index {r : Resolved} (h : r.ending = .span ∨ ∃ k, r.ending = .hold k) :
    (r.route x).index = 0 := by
  rcases h with h | ⟨k, h⟩
  · rw [Resolved.route_span x h]
  · rw [Resolved.route_hold x h]

end Route

section Outcome
variable {r : Resolved} {x : Rs} {n : NoticeSet}

/-- A resolution changes the route's state, fault cause, position and index only. -/
theorem Resolved.route_frame (r : Resolved) (x : Rs) :
    r.route x = { x with
      state := (r.route x).state, fault := (r.route x).fault, pos := (r.route x).pos, index := (r.route x).index } := by
  unfold Resolved.route
  cases r.ending <;> rfl

/-- R103: where the route runs or holds, the fault cause stands. -/
theorem Resolved.route_of_stands (h : r.ending = .span ∨ ∃ k, r.ending = .hold k) :
    r.route x = { x with pos := r.pos, state := (r.route x).state, index := 0 } := by
  rcases h with h | ⟨k, h⟩
  · rw [Resolved.route_span x h]
  · rw [Resolved.route_hold x h]

/-- R105: DETOUR_DONE is raised at a return only. -/
theorem Resolved.notices_detourDone (r : Resolved) (n : NoticeSet) :
    (r.notices n).detourDone = (n.detourDone || r.returned) := by
  unfold Resolved.notices
  cases r.returned <;> cases r.ending <;> simp [NoticeSet.raise]

/-- A resolution raises neither SEGMENT_MARK nor DETOUR_TAKEN. -/
theorem Resolved.notices_segmentMark (r : Resolved) (n : NoticeSet) : (r.notices n).segmentMark = n.segmentMark := by
  unfold Resolved.notices
  cases r.returned <;> cases r.ending <;> rfl

theorem Resolved.notices_detourTaken (r : Resolved) (n : NoticeSet) : (r.notices n).detourTaken = n.detourTaken := by
  unfold Resolved.notices
  cases r.returned <;> cases r.ending <;> rfl

theorem RoutePos.rolloverNotices_segmentMark (p : RoutePos) (n : NoticeSet) :
    (p.rolloverNotices n).segmentMark = n.segmentMark := by
  unfold RoutePos.rolloverNotices
  split <;> rfl

theorem RoutePos.rolloverNotices_detourTaken {p : RoutePos} (h : p.takesDetour = true) (n : NoticeSet) :
    (p.rolloverNotices n).detourTaken = true := by
  rw [RoutePos.rolloverNotices, if_pos h]
  rfl

/-- A state whose route, notices and events are a resolution's, at whatever index. -/
theorem resolvedTo_of (i : Nat) (hrs : t.rs = { r.route x with index := i }) (hn : t.sl.notices = r.notices n)
    (he : ∀ e ∈ r.events, e ∈ t.handed) : resolvedTo r t := by
  refine ⟨fun hr => ⟨?_, he _ (by simp [Resolved.events, hr])⟩, ?_⟩
  · rw [hn, Resolved.notices_detourDone, hr, Bool.or_true]
  · unfold Resolved.route at hrs
    unfold Resolved.notices at hn
    unfold Resolved.events at he
    cases hend : r.ending with
    | span =>
      rw [hend] at hrs
      exact ⟨by rw [hrs], by rw [hrs]⟩
    | hold k =>
      rw [hend] at hrs hn he
      exact ⟨by rw [hrs], by rw [hrs], by rw [hn]; rfl, he _ (by simp [Ending.holdReached]),
        he _ (by simp [Ending.holdReached])⟩
    | stop =>
      rw [hend] at hrs hn
      exact ⟨by rw [hrs], by rw [hrs], by rw [hn]; rfl⟩
    | loop =>
      rw [hend] at hrs he
      exact ⟨by rw [hrs], by rw [hrs], by rw [hrs], he _ (by simp)⟩

end Outcome

/-- The events of a resolution that neither returns nor faults: those of the HOLD it reaches. -/
theorem Resolved.events_of_stands {r : Resolved} (hr : r.returned = false) (h : r.ending ≠ .loop) :
    r.events = r.ending.holdReached := by
  simp [Resolved.events, hr, h]

/-! ### Metre events (R100, R101) -/

/-- R99: a route that neither runs nor holds disregards metre events. -/
theorem exec_metre_disregarded (hc : s.rs.state.counts = false) :
    exec .forwardMetreEvent s = .next s ∧ exec .reverseMetreEvent s = .next s := by
  simp [exec, execForwardMetreEvent, execReverseMetreEvent, hc]

theorem RouteState.counts_iff {st : RouteState} : st.counts = true ↔ st = .running ∨ st = .holding := by
  cases st <;> simp [RouteState.counts]

theorem exec_forwardMetre_paysDebt (hc : s.rs.state.counts = true) (hd : 0 < s.rs.debt) :
    exec .forwardMetreEvent s = .next { s with rs := { s.rs with debt := s.rs.debt - 1 } } := by
  simp only [exec, execForwardMetreEvent, hc, hd, if_true]
  rfl

theorem exec_forwardMetre_holding (hst : s.rs.state = .holding) (hd : s.rs.debt = 0) :
    exec .forwardMetreEvent s = .next s := by
  simp [exec, execForwardMetreEvent, hst, hd, RouteState.counts]

theorem exec_forwardMetre_advances (hst : s.rs.state = .running) (hd : s.rs.debt = 0)
    (hlength : s.rs.index + 1 ≠ s.rs.pos.length) :
    exec .forwardMetreEvent s = .next { s with rs := s.rs.advanced } := by
  simp only [exec, execForwardMetreEvent, hst, hd, RouteState.counts, hlength, if_true, if_false,
    lt_irrefl, reduceCtorEq]
  rfl

/-- R102: the mark of a span's end. -/
def RoutePos.endNotices (p : RoutePos) (n : NoticeSet) : NoticeSet := if p.marks then n.raise .segmentMark else n

/-- R100, R102: the metre that ends a segment, whole. -/
theorem exec_forwardMetre_rollsOver (hst : s.rs.state = .running) (hd : s.rs.debt = 0)
    (hlength : s.rs.index + 1 = s.rs.pos.length) :
    exec .forwardMetreEvent s = .next
      (let x := resolve s.rs.store (s.rs.pos.rollover s.rs.store)
      s.moveRoute (x.route s.rs.advanced) (x.notices (s.rs.pos.rolloverNotices (s.rs.pos.endNotices s.sl.notices)))
        (s.rs.pos.rolloverEvents ++ x.events)) := by
  have hmarked : (if s.rs.pos.marks then (s.withRs s.rs.advanced).notify .segmentMark else s.withRs s.rs.advanced) =
      s.moveRoute s.rs.advanced (s.rs.pos.endNotices s.sl.notices) [] := by
    unfold RoutePos.endNotices
    split
    · simp only [State.withRs_eq, State.notify_eq, State.moveRoute_moveRoute]
      rfl
    · exact s.withRs_eq _
  simp only [exec, execForwardMetreEvent, hst, hd, RouteState.counts, hlength, if_true, if_false,
    lt_irrefl, reduceCtorEq, hmarked, State.rollover_eq, State.moveRoute_moveRoute,
    State.moveRoute_rs, State.moveRoute_notices, List.nil_append]
  rfl

theorem exec_reverseMetre_owes (hc : s.rs.state.counts = true) (hd : s.rs.debt < 254) :
    exec .reverseMetreEvent s = .next { s with rs := { s.rs with debt := s.rs.debt + 1 } } := by
  have hdebt : min 255 (s.rs.debt + 1) = s.rs.debt + 1 := by omega
  have hfew : s.rs.debt + 1 ≠ 255 := by omega
  simp only [exec, execReverseMetreEvent, hc, hdebt, hfew, if_true, if_false]
  rfl

/-- R101, R104: the metre at which the position is lost. -/
theorem exec_reverseMetre_loses (hc : s.rs.state.counts = true) (hd : 254 ≤ s.rs.debt) :
    exec .reverseMetreEvent s = .next
      (s.moveRoute
        { s.rs with
          debt := 255, state := .faulted, fault := some .lostPosition
          pos := { s.rs.pos with detour := .none, cont := none } }
        s.sl.notices (holdLeft s.rs .fault ++ [.truckConditionBegins ⟨.pr, some .lostPosition⟩])) := by
  have hdebt : min 255 (s.rs.debt + 1) = 255 := by omega
  simp only [exec, execReverseMetreEvent, hc, hdebt, if_true, State.withRs_eq, State.leaveHold_eq, State.routeFault_eq,
    State.moveRoute_moveRoute, State.moveRoute_rs, State.moveRoute_notices, List.nil_append]
  rfl

end Sys2Proof.Machine

namespace Sys2Proof.Proofs.RouteProfiles
open Sys2Proof Sys2Proof.Machine

/-- Settles O43: each metre event whole, and the resolution at a segment's end as its parts say. -/
theorem metreEventsMoveTheRoute : Obligations.MetreEventsMoveTheRoute := by
  intro s
  refine ⟨exec_metre_disregarded, fun hc => ⟨exec_forwardMetre_paysDebt hc,
    fun hd hst => exec_forwardMetre_holding hst hd, exec_reverseMetre_owes hc, fun hd => ?_⟩,
    fun hst hd => ⟨exec_forwardMetre_advances hst hd, fun hlength => ?_⟩⟩
  · rw [exec_reverseMetre_loses hc hd, State.moveRoute, List.append_assoc]
  · refine ⟨_, exec_forwardMetre_rollsOver hst hd hlength, rfl, Resolved.route_frame _ s.rs.advanced,
      resolvedTo_of _ rfl rfl fun e he => ?_, Resolved.route_index _, fun hmarks => ?_, fun htakes => ⟨?_, ?_⟩⟩
    · exact List.mem_append_right _ (List.mem_append_right _ he)
    · rw [State.moveRoute_notices, Resolved.notices_segmentMark, RoutePos.rolloverNotices_segmentMark,
        RoutePos.endNotices, if_pos hmarks]
      rfl
    · rw [State.moveRoute_notices, Resolved.notices_detourTaken, RoutePos.rolloverNotices_detourTaken htakes]
    · simp [RoutePos.rolloverEvents, htakes]

end Sys2Proof.Proofs.RouteProfiles

namespace Sys2Proof.Machine
open Sys2Proof

variable {s t : State}

/-! ### The form of the route record (R98, R99, R108) -/

/-- R98, R108: the valid entries and the saved ones form unbroken runs, and the continuation is present exactly while a
detour is ACTIVE. -/
structure RoutePos.Sound (p : RoutePos) : Prop where
  unbroken : p.unbroken
  cont : p.cont.isSome ↔ p.detour.isActive = true
  saved : p.savedRun

/-- `routeLegal` by its parts. -/
structure Rs.Legal (r : Rs) : Prop where
  stands : routeStands r
  pos : r.pos.Sound
  fault : r.fault.isSome ↔ r.state = .faulted
  detour : r.pos.detour ≠ .none → r.state.counts = true

theorem routeLegal_iff (r : Rs) : routeLegal r ↔ r.Legal := by
  constructor
  · rintro ⟨hstands, hunbroken, hcont, hfault, hdetour, hsaved⟩
    exact ⟨hstands, ⟨hunbroken, hcont, hsaved⟩, hfault, hdetour⟩
  · intro h
    exact ⟨h.stands, h.pos.unbroken, h.pos.cont, h.fault, h.detour, h.pos.saved⟩

/-- The route record and the profile store are legal. -/
structure Rs.Sound (r : Rs) : Prop where
  legal : r.Legal
  store : storeLegal r.store

section Pos
variable {p : RoutePos} {store : List (Nat × Group)}

/-- A position with no detour and no continuation. -/
theorem RoutePos.Sound.idle (h : p.unbroken) (hd : p.detour = .none) (hc : p.cont = none) : p.Sound :=
  ⟨h, by simp [hd, hc, Detour.isActive], fun k hk => absurd (hc.symm.trans hk) (by simp)⟩

/-- R98: cutting the detour off leaves the entries. -/
theorem RoutePos.Sound.noDetour (h : p.Sound) : RoutePos.Sound { p with detour := .none, cont := none } :=
  .idle h.unbroken rfl rfl

theorem RoutePos.Sound.cont_none (h : p.Sound) (ha : p.detour.isActive = false) : p.cont = none := by
  rw [← Option.not_isSome_iff_eq_none, h.cont, ha]
  simp

theorem RoutePos.Sound.restore (h : p.Sound) : p.restore.Sound :=
  .idle (RoutePos.restore_unbroken h.unbroken h.saved) p.restore_detour p.restore_cont

/-- R102: a rollover keeps the form, and leaves no detour PENDING. -/
theorem RoutePos.Sound.rollover (h : p.Sound) :
    (p.rollover store).Sound ∧ (p.rollover store).takesDetour = false := by
  unfold RoutePos.rollover RoutePos.takesDetour
  split
  · next g _ =>
    refine ⟨⟨p.fetch_unbroken store g, by simp [Detour.isActive], fun k hk => ?_⟩, rfl⟩
    obtain rfl := Option.some.inj hk
    exact h.unbroken.2
  · next hnot =>
    refine ⟨⟨RoutePos.shift_unbroken h.unbroken, h.cont, h.saved⟩, ?_⟩
    split
    · next g hg => exact absurd hg (hnot g)
    · rfl

/-- R112: the copy that ROUTE_START resolves. -/
theorem startPos_sound (g first : Nat) :
    (startPos store g first).Sound ∧ (startPos store g first).detour = .none := by
  have h0 := RoutePos.reset.fetch_unbroken store g
  have h1 := RoutePos.shift_unbroken h0
  have h2 := RoutePos.shift_unbroken h1
  unfold startPos
  dsimp only
  split
  · exact ⟨.idle h0 rfl rfl, rfl⟩
  · exact ⟨.idle h1 rfl rfl, rfl⟩
  · exact ⟨.idle h2 rfl rfl, rfl⟩
  · exact ⟨.idle (RoutePos.shift_unbroken h2) rfl rfl, rfl⟩

/-- R103 to R105: a resolution keeps the form, and leaves no detour PENDING that was not. -/
theorem RoutePos.Sound.resolve (h : p.Sound) (hp : p.takesDetour = false) :
    (resolve store p).pos.Sound ∧ (resolve store p).pos.takesDetour = false := by
  have hunbroken := resolve_unbroken (store := store) h.unbroken h.saved
  cases hr : (Machine.resolve store p).returned with
  | true =>
    obtain ⟨-, hd, hc⟩ := resolve_returned hr
    exact ⟨.idle hunbroken hd hc, by rw [RoutePos.takesDetour, hd]⟩
  | false =>
    obtain ⟨hd, hc⟩ := resolve_kept hr
    refine ⟨⟨hunbroken, ?_, ?_⟩, ?_⟩
    · rw [hd, hc]
      exact h.cont
    · rw [RoutePos.savedRun, hc]
      exact h.saved
    · rwa [RoutePos.takesDetour, hd]

theorem Desc.length_span_pos (len : Nat) (grade : Int) (limit : Nat) (surface : Surface) (notify : Bool) :
    0 < (Desc.span len grade limit surface notify).length := by
  unfold Desc.length
  dsimp only
  split <;> omega

theorem RoutePos.length_eq {e : Entry} (h : p.c0 = some e) : p.length = e.desc.length := by
  rw [RoutePos.length, h]

end Pos

/-! #### What a resolution leaves of the route record (R99, R103 to R106) -/

section AfterResolution
variable {store : List (Nat × Group)} {p : RoutePos} (x : Rs)

theorem resolve_length_pos (h : (resolve store p).ending = .span) : 0 < (resolve store p).pos.length := by
  obtain ⟨e, hc, l, g, m, u, b, hd⟩ := resolve_span h
  rw [RoutePos.length_eq hc, hd]
  exact Desc.length_span_pos ..

/-- R99: the route record after a resolution, at an index that fits its C0. -/
theorem resolve_index_legal (hp : p.Sound) (hpending : p.takesDetour = false) (hfault : x.fault = none) (i : Nat)
    (hspan : (resolve store p).ending = .span → i < (resolve store p).pos.length)
    (hhold : ∀ k, (resolve store p).ending = .hold k → i = 0) :
    Rs.Legal { (resolve store p).route x with index := i } := by
  obtain ⟨hsound, hleft⟩ := hp.resolve (store := store) hpending
  cases hend : (resolve store p).ending with
  | span =>
    rw [Resolved.route_span x hend]
    obtain ⟨e, hc, hd⟩ := resolve_span hend
    exact ⟨⟨e, hc, RoutePos.length_eq hc ▸ hspan hend, hd⟩, hsound, by simp [hfault], fun _ => rfl⟩
  | hold k =>
    rw [Resolved.route_hold x hend]
    obtain ⟨e, hc, hd⟩ := resolve_hold hend
    exact ⟨⟨e, hc, hhold k hend, k, hd⟩, hsound, by simp [hfault], fun _ => rfl⟩
  | stop =>
    rw [Resolved.route_stop x hend]
    obtain ⟨ha, hstop⟩ := resolve_stop hend
    refine ⟨hstop, hsound, by simp [hfault], fun hne => ?_⟩
    cases hdetour : (resolve store p).pos.detour with
    | none => exact absurd hdetour hne
    | pending g => simp [RoutePos.takesDetour, hdetour] at hleft
    | active g => simp [Detour.isActive, hdetour] at ha
  | loop =>
    rw [Resolved.route_loop x hend]
    exact ⟨trivial, hsound.noDetour, by simp, fun hne => absurd rfl hne⟩

/-- R103 to R106: the index that a resolution itself leaves fits. -/
theorem resolve_route_legal (hp : p.Sound) (hpending : p.takesDetour = false) (hfault : x.fault = none) :
    ((resolve store p).route x).Legal :=
  resolve_index_legal x hp hpending hfault ((resolve store p).route x).index
    (fun h => (Resolved.route_index x (.inl h)).trans_lt (resolve_length_pos h))
    fun k h => Resolved.route_index x (.inr ⟨k, h⟩)

end AfterResolution

/-! #### Commands on the route (R100, R101, R109 to R114) -/

theorem Rs.Legal.noFault {r : Rs} (h : r.Legal) (hc : r.state.counts = true) : r.fault = none := by
  rw [← Option.not_isSome_iff_eq_none, h.fault]
  intro hf
  rw [hf] at hc
  exact absurd hc (by decide)

/-- R104: entering FAULTED. -/
theorem Rs.Legal.faulted {r : Rs} (h : r.Legal) (cause : RouteFault) :
    Rs.Legal { r with state := .faulted, fault := some cause, pos := { r.pos with detour := .none, cont := none } } :=
  ⟨trivial, h.pos.noDetour, by simp, fun hne => absurd rfl hne⟩

/-- The debt and the advance count are no part of the record's form. -/
theorem Rs.Legal.withCounts {r : Rs} (h : r.Legal) (debt advance : Nat) :
    Rs.Legal { r with debt := debt, advance := advance } :=
  ⟨h.stands, h.pos, h.fault, h.detour⟩

/-- The store is no part of the record's form. -/
theorem Rs.Legal.withStore {r : Rs} (h : r.Legal) (store : List (Nat × Group)) : Rs.Legal { r with store := store } :=
  ⟨h.stands, h.pos, h.fault, h.detour⟩

/-- R109: a detour marked on a route that has none. -/
theorem Rs.Legal.insertDetour {r : Rs} (h : r.Legal) (hc : r.state.counts = true) (hd : r.pos.detour = .none)
    (g : Nat) : Rs.Legal { r with pos := { r.pos with detour := .pending g } } := by
  have hcont := h.pos.cont_none (by rw [hd]; rfl)
  refine ⟨h.stands, ⟨h.pos.unbroken, ?_, h.pos.saved⟩, h.fault, fun _ => hc⟩
  simp [hcont, Detour.isActive]

/-- R111: a PENDING detour dropped. -/
theorem Rs.Legal.dropDetour {r : Rs} (h : r.Legal) (ha : r.pos.detour.isActive = false) :
    Rs.Legal { r with pos := { r.pos with detour := .none } } :=
  ⟨h.stands, .idle h.pos.unbroken rfl (h.pos.cont_none ha), h.fault, fun hne => absurd rfl hne⟩

/-- An operation that keeps the store and leaves the record legal. -/
theorem Rs.Sound.of_store {r x : Rs} (h : r.Sound) (hx : x.Legal) (hstore : x.store = r.store) : x.Sound :=
  ⟨hx, hstore ▸ h.store⟩

/-- R114: a HOLD left by RESUME. -/
theorem State.resume_sound (h : s.rs.Sound) (hc : s.rs.state.counts = true) :
    (s.leaveHold .resume).rollover.rs.Sound := by
  rw [State.resume_eq]
  obtain ⟨hsound, hleft⟩ := h.legal.pos.rollover (store := s.rs.store)
  exact h.of_store (resolve_route_legal s.rs hsound hleft (h.legal.noFault hc)) (Resolved.route_store ..)

/-- R112: the start of a route that no row of its table refuses. -/
theorem State.startRoute_sound {g first offset : Nat} (h : s.rs.Sound)
    (hpass : ∀ x ∈ routeStartChecks g first offset s, x.1 = false) :
    (s.startRoute (startPoint g first s).1 (startPoint g first s).2 offset).rs.Sound := by
  simp only [routeStartChecks, List.forall_mem_cons, Bool.not_eq_false'] at hpass
  obtain ⟨-, -, -, -, -, hfits, -⟩ := hpass
  rw [State.startRoute_eq]
  obtain ⟨hsound, hnone⟩ := startPos_sound (store := s.rs.store) (startPoint g first s).1 (startPoint g first s).2
  refine h.of_store (resolve_index_legal _ hsound (by rw [RoutePos.takesDetour, hnone]) rfl offset (fun hend => ?_)
    fun k hend => ?_) (Resolved.route_store ..)
  · simpa [Resolved.fits, hend] using hfits
  · simpa [Resolved.fits, hend] using hfits

/-- R113: the route made IDLE. -/
theorem State.stopRoute_sound (h : s.rs.Sound) : s.stopRoute.rs.Sound := by
  rw [State.stopRoute_eq]
  refine h.of_store ⟨⟨rfl, rfl, rfl, rfl⟩, .idle ?_ rfl rfl, ?_, fun hne => absurd rfl hne⟩ rfl
  · simp [RoutePos.unbroken]
  · simp

/-- R111: a detour cancelled or returned from. -/
theorem State.abortDetour_sound (h : s.rs.Sound) (hd : s.rs.pos.detour ≠ .none) : s.abortDetour.rs.Sound := by
  cases hdetour : s.rs.pos.detour with
  | none => exact absurd hdetour hd
  | pending g =>
    rw [State.abortDetour_pending s hdetour]
    exact h.of_store (h.legal.dropDetour (by rw [hdetour]; rfl)) rfl
  | active g =>
    rw [State.abortDetour_active s hdetour]
    have hnone : s.rs.pos.restore.takesDetour = false := by rw [RoutePos.takesDetour, RoutePos.restore_detour]
    exact h.of_store (resolve_index_legal s.rs h.legal.pos.restore hnone
      (h.legal.noFault (h.legal.detour hd)) 0 resolve_length_pos fun _ _ => rfl) (Resolved.route_store ..)

/-- R100: a metre counted short of C0's length. -/
theorem Rs.Legal.advanced {r : Rs} (h : r.Legal) (hst : r.state = .running) (hlength : r.index + 1 ≠ r.pos.length) :
    r.advanced.Legal := by
  refine ⟨?_, h.pos, h.fault, h.detour⟩
  have hstands := h.stands
  unfold routeStands at hstands ⊢
  simp only [Rs.advanced, hst] at hstands ⊢
  obtain ⟨e, hc, hi, hd⟩ := hstands
  rw [RoutePos.length_eq hc] at hlength
  exact ⟨e, hc, by omega, hd⟩

/-- R100: a metre event forward. -/
theorem forwardMetre_sound (hr : s.rs.Sound) (h : exec .forwardMetreEvent s = .next t) : t.rs.Sound := by
  cases hc : s.rs.state.counts with
  | false =>
    obtain rfl := Host.Outcome.next.inj ((exec_metre_disregarded hc).1.symm.trans h)
    exact hr
  | true =>
    rcases Nat.eq_zero_or_pos s.rs.debt with hd | hd
    · rcases RouteState.counts_iff.1 hc with hst | hst
      · by_cases hlength : s.rs.index + 1 = s.rs.pos.length
        · obtain rfl := Host.Outcome.next.inj ((exec_forwardMetre_rollsOver hst hd hlength).symm.trans h)
          obtain ⟨hsound, hleft⟩ := hr.legal.pos.rollover (store := s.rs.store)
          exact hr.of_store (resolve_route_legal s.rs.advanced hsound hleft (hr.legal.noFault hc))
            (Resolved.route_store ..)
        · obtain rfl := Host.Outcome.next.inj ((exec_forwardMetre_advances hst hd hlength).symm.trans h)
          exact hr.of_store (hr.legal.advanced hst hlength) rfl
      · obtain rfl := Host.Outcome.next.inj ((exec_forwardMetre_holding hst hd).symm.trans h)
        exact hr
    · obtain rfl := Host.Outcome.next.inj ((exec_forwardMetre_paysDebt hc hd).symm.trans h)
      exact hr.of_store (hr.legal.withCounts _ _) rfl

/-- R101: a metre event in reverse. -/
theorem reverseMetre_sound (hr : s.rs.Sound) (h : exec .reverseMetreEvent s = .next t) : t.rs.Sound := by
  cases hc : s.rs.state.counts with
  | false =>
    obtain rfl := Host.Outcome.next.inj ((exec_metre_disregarded hc).2.symm.trans h)
    exact hr
  | true =>
    rcases lt_or_ge s.rs.debt 254 with hd | hd
    · obtain rfl := Host.Outcome.next.inj ((exec_reverseMetre_owes hc hd).symm.trans h)
      exact hr.of_store (hr.legal.withCounts _ _) rfl
    · obtain rfl := Host.Outcome.next.inj ((exec_reverseMetre_loses hc hd).symm.trans h)
      exact hr.of_store ((hr.legal.withCounts 255 s.rs.advance).faulted _) rfl

/-! #### The profile store (R94, R95) -/

/-- R95: a group of the store replaced by legal descriptors. -/
theorem writeGroup_legal {store : List (Nat × Group)} (h : storeLegal store) {g : Nat} (hg : g ≤ 63) {x : Group}
    (hx : x.legal) : storeLegal (writeGroup store g x) := by
  obtain ⟨hwf, hgroups⟩ := h
  refine ⟨writeGroup_wf store g x hwf, fun p hp => ?_⟩
  unfold writeGroup at hp
  dsimp only at hp
  split at hp
  · exact hgroups p (List.mem_filter.1 hp).1
  · rcases (mem_insertGroup g x _ p).1 hp with rfl | hp
    · exact ⟨hg, hx⟩
    · exact hgroups p (List.mem_filter.1 hp).1

end Sys2Proof.Machine

namespace Sys2Proof.Machine
open Sys2Proof

/-! ### Descriptor words against R95's table -/

section Rows
variable {α β : Type}

/-- The detail of the first row that an element calls for. -/
def firstDetail (rows : List (α × (β → Bool))) (w : β) : Option α := (rows.find? fun r => r.2 w).map Prod.fst

@[simp] theorem firstDetail_nil (w : β) : firstDetail ([] : List (α × (β → Bool))) w = none := rfl

@[simp] theorem firstDetail_cons (d : α) (f : β → Bool) (rows : List (α × (β → Bool))) (w : β) :
    firstDetail ((d, f) :: rows) w = if f w then some d else firstDetail rows w := by
  unfold firstDetail
  cases hf : f w <;> simp [hf]

theorem firstDetail_eq_none {rows : List (α × (β → Bool))} {w : β} :
    firstDetail rows w = none ↔ ∀ r ∈ rows, r.2 w = false := by
  simp [firstDetail]

theorem firstDetail_mem {rows : List (α × (β → Bool))} {w : β} {d : α} (h : firstDetail rows w = some d) :
    d ∈ rows.map Prod.fst := by
  obtain ⟨r, hr, rfl⟩ := Option.map_eq_some_iff.1 h
  exact List.mem_map_of_mem (List.mem_of_find?_eq_some hr)

/-- The first detail that is some element's own is that of the first row that some element calls for. -/
theorem find?_firstDetail [DecidableEq α] {rows : List (α × (β → Bool))} (hrows : (rows.map Prod.fst).Nodup)
    {ws : List β} {f : β → Option α} (hf : ∀ w ∈ ws, f w = firstDetail rows w) :
    ((rows.map Prod.fst).find? fun d => ws.any fun w => f w == some d) =
      (rows.find? fun r => ws.any r.2).map Prod.fst := by
  induction rows with
  | nil => rfl
  | cons r rows ih =>
    obtain ⟨d, p⟩ := r
    obtain ⟨hd, hrest⟩ := List.nodup_cons.1 hrows
    have hhead : (ws.any fun w => f w == some d) = ws.any p := by
      refine Bool.eq_iff_iff.2 ?_
      simp only [List.any_eq_true, beq_iff_eq]
      refine exists_congr fun w => and_congr_right fun hw => ?_
      rw [hf w hw, firstDetail_cons]
      cases hp : p w with
      | true => simp
      | false => simpa using fun h => hd (firstDetail_mem h)
    simp only [List.map_cons, List.find?_cons, hhead]
    cases hany : ws.any p with
    | true => rfl
    | false =>
      refine ih hrest fun w hw => ?_
      rw [hf w hw, firstDetail_cons, List.any_eq_false.1 hany w hw |> eq_false_of_ne_true]
      rfl

end Rows

/-- R95's rows, each with the words that call for it. -/
def descRows : List (Detail × (BitVec 40 → Bool)) :=
  [ (.kind, fun w => decide (3 < wordKind w)),
    (.grade, fun w => wordKind w == 0 && decide (wordGrade w < -250 ∨ 250 < wordGrade w)),
    (.limit, fun w => wordKind w == 0 && decide (700 < wordLimit w)),
    (.surface, fun w => wordKind w == 0 && wordSurface w == 3),
    (.target, fun w => wordKind w == 1 && decide (63 < wordTarget w)),
    (.holdKind, fun w => wordKind w == 3 && wordHold w == 3) ]

theorem surfaceOf_isNone {n : Nat} (h : n < 4) : (surfaceOf n).isNone = (n == 3) := by
  interval_cases n <;> rfl

theorem holdKindOf_isNone {n : Nat} (h : n < 4) : (holdKindOf n).isNone = (n == 3) := by
  interval_cases n <;> rfl

theorem wordFault_span {w : BitVec 40} (h : wordKind w = 0) :
    wordFault w =
      if wordGrade w < -250 ∨ 250 < wordGrade w then some .grade
      else if 700 < wordLimit w then some .limit
      else if wordSurface w = 3 then some .surface else none := by
  have hsurface := surfaceOf_isNone (n := wordSurface w) (w.extractLsb' 4 2).isLt
  simp only [wordFault, h, hsurface, Bool.or_eq_true, decide_eq_true_eq, beq_iff_eq]

theorem wordFault_jump {w : BitVec 40} (h : wordKind w = 1) :
    wordFault w = if 63 < wordTarget w then some .target else none := by
  simp only [wordFault, h]

theorem wordFault_stop {w : BitVec 40} (h : wordKind w = 2) : wordFault w = none := by
  simp only [wordFault, h]

theorem wordFault_hold {w : BitVec 40} (h : wordKind w = 3) :
    wordFault w = if wordHold w = 3 then some .holdKind else none := by
  have hhold := holdKindOf_isNone (n := wordHold w) (w.extractLsb' 35 2).isLt
  simp only [wordFault, h, hhold, beq_iff_eq]

theorem wordFault_kind {w : BitVec 40} (h : 3 < wordKind w) : wordFault w = some .kind := by
  obtain ⟨k, hk⟩ := Nat.exists_eq_add_of_le' h
  simp only [wordFault, hk]

/-- R95: a word's fault is the first row that it calls for. -/
theorem wordFault_eq (w : BitVec 40) : wordFault w = firstDetail descRows w := by
  obtain h | h | h | h | h :
      wordKind w = 0 ∨ wordKind w = 1 ∨ wordKind w = 2 ∨ wordKind w = 3 ∨ 3 < wordKind w := by omega
  · simp [wordFault_span h, descRows, h]
  · simp [wordFault_jump h, descRows, h]
  · simp [wordFault_stop h, descRows, h]
  · simp [wordFault_hold h, descRows, h]
  · simp [wordFault_kind h, descRows, h]

theorem wordFault_eq_kind (w : BitVec 40) : wordFault w = some .kind ↔ 3 < wordKind w := by
  refine ⟨fun h => ?_, wordFault_kind⟩
  by_contra hle
  rw [wordFault_eq, descRows, firstDetail_cons, if_neg (by simpa using hle)] at h
  exact absurd (firstDetail_mem h) (by decide)

/-- R95: a group's fault is the first row that some word calls for. -/
theorem groupFault_eq (ws : List (BitVec 40)) :
    groupFault ws = (descRows.find? fun r => ws.any r.2).map Prod.fst :=
  find?_firstDetail (by decide) fun w _ => wordFault_eq w

/-- R95: a group is accepted when each of its words is. -/
theorem groupFault_eq_none (ws : List (BitVec 40)) : groupFault ws = none ↔ ∀ w ∈ ws, wordFault w = none := by
  simp only [groupFault_eq, wordFault_eq, firstDetail_eq_none, Option.map_eq_none_iff, List.find?_eq_none,
    List.any_eq_true, not_exists, not_and, Bool.not_eq_true]
  exact ⟨fun h w hw r hr => h r hr w hw, fun h r hr w hw => h w hw r hr⟩

/-- R94, R95: an accepted word spells a descriptor within its ranges. -/
theorem descOf_legal {w : BitVec 40} (h : wordFault w = none) : (descOf w).legal := by
  obtain hk | hk | hk | hk | hk :
      wordKind w = 0 ∨ wordKind w = 1 ∨ wordKind w = 2 ∨ wordKind w = 3 ∨ 3 < wordKind w := by omega
  · rw [wordFault_span hk] at h
    have hlength : wordLength w < 4096 := (w.extractLsb' 25 12).isLt
    split at h
    · cases h
    · split at h
      · cases h
      · simp only [descOf, hk, Desc.legal]
        omega
  · rw [wordFault_jump hk] at h
    split at h
    · cases h
    · simp only [descOf, hk, Desc.legal]
      omega
  · simp only [descOf, hk, Desc.legal]
  · simp only [descOf, hk, Desc.legal]
  · exact absurd ((wordFault_kind hk).symm.trans h) (by simp)

/-! ### PROFILE_WRITE (R95) -/

section Write
variable {s : State} {g : Nat} {ws : List (BitVec 40)} {x : Group}

theorem profileWriteBody_group (h : 63 < g) : profileWriteBody g ws x s = (s, refuseValue .group) := if_pos h

theorem profileWriteBody_fault (hg : g ≤ 63) {d : Detail} (h : groupFault ws = some d) :
    profileWriteBody g ws x s = (s, ⟨.refusedValue, some d, if d = .kind then u8 (faultPosition ws d) else []⟩) := by
  rw [profileWriteBody, if_neg (not_lt.2 hg), h]

theorem profileWriteBody_done (hg : g ≤ 63) (h : groupFault ws = none) :
    profileWriteBody g ws x s =
      (s.moveRoute { s.rs with store := writeGroup s.rs.store g x } s.sl.notices [.routeEditEvent], done (u8 g)) := by
  rw [profileWriteBody, if_neg (not_lt.2 hg), h]
  rfl

/-- R95: a write is refused, and leaves the store, or writes a group in range. -/
theorem profileWriteBody_cases (g : Nat) (ws : List (BitVec 40)) (x : Group) (s : State) :
    (profileWriteBody g ws x s).1 = s ∨ g ≤ 63 ∧ (∀ w ∈ ws, wordFault w = none) ∧
      (profileWriteBody g ws x s).1.rs = { s.rs with store := writeGroup s.rs.store g x } := by
  rcases lt_or_ge 63 g with hg | hg
  · exact .inl (by rw [profileWriteBody_group hg])
  · cases hf : groupFault ws with
    | some d => exact .inl (by rw [profileWriteBody_fault hg hf])
    | none => exact .inr ⟨hg, (groupFault_eq_none ws).1 hf, by rw [profileWriteBody_done hg hf]; rfl⟩

end Write

end Sys2Proof.Machine

namespace Sys2Proof.Proofs.RouteProfiles
open Sys2Proof Sys2Proof.Machine

/-- Settles O42: the table's rows are those of each word (`groupFault_eq`), and an accepted group reads back. -/
theorem profileWriteReplacesItsGroup : Obligations.ProfileWriteReplacesItsGroup := by
  refine ⟨⟨groupFault_eq, fun ws => ?_, fun w => ?_⟩, fun s g d0 d1 d2 d3 hfree =>
    ⟨fun hg => ?_, fun d hg hd => ?_, fun hg hws => ⟨?_, fun h => ?_, writeGroup_wf _ _ _⟩⟩⟩
  · refine congrArg (ws.findIdx ·) (funext fun w => Bool.eq_iff_iff.2 ?_)
    rw [beq_iff_eq, wordFault_eq_kind, decide_eq_true_iff]
    rfl
  · rw [wordFault_eq]
    exact firstDetail_eq_none
  · exact congrArg Host.Outcome.next (request_unchanged _ _ hfree (profileWriteBody_group hg))
  · exact congrArg Host.Outcome.next (request_unchanged _ _ hfree (profileWriteBody_fault hg hd))
  · exact congrArg Host.Outcome.next (request_replied _ _ s _ _ hfree
      (profileWriteBody_done hg ((groupFault_eq_none _).2 hws)) rfl)
  · exact readGroup_writeGroup ..

end Sys2Proof.Proofs.RouteProfiles

namespace Sys2Proof.Machine
open Sys2Proof

variable {s t : State}

/-! ### Every command on the route record and the store (R94, R98, R99, R108) -/

theorem Detour.isNone_eq_false {d : Detour} : d.isNone = false ↔ d ≠ .none := by
  cases d <;> simp [Detour.isNone]

theorem Rs.reset_sound {store : List (Nat × Group)} (h : storeLegal store) :
    Rs.Sound { Rs.reset with store := store } :=
  ⟨((routeLegal_iff Rs.reset).1 routeLegal_reset).withStore store, h⟩

/-- R94, R98, R99, R108: every command keeps the record and the store legal. -/
theorem exec_routeSound {c : Instr} (hr : Within Rs.Sound State.rs s) (h : exec c s = .next t) :
    Within Rs.Sound State.rs t := by
  by_cases hrs : Block.rs ∈ touched c
  · cases c with
    | softReset => exact Within.next h (hr.request fun u hu => hu.checked fun _ => Rs.reset_sound hu.store)
    | hardReset => exact Within.next h (Rs.reset_sound storeLegal_nil)
    | profileWrite g d0 d1 d2 d3 =>
      refine Within.next h (hr.request fun u hu => ?_)
      rcases profileWriteBody_cases g [d0, d1, d2, d3] ⟨descOf d0, descOf d1, descOf d2, descOf d3⟩ u with
        hsame | ⟨hg, hws, hwrite⟩
      · rw [hsame]
        exact hu
      · simp only [List.forall_mem_cons] at hws
        obtain ⟨h0, h1, h2, h3, -⟩ := hws
        rw [Within, hwrite]
        exact ⟨hu.legal.withStore _,
          writeGroup_legal hu.store hg ⟨descOf_legal h0, descOf_legal h1, descOf_legal h2, descOf_legal h3⟩⟩
    | routeStart g first offset =>
      exact Within.next h (hr.request fun u hu => hu.checked fun hpass => State.startRoute_sound hu hpass)
    | routeStop => exact Within.next h (hr.request fun u hu => hu.checked fun _ => State.stopRoute_sound hu)
    | insertDetour g =>
      refine Within.next h (hr.request fun u hu => hu.checked fun hpass => ⟨?_, hu.store⟩)
      simp only [insertDetourChecks, List.forall_mem_cons, Bool.not_eq_false'] at hpass
      obtain ⟨-, hcounts, hnone, -⟩ := hpass
      refine hu.legal.insertDetour hcounts ?_ g
      by_contra hne
      rw [Detour.isNone_eq_false.2 hne] at hnone
      exact Bool.false_ne_true hnone
    | abortDetour =>
      refine Within.next h (hr.request fun u hu => hu.checked fun hpass => ?_)
      simp only [List.forall_mem_singleton] at hpass
      exact State.abortDetour_sound hu (Detour.isNone_eq_false.1 hpass)
    | resume =>
      refine Within.next h (hr.request fun u hu => hu.checked fun hpass => State.resume_sound hu ?_)
      exact RouteState.counts_iff.2 (.inr (by simpa using hpass))
    | forwardMetreEvent => exact forwardMetre_sound hr h
    | reverseMetreEvent => exact reverseMetre_sound hr h
    | _ => simp [touched] at hrs
  · rw [Within, (exec_sameBlock h hrs : t.rs = s.rs)]
    exact hr

end Sys2Proof.Machine

namespace Sys2Proof.Proofs.RouteProfiles
open Sys2Proof Sys2Proof.Machine

/-- Settles O47: every command keeps the route record and the store legal (`exec_routeSound`), and a step runs one
command, or none. -/
theorem routeAndStoreStayLegal : Obligations.RouteAndStoreStayLegal := by
  intro s t hroute hstore h
  have hs : s.rs.Sound := ⟨(routeLegal_iff _).1 hroute, hstore⟩
  suffices ht : t.rs.Sound from ⟨(routeLegal_iff _).2 ht.legal, ht.store⟩
  unfold step at h
  split at h
  · next c rest _ => exact exec_routeSound (s := s.withPending rest) hs h
  · split at h
    · next e rest _ => exact exec_routeSound (s := s.withHanded rest) hs h
    · exact Host.Outcome.next.inj h ▸ hs

end Sys2Proof.Proofs.RouteProfiles

namespace Sys2Proof.Machine
open Sys2Proof

variable {s : State}

/-! ### ROUTE_START and ROUTE_STOP (R112, R113) -/

section Start
variable {g first offset : Nat}

/-- What the copy of ROUTE_START resolves to (R112). -/
def startResolved (g first : Nat) (s : State) : Resolved :=
  resolve s.rs.store (startPos s.rs.store (startPoint g first s).1 (startPoint g first s).2)

theorem exec_routeStart_refused {a : Answer} (h : s.linkFree)
    (hrow : ((routeStartChecks g first offset s).find? Prod.fst).map Prod.snd = some a) :
    exec (.routeStart g first offset) s = .next (replied s s .routeStart a) :=
  congrArg Host.Outcome.next (request_refused (body := routeStartBody g first offset) h _ rfl hrow)

/-- R112's table on fields that are in range. -/
theorem routeStartChecks_inRange (hfields : g = 255 ∨ g ≤ 63 ∧ first ≤ 3) (hoffset : offset ≤ 4095) (s : State) :
    routeStartChecks g first offset s =
      let r := startResolved g first s
      [ (false, refuseValue .group), (false, refuseValue .first), (false, refuseValue .offset),
        (r.ending == .stop, refuseValue .routeEnds), (r.ending == .loop, refuseValue .routeLoop),
        (!r.fits offset, refuseValue .offsetBeyond) ] := by
  have hg : (g != 255 && decide (63 < g)) = false := by
    rw [Bool.and_eq_false_iff, bne_eq_false_iff_eq, decide_eq_false_iff_not]
    omega
  have hfirst : (g != 255 && decide (3 < first)) = false := by
    rw [Bool.and_eq_false_iff, bne_eq_false_iff_eq, decide_eq_false_iff_not]
    omega
  have ho : decide (4095 < offset) = false := by
    rw [decide_eq_false_iff_not]
    omega
  rw [routeStartChecks, hg, hfirst, ho]
  rfl

/-- R112: an offset fits the SPAN or the HOLD that a resolution stands on. -/
theorem Resolved.fits_iff {r : Resolved} (h : r.ending = .span ∨ ∃ k, r.ending = .hold k) :
    r.fits offset = true ↔ r.ending = .span ∧ offset < r.pos.length ∨ (∃ k, r.ending = .hold k) ∧ offset = 0 := by
  rcases h with h | ⟨k, h⟩
  · simp [Resolved.fits, h]
  · simp [Resolved.fits, h]

/-- R112: the copy has no detour to return from. -/
theorem startResolved_returned (g first : Nat) (s : State) : (startResolved g first s).returned = false :=
  resolve_returned_of_inactive (by rw [(startPos_sound _ _).2]; rfl)

/-- R112: an accepted ROUTE_START. -/
theorem exec_routeStart_done (h : s.linkFree) (hpass : ∀ x ∈ routeStartChecks g first offset s, x.1 = false) :
    let u := s.startRoute (startPoint g first s).1 (startPoint g first s).2 offset
    exec (.routeStart g first offset) s = .next (replied s u .routeStart (done u.routeBytes)) := by
  refine congrArg Host.Outcome.next (checked_replied _ _ _ (routeStartBody g first offset) s _ _ h rfl hpass ?_ ?_)
  · rw [State.startRoute_eq, State.startRoute_eq]
    rfl
  · rw [State.startRoute_eq]
    rfl

end Start

/-- R113: an accepted ROUTE_STOP. -/
theorem exec_routeStop_done (h : s.linkFree) (hst : s.rs.state ≠ .idle) :
    exec .routeStop s = .next (replied s s.stopRoute .routeStop (done [])) := by
  refine congrArg Host.Outcome.next (checked_replied _ _ _ routeStopBody s _ _ h rfl ?_ ?_ ?_)
  · simpa using hst
  · rw [State.stopRoute_eq, State.stopRoute_eq]
    rfl
  · rw [State.stopRoute_eq]
    rfl

end Sys2Proof.Machine

namespace Sys2Proof.Proofs.RouteProfiles
open Sys2Proof Sys2Proof.Machine

/-- R112: a field out of range. -/
theorem routeStart_refusesFields (s : State) (g first offset : Nat) (hfree : s.linkFree) :
    (g ≠ 255 → 63 < g → exec (.routeStart g first offset) s = .next (replied s s .routeStart (refuseValue .group))) ∧
    (g ≤ 63 → 3 < first → exec (.routeStart g first offset) s = .next (replied s s .routeStart (refuseValue .first))) ∧
    (g = 255 ∨ (g ≤ 63 ∧ first ≤ 3) → 4095 < offset →
      exec (.routeStart g first offset) s = .next (replied s s .routeStart (refuseValue .offset))) := by
  refine ⟨fun hne hg => exec_routeStart_refused hfree ?_, fun hg hfirst => exec_routeStart_refused hfree ?_,
    fun hfields hoffset => exec_routeStart_refused hfree ?_⟩
  · simp [routeStartChecks, hne, hg]
  · have hne : g ≠ 255 := by omega
    simp [routeStartChecks, hne, not_lt.2 hg, hfirst]
  · rcases hfields with rfl | ⟨hg, hfirst⟩
    · simp [routeStartChecks, hoffset]
    · simp [routeStartChecks, not_lt.2 hg, not_lt.2 hfirst, hoffset]

/-- Settles O45: the refusals by the rows of the table, and the start and the stop whole (`State.startRoute_eq`,
`State.stopRoute_eq`). -/
theorem routeStartsAndStops : Obligations.RouteStartsAndStops := by
  refine ⟨routeStart_refusesFields, fun s g first offset hfree hfields hoffset => ?_,
    fun s hfree => ⟨fun hst => ?_, fun hst => ?_⟩⟩
  · have hrows := routeStartChecks_inRange hfields hoffset s
    intro start x
    have hback : x.returned = false := startResolved_returned g first s
    have hx : startResolved g first s = x := rfl
    rw [hx] at hrows
    refine ⟨fun hend => ?_, fun hend => ?_, fun hbeyond => ?_, fun hfit => ?_⟩
    · exact exec_routeStart_refused hfree (by simp [hrows, hend])
    · exact exec_routeStart_refused hfree (by simp [hrows, hend])
    · refine exec_routeStart_refused hfree ?_
      rcases hbeyond with ⟨hend, hlength⟩ | ⟨⟨k, hend⟩, hne⟩
      · simp [hrows, hend, Resolved.fits, hlength]
      · simp [hrows, hend, Resolved.fits, hne]
    · have hstands : x.ending = .span ∨ ∃ k, x.ending = .hold k := hfit.imp And.left And.left
      have hloop : x.ending ≠ .loop := by rcases hstands with h | ⟨k, h⟩ <;> simp [h]
      have hstop : x.ending ≠ .stop := by rcases hstands with h | ⟨k, h⟩ <;> simp [h]
      have hfits := (Resolved.fits_iff hstands).2 hfit
      refine ⟨_, exec_routeStart_done hfree ?_, ?_⟩
      · simp [hrows, hloop, hstop, hfits]
      · rw [State.startRoute_eq]
        refine ⟨rfl, congrArg (fun y : Rs => { y with index := offset }) (Resolved.route_of_stands hstands),
          resolvedTo_of offset rfl rfl fun e he => ?_, ?_⟩
        · simp only [State.moveRoute_handed, List.mem_append]
          exact .inr (.inl (.inr he))
        · rw [State.moveRoute_handed, ← List.append_assoc, ← List.append_assoc, ← List.append_assoc]
          refine congrArg (_ ++ · ++ _) ((Resolved.events_of_stands hback hloop).trans ?_)
          rcases hstands with h | ⟨k, h⟩
          · rw [h]
            rfl
          · rw [h]
            rfl
  · exact congrArg Host.Outcome.next (request_refused (body := routeStopBody) hfree _ rfl (by simp [hst]))
  · rw [exec_routeStop_done hfree hst, State.stopRoute_eq, State.moveRoute, ← List.append_assoc, ← List.append_assoc]
    rfl

end Sys2Proof.Proofs.RouteProfiles

namespace Sys2Proof.Machine
open Sys2Proof

variable {s : State} {g : Nat}

/-! ### INSERT_DETOUR, ABORT_DETOUR and RESUME (R109, R111, R114) -/

theorem exec_insertDetour_refused {a : Answer} (h : s.linkFree)
    (hrow : ((insertDetourChecks g s).find? Prod.fst).map Prod.snd = some a) :
    exec (.insertDetour g) s = .next (replied s s .insertDetour a) :=
  congrArg Host.Outcome.next (request_refused (body := insertDetourBody g) h _ rfl hrow)

/-- R109: a detour made PENDING. -/
theorem exec_insertDetour_done (h : s.linkFree) (hg : g ≤ 63) (hc : s.rs.state.counts = true)
    (hd : s.rs.pos.detour = .none) :
    exec (.insertDetour g) s = .next (replied s
      (s.moveRoute { s.rs with pos := { s.rs.pos with detour := .pending g } } s.sl.notices [.routeEditEvent])
      .insertDetour (done [])) := by
  refine congrArg Host.Outcome.next
    (checked_replied _ (insertDetourChecks g s) _ (insertDetourBody g) s _ _ h rfl ?_ rfl rfl)
  simp [insertDetourChecks, hg, hc, hd, Detour.isNone]

/-- What ABORT_DETOUR leaves of a PENDING or an ACTIVE detour, whatever frame it is taken from. -/
theorem abortDetour_framed (s : State) (hd : s.rs.pos.detour ≠ .none) :
    s.takeFrame.abortDetour = framed s s.abortDetour ∧ s.abortDetour.sl.busySeen = s.sl.busySeen := by
  cases hdetour : s.rs.pos.detour with
  | none => exact absurd hdetour hd
  | pending g =>
    rw [State.abortDetour_pending s hdetour, State.abortDetour_pending s.takeFrame hdetour]
    exact ⟨rfl, rfl⟩
  | active g =>
    rw [State.abortDetour_active s hdetour, State.abortDetour_active s.takeFrame hdetour]
    exact ⟨rfl, rfl⟩

/-- R111: an accepted ABORT_DETOUR. -/
theorem exec_abortDetour_done (h : s.linkFree) (hd : s.rs.pos.detour ≠ .none) :
    let u := s.abortDetour.hand .routeEditEvent
    exec .abortDetour s = .next (replied s u .abortDetour (u.routeAnswer u.abortBytes)) := by
  obtain ⟨hframed, hbusy⟩ := abortDetour_framed s hd
  refine congrArg Host.Outcome.next (checked_replied _ _ _ abortDetourBody s _ _ h rfl ?_ ?_ hbusy)
  · simpa using Detour.isNone_eq_false.2 hd
  · rw [hframed]
    rfl

/-- R114: an accepted RESUME. -/
theorem exec_resume_done (h : s.linkFree) (hst : s.rs.state = .holding) :
    let u := (s.leaveHold .resume).rollover
    exec .resume s = .next (replied s u .resume (u.routeAnswer u.routeBytes)) := by
  refine congrArg Host.Outcome.next (checked_replied _ _ _ resumeBody s _ _ h rfl ?_ ?_ ?_)
  · simpa using hst
  · rw [State.resume_eq, State.resume_eq]
    rfl
  · rw [State.resume_eq]
    rfl

end Sys2Proof.Machine

namespace Sys2Proof.Proofs.RouteProfiles
open Sys2Proof Sys2Proof.Machine

/-- Settles O46: the refusals by their tables' rows, and each accepted request whole (`State.abortDetour_active`,
`State.resume_eq`). -/
theorem detoursAndResume : Obligations.DetoursAndResume := by
  intro s hfree
  refine ⟨fun g hg => ?_, fun g hg hc => ?_, fun g hg hc => ⟨exec_insertDetour_done hfree hg hc, fun hd => ?_⟩,
    fun hd => ?_, fun g hd => ?_, fun g hd => ?_, fun hst => ?_, fun hst => ?_⟩
  · exact exec_insertDetour_refused hfree (by simp [insertDetourChecks, hg])
  · exact exec_insertDetour_refused hfree (by simp [insertDetourChecks, not_lt.2 hg, hc])
  · exact exec_insertDetour_refused hfree
      (by simp [insertDetourChecks, not_lt.2 hg, hc, Detour.isNone_eq_false.2 hd])
  · refine congrArg Host.Outcome.next (request_refused (body := abortDetourBody) hfree _ rfl ?_)
    simp [hd, Detour.isNone]
  · refine ⟨_, exec_abortDetour_done hfree (by simp [hd]), ?_⟩
    rw [State.abortDetour_pending s hd, State.hand_eq, State.moveRoute_moveRoute]
    rfl
  · have hback : (resolve s.rs.store s.rs.pos.restore).returned = false :=
      resolve_returned_of_inactive (by rw [RoutePos.restore_detour]; rfl)
    refine ⟨_, exec_abortDetour_done hfree (by simp [hd]), ?_⟩
    rw [State.abortDetour_active s hd, State.hand_eq, State.moveRoute_moveRoute]
    refine ⟨rfl, congrArg (fun y : Rs => { y with index := 0 }) (Resolved.route_frame _ s.rs),
      resolvedTo_of 0 rfl rfl fun e he => ?_, fun hnone => ?_, (resolve s.rs.store s.rs.pos.restore).events, ?_⟩
    · simp only [State.moveRoute_handed, List.mem_append]
      exact .inr (.inl (.inr he))
    · exact (Resolved.notices_detourDone _ _).trans (by rw [hback, hnone]; rfl)
    · rw [State.moveRoute_handed, ← List.append_assoc, ← List.append_assoc]
  · refine congrArg Host.Outcome.next (request_refused (body := resumeBody) hfree _ rfl ?_)
    simpa using hst
  · refine ⟨_, exec_resume_done hfree hst, ?_⟩
    rw [State.resume_eq]
    refine ⟨rfl, Resolved.route_frame _ s.rs, resolvedTo_of _ rfl rfl fun e he => ?_, Resolved.route_index _,
      fun hnone => ?_, fun htakes => ⟨?_, ?_⟩,
      s.rs.pos.rolloverEvents ++ (resolve s.rs.store (s.rs.pos.rollover s.rs.store)).events, ?_⟩
    · exact List.mem_append_right _ (List.mem_append_right _ he)
    · rwa [State.moveRoute_notices, Resolved.notices_segmentMark, RoutePos.rolloverNotices_segmentMark]
    · rw [State.moveRoute_notices, Resolved.notices_detourTaken, RoutePos.rolloverNotices_detourTaken htakes]
    · simp [RoutePos.rolloverEvents, htakes]
    · rw [State.moveRoute_handed, List.append_assoc, ← List.append_assoc, ← List.append_assoc]

end Sys2Proof.Proofs.RouteProfiles

namespace Sys2Proof.Machine
open Sys2Proof

/-! ### The claim on the TARGET key (R128) -/

/-- R128: the target is recorded and claimed, the table changing where the value differs from the one last claimed. -/
theorem State.claimTarget_eq (s : State) (v : Nat) :
    s.claimTarget v = { s with
      ct := if s.dg.claimed = some v then s.ct else claimSet s.ct .governorTarget v none none
      dg := { s.dg with target := some v, claimed := some v } } := by
  unfold State.claimTarget
  dsimp only
  split
  · next h => rw [← h]; rfl
  · rfl

/-! ### The figures of a governor update (R119, R123 to R127) -/

/-- R119: the state selected, by the mode, TA and the route. -/
theorem selectedState_eq (s : State) :
    selectedState s =
      if s.dg.enabled = false then .off
      else if s.ta.state.armed = false then .standby
      else if s.rs.state = .holding then .holding
      else if s.rs.state = .running then (if s.rs.pos.grade ≤ -20 then .governing else .tracking)
      else .standby := by
  unfold selectedState
  cases s.dg.enabled with
  | false => rfl
  | true =>
    cases s.ta.state.armed with
    | false => rfl
    | true => cases s.rs.state <;> rfl

theorem grossMass_measured {p : Pm} (h : p.state = .latched ∨ p.state = .empty) :
    grossMass p = (p.emptyMass + p.latched.getD 0, .latched) := by
  unfold grossMass
  rcases h with h | h <;> rw [h]

theorem grossMass_conservative {p : Pm} (hl : p.state ≠ .latched) (he : p.state ≠ .empty) :
    grossMass p = (p.emptyMass + p.rated * 12 / 10, .conservative) := by
  unfold grossMass
  cases h : p.state with
  | latched => exact absurd h hl
  | empty => exact absurd h he
  | unknown | loading | measuring | dumping => rfl

/-- R126: the cap of the remaining distance stands where the route ahead ends at a stop or a hold. -/
theorem approachCap_ends {r : Rs} (h : lookAhead r = .stop ∨ ∃ k, lookAhead r = .hold k) :
    approachCap r = capAt (r.pos.length - r.index) := by
  unfold approachCap
  rcases h with h | ⟨k, h⟩ <;> rw [h]

/-- R126: no cap stands where the route goes on. -/
theorem approachCap_goesOn {r : Rs} (hs : lookAhead r ≠ .stop) (hh : ∀ k, lookAhead r ≠ .hold k) :
    approachCap r = none := by
  unfold approachCap
  cases h : lookAhead r with
  | hold k => exact absurd h (hh k)
  | stop => exact absurd h hs
  | span | loop => rfl

theorem HoldKind.listed (k : HoldKind) : k ∈ [HoldKind.load, .dump, .wait] := by cases k <;> decide

section Figures
variable (s : State) (st : GovState)

theorem GovState.moving_iff : (st == .tracking || st == .governing) = true ↔ st = .tracking ∨ st = .governing := by
  rw [Bool.or_eq_true, beq_iff_eq, beq_iff_eq]

theorem State.governorFigures_remaining :
    (s.governorFigures st).remaining =
      if st = .tracking ∨ st = .governing then some (s.rs.pos.length - s.rs.index) else none :=
  if_congr (GovState.moving_iff st) rfl rfl

/-- R126: the approach cap of a moving governor. -/
theorem State.governorFigures_approach {ahead : Prop} [Decidable ahead]
    (h : ahead ↔ lookAhead s.rs = .stop ∨ ∃ k, lookAhead s.rs = .hold k) :
    (s.governorFigures st).approach =
      if (st = .tracking ∨ st = .governing) ∧ ahead then capAt (s.rs.pos.length - s.rs.index) else none := by
  refine (if_congr (GovState.moving_iff st) rfl rfl).trans ?_
  rw [ite_and]
  refine if_congr Iff.rfl ?_ rfl
  split
  · next hends => exact approachCap_ends (h.1 hends)
  · next hon =>
    rw [h, not_or, not_exists] at hon
    exact approachCap_goesOn hon.1 hon.2

end Figures

/-! ### A governor update whole (R120, R123, R128, R129) -/

section Update
variable {s : State}

/-- R128, R129: an update that selects an active state. -/
theorem exec_governorUpdate_active {target : Nat} (hactive : (selectedState s).active = true)
    (htarget : (s.withDg (s.governorFigures (selectedState s))).governorTarget = target) :
    exec .governorUpdate s = .next { s with
      ct := if s.dg.claimed = some target then s.ct else claimSet s.ct .governorTarget target none none
      dg := { s.governorFigures (selectedState s) with
        target := some target, claimed := some target, demand := nextDemand s.dg.demand s.ta.speed target } } := by
  have hstays : (s.dg.state.active && !(selectedState s).active) = false := by rw [hactive, Bool.not_true, Bool.and_false]
  show execGovernorUpdate s = _
  unfold execGovernorUpdate
  dsimp only
  rw [hstays, if_pos hactive, if_neg Bool.false_ne_true, htarget, State.claimTarget_eq]
  rfl

/-- R120: an update that leaves the active states retires the governor's records. -/
theorem exec_governorUpdate_leaving (hwas : s.dg.state.active = true) (hidle : (selectedState s).active = false) :
    exec .governorUpdate s = .next { s with
      ct := claimRetire (claimRetire s.ct .governorTarget none) .governorForecast none
      dg := { s.governorFigures (selectedState s) with
        target := none, claimed := none, lastApply := none, demand := 0 } } := by
  show execGovernorUpdate s = _
  unfold execGovernorUpdate
  dsimp only
  rw [hwas, hidle]
  rfl

/-- R123: an update outside the active states, none of them left. -/
theorem exec_governorUpdate_idle (hwas : s.dg.state.active = false) (hidle : (selectedState s).active = false) :
    exec .governorUpdate s = .next
      { s with dg := { s.governorFigures (selectedState s) with target := none, demand := 0 } } := by
  show execGovernorUpdate s = _
  unfold execGovernorUpdate
  dsimp only
  rw [hwas, hidle]
  rfl

/-- R120, R123, R128, R129: an update leaves its figures, and of the claims what the state it selects calls for. -/
theorem exec_governorUpdate_eq (s : State) :
    let st := selectedState s
    let v := (s.withDg (s.governorFigures st)).governorTarget
    ∃ (ct : List Slot) (target claimed : Option Nat) (lastApply : Option Apply) (demand : Nat),
      exec .governorUpdate s = .next { s with
        ct := ct
        dg := { s.governorFigures st with
          target := target, claimed := claimed, lastApply := lastApply, demand := demand } } ∧
      (st.active = false → target = none ∧ demand = 0 ∧
        (s.dg.state.active = true → claimed = none ∧ lastApply = none ∧
          ct = claimRetire (claimRetire s.ct .governorTarget none) .governorForecast none) ∧
        (s.dg.state.active = false → claimed = s.dg.claimed ∧ lastApply = s.dg.lastApply ∧ ct = s.ct)) ∧
      (st.active = true → target = some v ∧ claimed = some v ∧ lastApply = s.dg.lastApply ∧
        ct = (if s.dg.claimed = some v then s.ct else claimSet s.ct .governorTarget v none none) ∧
        demand = nextDemand s.dg.demand s.ta.speed v) := by
  intro st v
  cases hst : st.active with
  | true =>
    exact ⟨_, _, _, _, _, exec_governorUpdate_active hst rfl, nofun, fun _ => ⟨rfl, rfl, rfl, rfl, rfl⟩⟩
  | false =>
    cases hwas : s.dg.state.active with
    | true =>
      exact ⟨_, _, _, _, _, exec_governorUpdate_leaving hwas hst,
        fun _ => ⟨rfl, rfl, fun _ => ⟨rfl, rfl, rfl⟩, nofun⟩, nofun⟩
    | false =>
      exact ⟨_, _, _, _, _, exec_governorUpdate_idle hwas hst,
        fun _ => ⟨rfl, rfl, nofun, fun _ => ⟨rfl, rfl, rfl⟩⟩, nofun⟩

end Update

end Sys2Proof.Machine

namespace Sys2Proof.Proofs.DescentGovernance
open Sys2Proof Sys2Proof.Machine

/-- Settles O48: the state selected (`selectedState_eq`), the figures it leaves, and the claims by whether that state is
active (`exec_governorUpdate_eq`). -/
theorem governorUpdateSelectsAndClaims : Obligations.GovernorUpdateSelectsAndClaims := by
  intro s d st moving remaining
  have hst : selectedState s = st := selectedState_eq s
  obtain ⟨ct, target, claimed, lastApply, demand, hexec, hidle, hactive⟩ := exec_governorUpdate_eq s
  rw [hst] at hexec hidle hactive
  refine ⟨_, hexec, rfl, rfl, rfl, rfl, fun hm => ?_, fun hl he => ?_, rfl, s.governorFigures_remaining st,
    s.governorFigures_approach st ?_, rfl, rfl, hidle, hactive⟩
  · exact Prod.ext_iff.1 (grossMass_measured hm)
  · exact Prod.ext_iff.1 (grossMass_conservative hl he)
  · exact or_congr_right (exists_congr fun k => and_iff_right (HoldKind.listed k))

end Sys2Proof.Proofs.DescentGovernance

namespace Sys2Proof.Machine
open Sys2Proof

/-! ### Hold events at DG and PM (R121, R164) -/

/-- R121: a hold reached while TRACKING or GOVERNING. -/
theorem exec_holdReachedAtDg_moving {s : State} (k : HoldKind) (h : s.dg.state = .tracking ∨ s.dg.state = .governing) :
    exec (.holdReachedAtDg k) s = .next ((s.withDg { s.dg with state := .holding }).claimTarget 0) := by
  refine congrArg Host.Outcome.next ?_
  rcases h with h | h <;> rw [h]

/-- R121: a hold reached in any other governor state. -/
theorem exec_holdReachedAtDg_still {s : State} (k : HoldKind)
    (h : s.dg.state = .holding ∨ s.dg.state = .off ∨ s.dg.state = .standby) : exec (.holdReachedAtDg k) s = .next s := by
  refine congrArg Host.Outcome.next ?_
  rcases h with h | h | h <;> rw [h]

/-- R136: what a route edit or a latch makes of the cursor. -/
theorem CursorState.staled_eq (x : CursorState) :
    x.staled = match x with
      | .opened c => .stale c
      | y => y := by
  cases x <;> rfl

section HoldLeft
variable {s : State} {k : HoldKind} {c : HoldCause}

/-- R164: LOADING is left by a RESUME for MEASURING, by any other cause for UNKNOWN. -/
theorem exec_holdLeftAtPm_loading (hk : k ≠ .wait) (h : s.pm.state = .loading) :
    exec (.holdLeftAtPm k c) s = .next
      (if c = .resume then s.withPm (s.pm.enter .measuring).clearWindow else s.withPm (s.pm.enter .unknown)) := by
  refine congrArg Host.Outcome.next ((if_neg hk).trans ?_)
  rw [h]

/-- R164: DUMPING is left at once with the body down, and marked to be left with it up. -/
theorem exec_holdLeftAtPm_dumping (hk : k ≠ .wait) (h : s.pm.state = .dumping) :
    exec (.holdLeftAtPm k c) s = .next
      (if s.pm.body = .down then s.withPm (s.pm.enter .unknown) else s.withPm { s.pm with dumpRelease := true }) := by
  refine congrArg Host.Outcome.next ((if_neg hk).trans ?_)
  rw [h]

/-- R164: no other payload state is left at a hold. -/
theorem exec_holdLeftAtPm_other (hl : s.pm.state ≠ .loading) (hd : s.pm.state ≠ .dumping) :
    exec (.holdLeftAtPm k c) s = .next s := by
  refine congrArg Host.Outcome.next (ite_eq_left_iff.2 fun _ => ?_)
  split
  · next h => exact absurd h hl
  · next h => exact absurd h hd
  · rfl

end HoldLeft

end Sys2Proof.Machine

namespace Sys2Proof.Proofs.DescentGovernance
open Sys2Proof Sys2Proof.Machine

/-- Settles O49: the governor's events, then PM's, each by the states it acts in; the mask whole (`State.takePlMask_eq`). -/
theorem handedEventsReachGovernorAndPayload : Obligations.HandedEventsReachGovernorAndPayload := by
  refine ⟨fun s k c => ⟨fun hmoving => ?_, exec_holdReachedAtDg_still k, rfl⟩, fun s => ?_, fun s k st hst => ?_,
    fun s c => ⟨rfl, rfl⟩, fun s k c hk => ⟨fun hloading => ⟨fun hc => ?_, fun hc => ?_⟩,
      fun hdumping => ⟨fun hbody => ?_, fun hbody => ?_⟩, exec_holdLeftAtPm_other⟩, fun s masked => ?_⟩
  · rw [exec_holdReachedAtDg_moving k hmoving, State.claimTarget_eq]
    rfl
  · intro cursor
    have hcursor : s.dg.cursor.staled = cursor := CursorState.staled_eq _
    rw [← hcursor]
    exact ⟨rfl, rfl⟩
  · rcases hst with ⟨rfl, rfl⟩ | ⟨rfl, rfl⟩ <;> rfl
  · rw [exec_holdLeftAtPm_loading hk hloading, if_pos hc]
    rfl
  · rw [exec_holdLeftAtPm_loading hk hloading, if_neg hc]
    rfl
  · rw [exec_holdLeftAtPm_dumping hk hdumping, if_pos hbody]
    rfl
  · rw [exec_holdLeftAtPm_dumping hk hdumping, if_neg (by simp [hbody])]
    rfl
  · exact congrArg Host.Outcome.next (State.takePlMask_eq s masked)

end Sys2Proof.Proofs.DescentGovernance

namespace Sys2Proof.Machine
open Sys2Proof

/-! ### A SPAN on the forecast walk (R132, R133) -/

theorem Cursor.walkLine_span {c : Cursor} {e : Entry} {len : Nat} {grade : Int} {limit : Nat} {x : Surface} {b : Bool}
    (store : List (Nat × Group)) (hw : c.w0 = some e) (he : e.desc = .span len grade limit x b) :
    c.walkLine store = c.walkSpan e grade limit := by
  rw [Cursor.walkLine, hw]
  dsimp only
  rw [he]

section Span
variable (c : Cursor) (e : Entry) (grade : Int) (limit : Nat)

/-- The metres of the SPAN in W0 that the walk still has before it (R131, R132). -/
def Cursor.metres : Nat := c.firstRem.getD e.desc.length

/-- The heat after the SPAN in W0 (R133). -/
def Cursor.heatAfter : Nat :=
  c.heat + spanEnergy c.mass (c.metres e) grade - spanCooling c.cooling (c.metres e) (c.planned limit)

/-- What the energy of the SPAN in W0 leaves over 95 percent of the capacity, before any cooling (R133). -/
def Cursor.excess : Nat := c.heat + spanEnergy c.mass (c.metres e) grade - percent 95 c.capacity

variable {c e grade limit}

/-- R133: a downhill span that would pass 95 percent of the capacity is the problem. -/
theorem Cursor.walkSpan_problem (hgrade : grade ≤ -20) (hheat : percent 95 c.capacity < c.heatAfter e grade limit) :
    c.walkSpan e grade limit =
      (c.count, some (.problem ⟨c.distance, e.group, e.pos, c.metres e, spanEnergy c.mass (c.metres e) grade,
        c.excess e grade, recommended (c.metres e) c.cooling (c.excess e grade)⟩)) :=
  if_pos (by rw [decide_eq_true hgrade]; exact decide_eq_true hheat)

/-- R132: any other span is walked. -/
theorem Cursor.walkSpan_walked (h : -20 < grade ∨ c.heatAfter e grade limit ≤ percent 95 c.capacity) :
    c.walkSpan e grade limit =
      (Cursor.rollover { c.count with
          distance := c.distance + c.metres e, heat := c.heatAfter e grade limit, steps := 0, firstRem := none },
        if c.slice + 1 = 8 then some .slice else none) := by
  refine if_neg fun hboth => ?_
  obtain ⟨hgrade, hheat⟩ := Bool.and_eq_true_iff.1 hboth
  rcases h with h | h
  · exact absurd (of_decide_eq_true hgrade) (not_le.2 h)
  · exact absurd (of_decide_eq_true hheat) (not_lt.2 h)

end Span

/-- R133: an excess above the cooling at the planned speed recommends a slower speed, or the lowest of all. -/
theorem recommended_slower {cooling len excess v : Nat} (hv : 0 < v) (h : spanCooling cooling len v < excess) :
    recommended len cooling excess < v ∨ recommended len cooling excess = 50 := by
  have hslow : 36 * len * cooling / excess < v := by
    refine (Nat.div_lt_iff_lt_mul (Nat.zero_lt_of_lt h)).2 ?_
    calc 36 * len * cooling = cooling * 36 * len := by ring
      _ < excess * v := (Nat.div_lt_iff_lt_mul hv).1 h
      _ = v * excess := Nat.mul_comm ..
  unfold recommended holdNat
  omega

end Sys2Proof.Machine

namespace Sys2Proof.Proofs.DescentGovernance
open Sys2Proof Sys2Proof.Machine

/-- Settles O51: the two ways a SPAN is walked (`Cursor.walkSpan_problem`, `Cursor.walkSpan_walked`), and the excess above
the cooling, which slows the recommended speed (`recommended_slower`). -/
theorem walkedSpanProjectsHeat : Obligations.WalkedSpanProjectsHeat := by
  intro store c e len grade limit x b hw he metres v gain cooled most heat counted
  have hline := Cursor.walkLine_span store hw he
  have hmetres : c.metres e = metres := by rw [Cursor.metres, he]; rfl
  have hheat : c.heatAfter e grade limit = heat := by rw [Cursor.heatAfter, hmetres]; rfl
  have hexcess : c.excess e grade = c.heat + gain - most := by rw [Cursor.excess, hmetres]; rfl
  refine ⟨fun hdown hover => ?_, fun hfits => ?_⟩
  · have hcooled : cooled < c.heat + gain - most := by
      have : heat = c.heat + gain - cooled := rfl
      omega
    have hv : 0 < v := Nat.lt_of_lt_of_le (by decide) (le_max_left 50 _)
    refine ⟨?_, hcooled, recommended_slower hv hcooled⟩
    rw [hline, Cursor.walkSpan_problem hdown (by rwa [hheat]), hmetres, hexcess]
    rfl
  · rw [hline, Cursor.walkSpan_walked (by rwa [hheat]), hmetres, hheat]
    rfl

end Sys2Proof.Proofs.DescentGovernance

namespace Sys2Proof.Machine
open Sys2Proof

/-! ### The other lines of the forecast walk (R132) -/

section Lines
variable {c : Cursor} {e : Entry} (store : List (Nat × Group))

/-- R132: an invalid W0 reads the group at the pointer, while fewer than four reads were taken. -/
theorem Cursor.walkLine_invalid (hw : c.w0 = none) :
    c.walkLine store = if c.steps < 4 then (c.read store c.ptr, none) else (c, some .loop) := by
  simp only [Cursor.walkLine, hw]
  exact (if_congr Nat.not_lt.symm rfl rfl).trans (ite_not ..)

/-- R132: a JUMP reads its own group, while fewer than four reads were taken. -/
theorem Cursor.walkLine_jump {g : Nat} (hw : c.w0 = some e) (he : e.desc = .jump g) :
    c.walkLine store =
      if c.steps < 4 then (c.count.read store g, if c.count.slice = 8 then some .slice else none)
      else (c, some .loop) := by
  simp only [Cursor.walkLine, hw, he]
  exact (if_congr Nat.not_lt.symm rfl rfl).trans (ite_not ..)

/-- R132: a STOP takes the continuation. -/
theorem Cursor.walkLine_return {k : Continuation} (hw : c.w0 = some e) (he : e.desc = .stop) (hc : c.cont = some k) :
    c.walkLine store =
      ({ c with w0 := k.e0, w1 := k.e1, w2 := k.e2, w3 := none, ptr := k.next, cont := none }, none) := by
  simp only [Cursor.walkLine, hw, he, hc]

theorem Cursor.walkLine_stop (hw : c.w0 = some e) (he : e.desc = .stop) (hc : c.cont = none) :
    c.walkLine store = (c, some .stop) := by
  simp only [Cursor.walkLine, hw, he, hc]

theorem Cursor.walkLine_hold {k : HoldKind} (hw : c.w0 = some e) (he : e.desc = .hold k) :
    c.walkLine store = (c.count, some (.hold k c.distance)) := by
  simp only [Cursor.walkLine, hw, he]

/-- R132: a line that ends the walk ends the slice. -/
theorem walkSlice_ended {d : Cursor} {x : WalkEnd} (n : Nat) (h : c.walkLine store = (d, some x)) :
    walkSlice store (n + 1) c = (d, x) := by
  rw [walkSlice, h]

/-- R132: after any other line the slice goes on from what that line left. -/
theorem walkSlice_on {d : Cursor} (n : Nat) (h : c.walkLine store = (d, none)) :
    walkSlice store (n + 1) c = walkSlice store n d := by
  rw [walkSlice, h]

end Lines

/-! ### The cursor set up (R131) -/

theorem applyOf_named {n : Nat} (h : n ≤ 1) : applyOf n = some (n == 1) := by
  match n with
  | 0 | 1 => rfl
  | n + 2 => exact absurd h (by omega)

theorem applyOf_none {n : Nat} (h : 2 ≤ n) : applyOf n = none := by
  obtain ⟨n, rfl⟩ := Nat.exists_eq_add_of_le' h
  rfl

/-- R131: the continuation is the cursor's only while a detour is ACTIVE. -/
theorem RoutePos.cont_of_active (p : RoutePos) :
    (match p.detour with
      | .active _ => p.cont
      | _ => none) = if p.detour.isActive then p.cont else none := by
  cases p.detour <;> rfl

/-- R131: on a HOLDING route the cursor starts behind the HOLD. -/
theorem setUpCursor_eq (apply : Bool) (s : State) :
    setUpCursor apply s =
      let p := s.rs.pos
      { apply := apply
        pendingExcl := p.takesDetour
        advance := s.rs.advance
        mass := (grossMass s.pm).1
        capacity := s.gd.published.capacity
        cooling := s.gd.published.cooling
        ceiling := (speedCeilingButOwner s.ct .governor).value
        w0 := if s.rs.state = .holding then p.c1 else p.c0
        w1 := if s.rs.state = .holding then p.c2 else p.c1
        w2 := if s.rs.state = .holding then p.c3 else p.c2
        w3 := if s.rs.state = .holding then none else p.c3
        ptr := p.next
        cont := if p.detour.isActive then p.cont else none
        firstRem := if s.rs.state = .running then some (p.length - s.rs.index) else none
        steps := 0, distance := 0, heat := s.gd.published.total, total := 0, slice := 0 } := by
  unfold setUpCursor
  dsimp only
  rw [← RoutePos.cont_of_active]
  split
  · rfl
  · rfl

/-! ### The end of a slice (R134, R137) -/

section Apply
variable {p : Problem} {c : Cursor} {s : State}

/-- R137: outside the active states nothing is applied. -/
theorem applyProblem_inactive (h : s.dg.state.active = false) : applyProblem p c s = .notApplied := by
  simp [applyProblem, h]

/-- R137: a problem span already passed is not applied. -/
theorem applyProblem_passed (hactive : s.dg.state.active = true)
    (h : p.distance + p.length ≤ travelled s.rs.advance c.advance) : applyProblem p c s = .tooLate := by
  simp [applyProblem, hactive, h]

/-- R137: a problem span not yet passed is applied until its end. -/
theorem applyProblem_ahead (hactive : s.dg.state.active = true)
    (h : travelled s.rs.advance c.advance < p.distance + p.length) :
    applyProblem p c s = .applied p.speed (min 65535 (p.distance + p.length - travelled s.rs.advance c.advance)) := by
  simp [applyProblem, hactive, not_le.2 h]

end Apply

section Ends
variable (s : State) (c : Cursor) (clear : Option Detail)

/-- R137: the claims of a slice's end change the table and the last apply, which depend on nothing of the link. -/
theorem State.forecastClaims_eq (e : WalkEnd) :
    s.forecastClaims c e = { s with
      ct := (s.forecastClaims c e).ct, dg := { s.dg with lastApply := (s.forecastClaims c e).dg.lastApply } } := by
  cases e with
  | hold | stop =>
    simp only [State.forecastClaims]
    split <;> rfl
  | loop | slice => rfl
  | problem p =>
    simp only [State.forecastClaims]
    split
    · split <;> rfl
    · rfl

/-- The claims of a slice's end are the same behind the frame that called for it. -/
theorem State.forecastClaims_framed (u : State) (e : WalkEnd) :
    (framed s u).forecastClaims c e = framed s (u.forecastClaims c e) := by
  have happly (p : Problem) : applyProblem p c (framed s u) = applyProblem p c u := rfl
  cases e with
  | hold | stop =>
    simp only [State.forecastClaims]
    split <;> rfl
  | loop | slice => rfl
  | problem p =>
    simp only [State.forecastClaims, happly]
    split
    · split <;> rfl
    · rfl

theorem walkAnswer_payload (e : WalkEnd) : (walkAnswer e c clear s).payload = walkPayload e c s := by
  cases e with
  | hold | stop | loop | slice => rfl
  | problem p =>
    simp only [walkAnswer]
    split
    · split <;> rfl
    · rfl

/-- R134: the effects and the answer of the end `e` of a slice that leaves the cursor `c`. -/
theorem State.walk_ended (e : WalkEnd) :
    sliceEnded s ((s.withDg { s.dg with cursor := cursorAfter e c }).forecastClaims c e) (c, e) clear
      (walkAnswer e c clear s) := by
  refine ⟨walkAnswer_payload s c clear e, ?_, ?_⟩
  · rw [State.forecastClaims_eq]
    rfl
  cases e with
  | slice | loop => exact ⟨rfl, rfl, rfl, rfl, rfl⟩
  | hold | stop =>
    refine ⟨rfl, rfl, ?_⟩
    cases hflag : c.apply with
    | false => simp [State.forecastClaims, cursorAfter, hflag]
    | true => simp [State.forecastClaims, cursorAfter, hflag, State.release]
  | problem p =>
    have happly : applyProblem p c (s.withDg { s.dg with cursor := .absent }) = applyProblem p c s := rfl
    simp only [State.forecastClaims, walkAnswer, cursorAfter, happly]
    cases hflag : c.apply with
    | false => exact ⟨rfl, rfl, rfl, rfl, rfl⟩
    | true =>
      cases hactive : s.dg.state.active with
      | false =>
        rw [applyProblem_inactive hactive]
        exact ⟨rfl, rfl, rfl, rfl, rfl⟩
      | true =>
        rcases le_or_gt (p.distance + p.length) (travelled s.rs.advance c.advance) with hpassed | hahead
        · rw [applyProblem_passed hactive hpassed]
          refine ⟨rfl, rfl, ?_⟩
          rw [if_neg fun h => absurd h.2.2 (not_lt.2 (Nat.sub_eq_zero_of_le hpassed).le)]
          exact ⟨rfl, rfl, rfl⟩
        · rw [applyProblem_ahead hactive hahead]
          refine ⟨rfl, rfl, ?_⟩
          rw [if_pos ⟨rfl, rfl, Nat.sub_pos_of_lt hahead⟩]
          exact ⟨rfl, rfl, rfl⟩

end Ends

/-! ### A request that walks (R131, R135) -/

/-- R131, R135: a request whose body walks a slice from a cursor answers as the end of that slice says. -/
theorem request_walks {s : State} (h : s.linkFree) (q : Req) {body : State → State × Answer} (c : Cursor)
    (clear : Option Detail) (hbody : body s.takeFrame = s.takeFrame.walk c clear) :
    ∃ (u : State) (a : Answer), request q body s = replied s u q a ∧
      sliceEnded s u (walkSlice s.rs.store 32 { c with slice := 0 }) clear a := by
  refine ⟨_, _, request_replied q body s (s.walk c clear).1 (s.walk c clear).2 h ?_ ?_,
    s.walk_ended _ clear _⟩
  · rw [hbody]
    exact congrArg (·, _) (State.forecastClaims_framed s _ (s.withDg _) _)
  · rw [State.walk, State.forecastClaims_eq]
    rfl

end Sys2Proof.Machine

namespace Sys2Proof.Proofs.DescentGovernance
open Sys2Proof Sys2Proof.Machine

/-- Settles O50: the lines of the walk by the descriptor in W0, the slices by their lines, and the two requests by the cursor
they walk from (`request_walks`). -/
theorem forecastsWalkSlices : Obligations.ForecastsWalkSlices := by
  refine ⟨fun store c => ?_, fun store n c => ⟨fun d x => walkSlice_ended store n, fun d => walkSlice_on store n⟩,
    fun s hfree => ⟨fun n hn => ?_, fun n hn hc => ?_, fun hcursor => ?_, fun x hcursor => ?_, fun n hn hc => ?_,
      fun c hcursor => ?_⟩⟩
  · exact ⟨Cursor.walkLine_invalid store, fun e hw => ⟨fun g => Cursor.walkLine_jump store hw,
      fun k => Cursor.walkLine_return store hw, Cursor.walkLine_stop store hw, fun k => Cursor.walkLine_hold store hw⟩⟩
  · refine congrArg Host.Outcome.next (request_unchanged _ (forecastBody n) hfree ?_)
    rw [forecastBody, applyOf_none hn]
  · refine congrArg Host.Outcome.next (request_unchanged _ (forecastBody n) hfree ?_)
    rw [forecastBody, applyOf_named hn]
    exact if_neg (by simp [hc])
  · refine congrArg Host.Outcome.next (request_unchanged _ forecastContinueBody hfree ?_)
    rw [forecastContinueBody, show s.takeFrame.dg.cursor = _ from hcursor]
  · refine congrArg Host.Outcome.next (request_unchanged _ forecastContinueBody hfree ?_)
    rw [forecastContinueBody, show s.takeFrame.dg.cursor = _ from hcursor]
  · intro p c
    obtain ⟨u, a, hrequest, hended⟩ :=
      request_walks (body := forecastBody n) hfree .forecast (setUpCursor (n == 1) s) (some .clear) (by
        rw [forecastBody, applyOf_named hn]
        exact if_pos hc)
    refine ⟨u, a, congrArg Host.Outcome.next hrequest, ?_⟩
    rw [setUpCursor_eq] at hended
    exact hended
  · obtain ⟨u, a, hrequest, hended⟩ :=
      request_walks (body := forecastContinueBody) hfree .forecastContinue c none (by
        rw [forecastContinueBody, show s.takeFrame.dg.cursor = _ from hcursor])
    exact ⟨u, a, congrArg Host.Outcome.next hrequest, hended⟩

end Sys2Proof.Proofs.DescentGovernance

namespace Sys2Proof

/-! ### The envelope table by speed (R152) -/

/-- The last element of a list with a property is followed by none that has it. -/
theorem getLast?_filter_spec {α : Type} {p : α → Bool} {l : List α} {r : α} (h : (l.filter p).getLast? = some r) :
    ∃ i : Nat, l[i]? = some r ∧ p r = true ∧ ∀ j q, i < j → l[j]? = some q → p q = false := by
  obtain ⟨before, hlast⟩ := List.getLast?_eq_some_iff.1 h
  obtain ⟨l₁, l₂, rfl, -, hone⟩ := List.filter_eq_append_iff.1 hlast
  obtain ⟨l₃, l₄, rfl, -, hr, hnone⟩ := List.filter_eq_cons_iff.1 hone
  refine ⟨(l₁ ++ l₃).length, by simp, hr, fun j q hj hq => ?_⟩
  have hafter : q ∈ l₄ := by
    rw [← List.append_assoc, List.getElem?_append_right hj.le] at hq
    obtain ⟨k, hk⟩ := Nat.exists_eq_add_of_lt (Nat.sub_pos_of_lt hj)
    rw [hk, Nat.zero_add, List.getElem?_cons_succ] at hq
    exact List.mem_of_getElem? hq
  exact Bool.eq_false_iff.2 (List.filter_eq_nil_iff.1 hnone q hafter)

/-- R152: the limit at a speed is the angle of the last row whose speed-from is at or below it; row 0 is such a row. -/
theorem EnvTable.limitAt_lastRow {e : EnvTable} (hfirst : e.r0.speed = 0) (speed : Nat) :
    ∃ (i : Nat) (r : EnvRow), e.rows[i]? = some r ∧ r.speed ≤ speed ∧ e.limitAt speed = r.angle ∧
      ∀ j q, i < j → e.rows[j]? = some q → speed < q.speed := by
  have hzero : e.r0 ∈ e.rows.filter fun r => decide (r.speed ≤ speed) := by
    simp [EnvTable.rows, hfirst]
  obtain ⟨r, hr⟩ := Option.isSome_iff_exists.1 (List.getLast?_isSome.2 (List.ne_nil_of_mem hzero))
  obtain ⟨i, hi, hle, hafter⟩ := getLast?_filter_spec hr
  refine ⟨i, r, hi, of_decide_eq_true hle, by rw [EnvTable.limitAt, hr, Option.getD_some], fun j q hj hq => ?_⟩
  exact not_le.1 (of_decide_eq_false (hafter j q hj hq))

theorem EnvTable.ordered_firstRow {e : EnvTable} (h : e.ordered = true) : e.r0.speed = 0 := by
  simp only [EnvTable.ordered, Bool.and_eq_true, beq_iff_eq] at h
  obtain ⟨⟨hfirst, -⟩, -⟩ := h
  exact hfirst

/-- R154: the allowed speed, as the first of the rows below the angle. -/
theorem EnvTable.allowedAt_eq (e : EnvTable) (angle : Nat) :
    e.allowedAt angle = ((e.rows.filter fun r => decide (r.angle < angle)).head?.map EnvRow.speed).getD 700 := by
  rw [List.head?_filter, EnvTable.allowedAt]
  cases e.rows.find? fun r => decide (r.angle < angle) <;> rfl

/-! ### The readings (R145) -/

theorem AnglePort.sensor_eq (x : AnglePort) :
    x.sensor =
      if x.fault = false ∧ -470 ≤ x.angle ∧ x.angle ≤ 470 then some (max (-450) (min 450 x.angle)) else none := by
  simp only [AnglePort.sensor, Bool.and_eq_true, Bool.not_eq_true', decide_eq_true_eq, and_assoc]
  rfl

theorem AnglePort.operator_eq (x : AnglePort) :
    x.operator = if x.fault = false ∧ -6000 ≤ x.angle ∧ x.angle ≤ 6000 then some x.angle else none := by
  simp only [AnglePort.operator, Bool.and_eq_true, Bool.not_eq_true', decide_eq_true_eq, and_assoc]

end Sys2Proof

namespace Sys2Proof.Machine
open Sys2Proof

/-! ### The state work (R145 to R149) -/

section Work
variable {c : Sc} {m : Int}

/-- R147: the valve command that an update leaves. -/
def Sc.valveAfter (c : Sc) : Int :=
  match c.measured with
  | some m => hold (-1000) 1000 (divZ ((c.gain : Int) * (c.clamped - m)) 10)
  | none => c.valve

/-- R148: the following count that an update leaves. -/
def Sc.followingAfter (c : Sc) : Nat :=
  match c.measured with
  | some m => if 30 < mag (c.clamped - m) then min 25 (c.following + 1) else 0
  | none => c.following

/-- R148: the following fault mark that an update leaves; the count reaches 25 as its 25th update is counted. -/
def Sc.followMarkAfter (c : Sc) : Bool :=
  match c.measured with
  | some m => if 30 < mag (c.clamped - m) then c.followMark || decide (25 ≤ c.following + 1) else false
  | none => c.followMark

theorem Sc.valveAfter_measured (h : c.measured = some m) :
    c.valveAfter = hold (-1000) 1000 (divZ ((c.gain : Int) * (c.clamped - m)) 10) := by
  rw [Sc.valveAfter, h]

theorem Sc.followingAfter_measured (h : c.measured = some m) :
    c.followingAfter = if 30 < mag (c.clamped - m) then min 25 (c.following + 1) else 0 := by
  rw [Sc.followingAfter, h]

theorem Sc.followMarkAfter_measured (h : c.measured = some m) :
    c.followMarkAfter = if 30 < mag (c.clamped - m) then c.followMark || decide (25 ≤ c.following + 1) else false := by
  rw [Sc.followMarkAfter, h]

/-- R147, R148: with no measured angle the valve command, the count and the mark stand. -/
theorem Sc.after_unmeasured (h : c.measured = none) :
    c.valveAfter = c.valve ∧ c.followingAfter = c.following ∧ c.followMarkAfter = c.followMark := by
  rw [Sc.valveAfter, Sc.followingAfter, Sc.followMarkAfter, h]
  exact ⟨rfl, rfl, rfl⟩

theorem Sc.drive_eq (c : Sc) : c.drive = { c with valve := c.valveAfter } := by
  unfold Sc.drive
  split
  · next m hm => rw [Sc.valveAfter_measured hm]
  · next hm =>
    obtain ⟨hvalve, -, -⟩ := Sc.after_unmeasured hm
    rw [hvalve]

theorem Sc.follow_eq (c : Sc) :
    c.follow = { c with following := c.followingAfter, followMark := c.followMarkAfter } := by
  have hreached : (min 25 (c.following + 1) == 25) = decide (25 ≤ c.following + 1) := by
    rw [beq_eq_decide, decide_eq_decide]
    omega
  unfold Sc.follow
  split
  · next m hm =>
    rw [Sc.followingAfter_measured hm, Sc.followMarkAfter_measured hm, ← hreached]
    split <;> rfl
  · next hm =>
    obtain ⟨-, hcount, hmark⟩ := Sc.after_unmeasured hm
    rw [hcount, hmark]

/-- R146, R149: the readings of an update agree. -/
def Sc.readingsAgree (c : Sc) : Bool := c.sensorsAgree && c.wheel.isSome

/-- R149: the sensor fault count after an update's readings. -/
def Sc.faultsCounted (c : Sc) : Nat := if c.readingsAgree then 0 else c.sensorFault + 1

variable (speed : Nat)

theorem Sc.stateWork_direct (h : c.state = .direct) : c.stateWork speed = c := by
  rw [Sc.stateWork, h]

theorem Sc.stateWork_align (h : c.state = .align) : c.stateWork speed = c.align speed := by
  rw [Sc.stateWork, h]

theorem Sc.stateWork_steer (h : c.state = .tracking ∨ c.state = .limited) : c.stateWork speed = c.steer speed := by
  rcases h with h | h <;> rw [Sc.stateWork, h]

/-- R146: ALIGN stands before the fifth agreeing update. -/
theorem Sc.stateWork_waits (h : c.state = .align) (hfew : c.readingsAgree = false ∨ c.agreement + 1 < 5) :
    c.stateWork speed = { c with agreement := if c.readingsAgree then c.agreement + 1 else 0 } := by
  rw [Sc.stateWork_align speed h, Sc.align, ← Sc.readingsAgree]
  cases hagree : c.readingsAgree with
  | false => rfl
  | true =>
    have hcount : ¬5 ≤ c.agreement + 1 := not_le.2 (hfew.resolve_left (by simp [hagree]))
    rw [if_pos rfl, if_neg hcount, if_pos rfl]

/-- R146: the fifth agreeing update demands an angle and drives the valve. -/
theorem Sc.stateWork_ends (h : c.state = .align) (hagree : c.readingsAgree = true) (hfive : 5 ≤ c.agreement + 1) :
    c.stateWork speed = { c.demand speed with
      agreement := 0, following := 0, sensorFault := 0, valve := (c.demand speed).valveAfter } := by
  rw [Sc.stateWork_align speed h, Sc.align, ← Sc.readingsAgree, if_pos hagree, if_pos hfive, Sc.drive_eq]
  rfl

/-- R149: the fifth disagreeing update enters DIRECT. -/
theorem Sc.stateWork_fails (h : c.state = .tracking ∨ c.state = .limited) (hfaults : 5 ≤ c.faultsCounted) :
    c.stateWork speed = c.backup .direct :=
  (Sc.stateWork_steer speed h).trans (if_pos hfaults)

/-- R147, R148: an update that keeps steering demands an angle, drives the valve and follows the error. -/
theorem Sc.stateWork_keeps (h : c.state = .tracking ∨ c.state = .limited) (hfaults : c.faultsCounted < 5) :
    c.stateWork speed = { c.demand speed with
      sensorFault := c.faultsCounted, valve := (c.demand speed).valveAfter
      following := (c.demand speed).followingAfter, followMark := (c.demand speed).followMarkAfter } := by
  have hsteer : c.steer speed = ((Sc.demand { c with sensorFault := c.faultsCounted } speed).drive).follow :=
    if_neg (not_le.2 hfaults)
  rw [Sc.stateWork_steer speed h, hsteer, Sc.drive_eq, Sc.follow_eq]
  rfl

/-- R147: `w` steers by the demand of `d`. -/
def Sc.steersAs (w d : Sc) : Prop :=
  w.demanded = d.demanded ∧ w.envLimit = d.envLimit ∧ w.clamped = d.clamped ∧ w.state = d.state

end Work

/-! ### A whole update (R145) -/

/-- R145: what the state work leaves of the update's readings, conditions, record and settings. -/
theorem Sc.stateWork_frame (c : Sc) (speed : Nat) :
    let w := c.stateWork speed
    w = { c with
      state := w.state, demanded := w.demanded, clamped := w.clamped, envLimit := w.envLimit, valve := w.valve
      agreement := w.agreement, sensorFault := w.sensorFault, following := w.following, followMark := w.followMark } := by
  have hsteers (h : c.state = .tracking ∨ c.state = .limited) :=
    (le_or_gt 5 c.faultsCounted).imp (Sc.stateWork_fails speed h) (Sc.stateWork_keeps speed h)
  cases hstate : c.state with
  | direct => rw [Sc.stateWork_direct speed hstate]
  | align =>
    by_cases hfew : c.readingsAgree = false ∨ c.agreement + 1 < 5
    · rw [Sc.stateWork_waits speed hstate hfew]
    · rw [not_or, Bool.not_eq_false, not_lt] at hfew
      obtain ⟨hagree, hfive⟩ := hfew
      rw [Sc.stateWork_ends speed hstate hagree hfive]
      rfl
  | tracking => rcases hsteers (.inl hstate) with h | h <;> rw [h] <;> rfl
  | limited => rcases hsteers (.inr hstate) with h | h <;> rw [h] <;> rfl

/-- R145, R151: the readings and the pressure counts of an update. -/
def Sc.counted (c : Sc) (x : SteerPorts) : Sc := (c.read x).countPressure

/-- R145: the readings, the pressure counts and the state work of an update. -/
def Sc.worked (c : Sc) (x : SteerPorts) (speed : Nat) : Sc := (c.counted x).stateWork speed

section Worked
variable (c : Sc) (x : SteerPorts) (speed : Nat)

/-- R145: the state work leaves the readings of the update. -/
theorem Sc.worked_readings :
    (c.worked x speed).sensorA = x.sensorA.sensor ∧ (c.worked x speed).sensorB = x.sensorB.sensor ∧
    (c.worked x speed).wheel = x.wheel.operator ∧ (c.worked x speed).pressure = some (min 350 x.pressure) ∧
    (c.worked x speed).measured = (c.counted x).measured := by
  rw [Sc.worked, Sc.stateWork_frame]
  exact ⟨rfl, rfl, rfl, rfl, rfl⟩

/-- R145, R151: the state work leaves the pressure counts and the pressure low state. -/
theorem Sc.worked_pressure :
    (c.worked x speed).lowCount = (c.counted x).lowCount ∧ (c.worked x speed).goodCount = (c.counted x).goodCount ∧
    (c.worked x speed).pressureLow = (c.counted x).pressureLow := by
  rw [Sc.worked, Sc.stateWork_frame]
  exact ⟨rfl, rfl, rfl⟩

/-- R151, R154: an update has not yet judged the conditions or claimed the record as it ends the state work. -/
theorem Sc.worked_standing :
    (c.worked x speed).stCond = c.stCond ∧ (c.worked x speed).spCond = c.spCond ∧
    (c.worked x speed).claimed = c.claimed ∧ (c.worked x speed).bias = c.bias := by
  rw [Sc.worked, Sc.stateWork_frame]
  exact ⟨rfl, rfl, rfl, rfl⟩

/-- R157: an update leaves the settings. -/
theorem Sc.worked_settings : (c.worked x speed).settings = c.settings := by simp [Sc.worked, Sc.counted]

end Worked

/-- R151, R154: the conditions judged, and the envelope angle, the allowed speed and the record's value. -/
def Sc.judged (w : Sc) (stFlag spFlag : Bool) : Sc :=
  { w with stCond := w.stHolds, spCond := w.pressureLow }.envelopeValues stFlag spFlag

/-- R154: the ENVELOPE key's value after the claim. -/
def Sc.claimedAfter (c : Sc) : Option Nat := if c.value < 700 then some c.value else none

/-- R154: the ceiling table after the claim on the ENVELOPE key, which stood at `claimed`. -/
def Sc.envelopeTable (c : Sc) (t : List Slot) : List Slot :=
  if c.value < 700 then
    if c.claimed = some c.value then t else claimSet t .steeringEnvelope c.value (some c.envRamp) none
  else if c.claimed = none then t else claimRetire t .steeringEnvelope none

theorem State.steerConditions_eq (s : State) :
    s.steerConditions = (s.withSc { s.sc with stCond := s.sc.stHolds, spCond := s.sc.pressureLow }).withHanded
      (s.handed ++ told .st s.sc.stCond s.sc.stHolds ++ told .sp s.sc.spCond s.sc.pressureLow) := by
  rw [State.steerConditions, State.handCondition_eq, State.handCondition_eq]
  rfl

theorem State.claimEnvelope_eq (s : State) :
    s.claimEnvelope = (s.withSc { s.sc with claimed := s.sc.claimedAfter }).withCt (s.sc.envelopeTable s.ct) := by
  unfold State.claimEnvelope Sc.claimedAfter Sc.envelopeTable
  dsimp only
  by_cases hlow : s.sc.value < 700
  · rw [if_pos hlow, if_pos hlow, if_pos hlow]
    by_cases hsame : s.sc.claimed = some s.sc.value
    · rw [if_pos hsame, if_pos hsame, ← hsame]
      rfl
    · rw [if_neg hsame, if_neg hsame]
      rfl
  · rw [if_neg hlow, if_neg hlow, if_neg hlow]
    by_cases hnone : s.sc.claimed = none
    · rw [if_pos hnone, if_neg (by simp [hnone]), ← hnone]
      rfl
    · rw [if_neg hnone, if_pos (Option.isSome_iff_ne_none.2 hnone)]
      rfl

/-- R145: the steering controller after an update, from the update's judged figures. -/
def Sc.closed (c : Sc) (speed : Nat) (live : Bool) : Sc :=
  (Sc.assist { c with claimed := c.claimedAfter } speed live).closeUpdate

/-- R155: S2 and S3 are both LIVE. -/
def State.rearLive (s : State) : Bool := (s.station .s2).state == .live && (s.station .s3).state == .live

/-- R145: the judged figures of an update at a state. -/
def State.steerJudged (s : State) (x : SteerPorts) : Sc :=
  (s.sc.worked x s.ta.speed).judged s.pu.flags.st s.pu.flags.sp

/-- R145: the state after a steering update. -/
def State.steered (s : State) (x : SteerPorts) : State :=
  let w := s.sc.worked x s.ta.speed
  { s with
    ct := (s.steerJudged x).envelopeTable s.ct
    sc := (s.steerJudged x).closed s.ta.speed s.rearLive
    handed := s.handed ++ told .st s.sc.stCond w.stHolds ++ told .sp s.sc.spCond w.pressureLow }

theorem exec_steeringUpdate (s : State) (x : SteerPorts) : exec (.steeringUpdate x) s = .next (s.steered x) := by
  have hexec : exec (.steeringUpdate x) s =
      let t := (s.withSc (s.sc.worked x s.ta.speed)).steerConditions
      let u := (t.withSc (t.sc.envelopeValues s.pu.flags.st s.pu.flags.sp)).claimEnvelope
      .next (u.withSc (u.sc.assist s.ta.speed s.rearLive).closeUpdate) := rfl
  obtain ⟨hst, hsp, -, -⟩ := s.sc.worked_standing x s.ta.speed
  rw [hexec, State.steered, State.steerJudged, ← hst, ← hsp]
  generalize s.sc.worked x s.ta.speed = w
  simp only [State.steerConditions_eq, State.claimEnvelope_eq, State.withSc, State.withCt, State.withHanded]
  rfl

/-- R145: after the state work the conditions, the record's figures, the assist and the settings given are set. -/
theorem State.steered_sc (s : State) (x : SteerPorts) :
    let u := (s.steered x).sc
    u = { s.sc.worked x s.ta.speed with
      stCond := u.stCond, spCond := u.spCond, envAngle := u.envAngle, allowed := u.allowed, value := u.value
      claimed := u.claimed, aim := u.aim, bias := u.bias, lastUpdate := u.lastUpdate } := rfl

/-- R145: any other figure is as the state work leaves it. -/
theorem State.steered_work (s : State) (x : SteerPorts) {α : Type} (f : Sc → α)
    (hf : ∀ (w : Sc) (st sp : Bool) (angle allowed value : Nat) (claimed : Option Nat) (aim bias : Int)
      (last : SteerSettings),
      f { w with
        stCond := st, spCond := sp, envAngle := angle, allowed := allowed, value := value, claimed := claimed
        aim := aim, bias := bias, lastUpdate := last } = f w := by intros; rfl) :
    f (s.steered x).sc = f (s.sc.worked x s.ta.speed) :=
  (congrArg f (s.steered_sc x)).trans (hf ..)

section Steered
variable (s : State) (x : SteerPorts)

theorem State.steered_readings :
    let u := (s.steered x).sc
    u.sensorA = x.sensorA.sensor ∧ u.sensorB = x.sensorB.sensor ∧ u.wheel = x.wheel.operator ∧
    u.pressure = some (min 350 x.pressure) ∧ u.measured = (s.sc.counted x).measured := by
  dsimp only
  rw [s.steered_work x Sc.sensorA, s.steered_work x Sc.sensorB, s.steered_work x Sc.wheel, s.steered_work x Sc.pressure,
    s.steered_work x Sc.measured]
  exact s.sc.worked_readings x s.ta.speed

theorem State.steered_pressure :
    let u := (s.steered x).sc
    u.lowCount = (s.sc.counted x).lowCount ∧ u.goodCount = (s.sc.counted x).goodCount ∧
    u.pressureLow = (s.sc.counted x).pressureLow := by
  dsimp only
  rw [s.steered_work x Sc.lowCount, s.steered_work x Sc.goodCount, s.steered_work x Sc.pressureLow]
  exact s.sc.worked_pressure x s.ta.speed

/-- R149: DIRECT stands. -/
theorem State.steered_direct (h : s.sc.state = .direct) :
    let u := (s.steered x).sc
    u.state = .direct ∧ u.valve = s.sc.valve ∧ u.sensorFault = s.sc.sensorFault := by
  have hw : s.sc.worked x s.ta.speed = s.sc.counted x := Sc.stateWork_direct _ h
  dsimp only
  rw [s.steered_work x Sc.state, s.steered_work x Sc.valve, s.steered_work x Sc.sensorFault, hw]
  exact ⟨h, rfl, rfl⟩

/-- R146: ALIGN stands before the fifth agreeing update. -/
theorem State.steered_waits (h : s.sc.state = .align)
    (hfew : (s.sc.counted x).readingsAgree = false ∨ s.sc.agreement + 1 < 5) :
    let u := (s.steered x).sc
    u.state = .align ∧ u.valve = s.sc.valve ∧
    u.agreement = if (s.sc.counted x).readingsAgree then s.sc.agreement + 1 else 0 := by
  have hw : s.sc.worked x s.ta.speed = _ := Sc.stateWork_waits (c := s.sc.counted x) _ h hfew
  dsimp only
  rw [s.steered_work x Sc.state, s.steered_work x Sc.valve, s.steered_work x Sc.agreement, hw]
  exact ⟨h, rfl, rfl⟩

/-- R146: the fifth agreeing update ends ALIGN. -/
theorem State.steered_ends (h : s.sc.state = .align) (hagree : (s.sc.counted x).readingsAgree = true)
    (hfive : 5 ≤ s.sc.agreement + 1) :
    let u := (s.steered x).sc
    let d := (s.sc.counted x).demand s.ta.speed
    u.steersAs d ∧ u.agreement = 0 ∧ u.following = 0 ∧ u.sensorFault = 0 ∧ u.valve = d.valveAfter := by
  have hw : s.sc.worked x s.ta.speed = _ := Sc.stateWork_ends (c := s.sc.counted x) _ h hagree hfive
  intro u d
  rw [s.steered_work x (·.steersAs d), s.steered_work x Sc.agreement, s.steered_work x Sc.following,
    s.steered_work x Sc.sensorFault, s.steered_work x Sc.valve, hw]
  exact ⟨⟨rfl, rfl, rfl, rfl⟩, rfl, rfl, rfl, rfl⟩

/-- R149: the fifth disagreeing update enters DIRECT. -/
theorem State.steered_fails (h : s.sc.state = .tracking ∨ s.sc.state = .limited)
    (hfaults : 5 ≤ (s.sc.counted x).faultsCounted) :
    let u := (s.steered x).sc
    u.state = .direct ∧ u.valve = 0 ∧ u.following = 0 ∧ u.followMark = false ∧ u.sensorFault = 0 := by
  have hw : s.sc.worked x s.ta.speed = _ := Sc.stateWork_fails (c := s.sc.counted x) _ h hfaults
  dsimp only
  rw [s.steered_work x Sc.state, s.steered_work x Sc.valve, s.steered_work x Sc.following,
    s.steered_work x Sc.followMark, s.steered_work x Sc.sensorFault, hw]
  exact ⟨rfl, rfl, rfl, rfl, rfl⟩

/-- R147, R148: any other update in TRACKING and LIMITED steers, drives the valve and follows the error. -/
theorem State.steered_keeps (h : s.sc.state = .tracking ∨ s.sc.state = .limited)
    (hfaults : (s.sc.counted x).faultsCounted < 5) :
    let u := (s.steered x).sc
    let d := (s.sc.counted x).demand s.ta.speed
    u.steersAs d ∧ u.sensorFault = (s.sc.counted x).faultsCounted ∧ u.valve = d.valveAfter ∧
    u.following = d.followingAfter ∧ u.followMark = d.followMarkAfter := by
  have hw : s.sc.worked x s.ta.speed = _ := Sc.stateWork_keeps (c := s.sc.counted x) _ h hfaults
  intro u d
  rw [s.steered_work x (·.steersAs d), s.steered_work x Sc.sensorFault, s.steered_work x Sc.valve,
    s.steered_work x Sc.following, s.steered_work x Sc.followMark, hw]
  exact ⟨⟨rfl, rfl, rfl, rfl⟩, rfl, rfl, rfl, rfl⟩

/-- R151: the conditions as the state work has left the state and the marks. -/
theorem State.steered_conditions :
    (s.steered x).sc.stCond = (s.steered x).sc.stHolds ∧ (s.steered x).sc.spCond = (s.steered x).sc.pressureLow := by
  rw [s.steered_work x Sc.stHolds, s.steered_work x Sc.pressureLow]
  exact ⟨rfl, rfl⟩

/-- R151: the events of the conditions that changed, ST's before SP's (log 31). -/
theorem State.steered_handed :
    (s.steered x).handed = s.handed ++ told .st s.sc.stCond (s.steered x).sc.stCond
      ++ told .sp s.sc.spCond (s.steered x).sc.spCond := by
  obtain ⟨hst, hsp⟩ := s.steered_conditions x
  rw [hst, hsp, s.steered_work x Sc.stHolds, s.steered_work x Sc.pressureLow]
  rfl

end Steered

end Sys2Proof.Machine

namespace Sys2Proof.Proofs.Steering
open Sys2Proof Sys2Proof.Machine

/-- Settles O52: the table's limit by its last row in reach (`EnvTable.limitAt_lastRow`), and the update by its readings and
the lines of the state work that they choose. -/
theorem steeringUpdateReadsAndSteers : Obligations.SteeringUpdateReadsAndSteers := by
  refine ⟨fun table speed h => EnvTable.limitAt_lastRow (EnvTable.ordered_firstRow h) speed, ?_⟩
  intro s x c sensor wheel measured agree low faults demanded limit clamped valve steered
  have hsensor (p : AnglePort) : p.sensor = sensor p := p.sensor_eq
  have hwheel : x.wheel.operator = wheel := x.wheel.operator_eq
  have hmeasured : (c.counted x).measured = measured := by
    change x.sensorA.sensor.bind (fun p => x.sensorB.sensor.map fun q => divZ (p + q) 2) = measured
    rw [hsensor, hsensor]
    dsimp only [measured]
    cases sensor x.sensorA <;> cases sensor x.sensorB <;> rfl
  have hagree : (c.counted x).readingsAgree = agree := by
    change (Sc.sensorsAgree { c with sensorA := x.sensorA.sensor, sensorB := x.sensorB.sensor }
      && x.wheel.operator.isSome) = agree
    rw [hsensor, hsensor, hwheel]
    dsimp only [agree, Sc.sensorsAgree]
    cases sensor x.sensorA <;> cases sensor x.sensorB <;> cases wheel <;> simp
  have hfaults : (c.counted x).faultsCounted = faults := by
    rw [Sc.faultsCounted, hagree]
    rfl
  have hdemanded : ((c.counted x).demand s.ta.speed).demanded = demanded := by
    rw [Sc.demand, show (c.counted x).wheel = wheel from hwheel]
    rfl
  have hclamped : ((c.counted x).demand s.ta.speed).clamped = clamped := by
    change hold _ _ ((c.counted x).demand s.ta.speed).demanded = _
    rw [hdemanded]
    rfl
  have hstate : ((c.counted x).demand s.ta.speed).state = if clamped = demanded then .tracking else .limited := by
    rw [← hclamped, ← hdemanded]
    rfl
  have hvalve (m : Int) (hm : measured = some m) : ((c.counted x).demand s.ta.speed).valveAfter = valve m := by
    rw [Sc.valveAfter_measured (c := (c.counted x).demand s.ta.speed) (hmeasured.trans hm), hclamped]
    rfl
  have hsteered (h : (s.steered x).sc.steersAs ((c.counted x).demand s.ta.speed)) : steered (s.steered x) := by
    obtain ⟨hdemand, hlimit, hclamp, hwhich⟩ := h
    exact ⟨hdemand.trans hdemanded, hlimit, hclamp.trans hclamped, hwhich.trans hstate⟩
  obtain ⟨hsensorA, hsensorB, hwheelRead, hpressure, hmeasuredRead⟩ := s.steered_readings x
  obtain ⟨hlow, hgood, hpressureLow⟩ := s.steered_pressure x
  obtain ⟨hst, hsp⟩ := s.steered_conditions x
  refine ⟨s.steered x, exec_steeringUpdate s x, rfl, hsensorA.trans (hsensor _), hsensorB.trans (hsensor _),
    hwheelRead.trans hwheel, hpressure, hmeasuredRead.trans hmeasured, hlow, hgood, ?_, s.steered_direct x,
    fun halign hwaits => ?_, fun halign hends hfive => ?_,
    fun hsteers => ⟨fun hfail => s.steered_fails x hsteers (hfaults ▸ hfail), fun hkeeps => ?_⟩, hst, hsp,
    s.steered_handed x⟩
  · rw [hlow, hgood]
    exact hpressureLow
  · rw [← hagree] at hwaits ⊢
    exact s.steered_waits x halign hwaits
  · obtain ⟨hdemand, hagreement, hfollowing, hfault, hdrive⟩ := s.steered_ends x halign (hagree.trans hends) hfive
    exact ⟨hsteered hdemand, hagreement, hfollowing, hfault, fun m hm => hdrive.trans (hvalve m hm)⟩
  · obtain ⟨hdemand, hfault, hdrive, hfollowing, hmark⟩ := s.steered_keeps x hsteers (hfaults ▸ hkeeps)
    refine ⟨hsteered hdemand, hfault.trans hfaults, fun hm => ?_, fun m hm => ⟨hdrive.trans (hvalve m hm), ?_, ?_⟩⟩
    · rw [hdrive, hfollowing, hmark]
      exact Sc.after_unmeasured (c := (c.counted x).demand s.ta.speed) (hmeasured.trans hm)
    · rw [hfollowing, ← hclamped]
      exact Sc.followingAfter_measured (c := (c.counted x).demand s.ta.speed) (hmeasured.trans hm)
    · rw [hmark, ← hclamped]
      exact Sc.followMarkAfter_measured (c := (c.counted x).demand s.ta.speed) (hmeasured.trans hm)

end Sys2Proof.Proofs.Steering

namespace Sys2Proof.Machine
open Sys2Proof

/-! ### The ENVELOPE record and the assist (R154, R155) -/

section Angle
variable {c : Sc} {m : Int}

/-- R154: the measured angle is judged in TRACKING and LIMITED. -/
theorem Sc.angleSteered_measured (h : c.state = .tracking ∨ c.state = .limited) (hm : c.measured = some m) :
    c.angleSteered = mag m := by
  rcases h with h | h <;> rw [Sc.angleSteered, h, hm]

/-- R154: elsewhere the worse of the valid readings is judged, and 450 with none. -/
theorem Sc.angleSteered_readings (h : ¬(c.state = .tracking ∨ c.state = .limited) ∨ c.measured = none) :
    (∀ a b, c.sensorA = some a → c.sensorB = some b → c.angleSteered = max (mag a) (mag b)) ∧
    (∀ a, c.sensorA = some a → c.sensorB = none → c.angleSteered = mag a) ∧
    (∀ b, c.sensorA = none → c.sensorB = some b → c.angleSteered = mag b) ∧
    (c.sensorA = none → c.sensorB = none → c.angleSteered = 450) := by
  unfold Sc.angleSteered
  dsimp only
  split
  · next hstate hm => simp [hstate, hm] at h
  · next hstate hm => simp [hstate, hm] at h
  · refine ⟨fun a b ha hb => ?_, fun a ha hb => ?_, fun b ha hb => ?_, fun ha hb => ?_⟩ <;> rw [ha, hb]

/-- R155: the lines of the table that give an aim of 0. -/
theorem Sc.aimAt_zero {speed : Nat}
    (h : c.assistOn = false ∨ ¬(c.state = .tracking ∨ c.state = .limited) ∨ speed < 30 ∨ 300 < speed ∨
      c.measured = none) :
    c.aimAt speed = 0 := by
  rcases h with hoff | hstate | hslow | hfast | hm
  · exact if_pos (by simp [hoff])
  · refine if_pos ?_
    cases h : c.state <;> simp [h] at hstate ⊢
  · exact if_pos (by simp [hslow])
  · exact if_pos (by simp [hfast])
  · unfold Sc.aimAt
    rw [hm]
    split <;> rfl

/-- R155: the last line of the table. -/
theorem Sc.aimAt_share {speed : Nat} (hon : c.assistOn = true) (h : c.state = .tracking ∨ c.state = .limited)
    (hlow : 30 ≤ speed) (hhigh : speed ≤ 300) (hm : c.measured = some m) :
    c.aimAt speed = m.sign * (min c.assistMax (c.assistGain * mag m / 10) : Nat) := by
  have hstate : (c.state == .align) = false ∧ (c.state == .direct) = false := by
    rcases h with h | h <;> rw [h] <;> decide
  obtain ⟨halign, hdirect⟩ := hstate
  have hline : (!c.assistOn || c.state == .align || c.state == .direct || decide (speed < 30)
      || decide (300 < speed)) = false := by
    simp [hon, halign, hdirect, hlow, hhigh]
  rw [Sc.aimAt, hline, hm]
  rfl

end Angle

section Record
variable (s : State) (x : SteerPorts)

theorem State.steered_envAngle : (s.steered x).sc.envAngle = (s.steered x).sc.angleSteered := rfl

theorem State.steered_allowed :
    (s.steered x).sc.allowed = (s.steered x).sc.envelope.allowedAt (s.steered x).sc.envAngle := rfl

/-- R154: the record's value, lowered under each condition or flag. -/
theorem State.steered_value :
    let c := (s.steered x).sc
    c.value = min (min c.allowed (if c.stCond = true ∨ s.pu.flags.st = true then 150 else c.allowed))
      (if c.spCond = true ∨ s.pu.flags.sp = true then 100 else c.allowed) := by
  intro c
  have hvalue : c.value =
      let v := if c.stCond || s.pu.flags.st then min 150 c.allowed else c.allowed
      if c.spCond || s.pu.flags.sp then min 100 v else v := rfl
  rw [hvalue]
  simp only [Bool.or_eq_true]
  split <;> split <;> omega

theorem State.steered_claimed :
    (s.steered x).sc.claimed = if (s.steered x).sc.value < 700 then some (s.steered x).sc.value else none := rfl

theorem State.steered_aim : (s.steered x).sc.aim = (s.steered x).sc.aimAt s.ta.speed := rfl

theorem State.steered_bias :
    (s.steered x).sc.bias =
      if s.rearLive then hold (s.sc.bias - 10) (s.sc.bias + 10) (s.steered x).sc.aim else 0 := by
  obtain ⟨-, -, -, hbias⟩ := s.sc.worked_standing x s.ta.speed
  rw [← hbias]
  rfl

/-- R154: the claim on the ENVELOPE key, by the value that the key stood at. -/
theorem State.steered_ct :
    let c := (s.steered x).sc
    (s.steered x).ct =
      if c.value < 700 then
        if s.sc.claimed = some c.value then s.ct else claimSet s.ct .steeringEnvelope c.value (some s.sc.envRamp) none
      else if s.sc.claimed = none then s.ct else claimRetire s.ct .steeringEnvelope none := by
  intro c
  obtain ⟨-, -, hclaimed, -⟩ := s.sc.worked_standing x s.ta.speed
  have hramp : (s.sc.worked x s.ta.speed).envRamp = s.sc.envRamp :=
    congrArg SteerSettings.envRamp (s.sc.worked_settings x s.ta.speed)
  rw [← hclaimed, ← hramp]
  rfl

/-- R157: an update leaves the settings, and leaves them as those READ_STEERING gives. -/
theorem State.steered_settings :
    (s.steered x).sc.settings = s.sc.settings ∧ (s.steered x).sc.lastUpdate = s.sc.settings :=
  ⟨(s.steered_work x Sc.settings).trans (s.sc.worked_settings x s.ta.speed), s.sc.worked_settings x s.ta.speed⟩

/-- R157: a steering controller with its settings written out. -/
theorem Sc.eq_of_settings {c d : Sc} (h : c.settings = d.settings) (hlast : c.lastUpdate = d.settings) :
    c = { c with
      envelope := d.envelope, ratio := d.ratio, gain := d.gain, envRamp := d.envRamp, assistMax := d.assistMax
      reserve := d.reserve, assistOn := d.assistOn, assistGain := d.assistGain, configured := d.configured
      lastUpdate := d.settings } := by
  obtain ⟨henvelope, hratio, hgain, hramp, hmost, hreserve, hon, hassist, hconfigured⟩ := SteerSettings.mk.inj h
  rw [← henvelope, ← hratio, ← hgain, ← hramp, ← hmost, ← hreserve, ← hon, ← hassist, ← hconfigured, ← hlast]

end Record

/-! ### The settings that READ_STEERING gives (R157) -/

/-- R157: the settings last worked by are `l`. -/
def Sc.lastWorkedBy (l : SteerSettings) (c : Sc) : Prop := c.lastUpdate = l

variable {s t : State} {l : SteerSettings}

/-- R150: a steering clear is no update. -/
theorem clearTruck_lastWorkedBy (h : s.sc.lastWorkedBy l) : (clearTruck s).1.sc.lastWorkedBy l := by
  refine Within.checked (p := Sc.lastWorkedBy l) (block := State.sc) h fun _ => ?_
  have hcleared : s.truckCleared.sc = s.sc.steeringCleared := by
    rw [State.truckCleared_eq, State.rechecked_frame]
  change s.truckCleared.sc.lastUpdate = l
  rw [hcleared, Sc.steeringCleared]
  split <;> exact h

/-- R157: no command but a reset or an update changes the settings last worked by. -/
theorem exec_lastWorkedBy {c : Instr} (hc : Within (Sc.lastWorkedBy l) State.sc s) (h : exec c s = .next t)
    (hsoft : c ≠ .softReset) (hhard : c ≠ .hardReset) (hupdate : ∀ x, c ≠ .steeringUpdate x) :
    Within (Sc.lastWorkedBy l) State.sc t := by
  by_cases hsc : Block.sc ∈ touched c
  · cases c with
    | softReset => exact absurd rfl hsoft
    | hardReset => exact absurd rfl hhard
    | steeringUpdate x => exact absurd rfl (hupdate x)
    | configureSteering _ _ _ _ _ | steerEnvelope _ | setAssist _ _ =>
      exact Within.next h (hc.request fun u hu => hu.checked fun _ => hu)
    | clearFaultsStation target =>
      refine Within.next h (hc.request fun u hu => ?_)
      unfold clearFaultsBody
      split
      · next n _ =>
        rw [Within, ((clearStation_acts u n).blocks .sc (by simp) : _ = u.sc)]
        exact hu
      · split
        · exact clearTruck_lastWorkedBy hu
        · exact hu
    | clearFaultsTruck => exact Within.next h (hc.request fun u hu => clearTruck_lastWorkedBy hu)
    | _ => simp [touched] at hsc
  · rw [Within, (exec_sameBlock h hsc : t.sc = s.sc)]
    exact hc

end Sys2Proof.Machine

namespace Sys2Proof.Proofs.Steering
open Sys2Proof Sys2Proof.Machine

/-- Settles O53: the settings given by the commands that touch SC (`exec_lastWorkedBy`), and an update by the laws of the
state that it leaves. -/
theorem envelopeRecordAndAssistFollowTheAngle : Obligations.EnvelopeRecordAndAssistFollowTheAngle := by
  refine ⟨fun c s t h hsoft hhard hupdate => exec_lastWorkedBy (l := s.sc.lastUpdate) rfl h hsoft hhard hupdate,
    fun s x => ⟨s.steered x, exec_steeringUpdate s x, ?_⟩⟩
  intro c steering
  obtain ⟨hsettings, hlast⟩ := s.steered_settings x
  have hon : c.assistOn = s.sc.assistOn := congrArg SteerSettings.assistOn hsettings
  have hmost : c.assistMax = s.sc.assistMax := congrArg SteerSettings.assistMax hsettings
  have hgain : c.assistGain = s.sc.assistGain := congrArg SteerSettings.assistGain hsettings
  have hangle : c.envAngle = c.angleSteered := s.steered_envAngle x
  refine ⟨fun m hsteers hm => hangle.trans (Sc.angleSteered_measured hsteers hm),
    fun h => hangle ▸ Sc.angleSteered_readings h,
    Sc.eq_of_settings hsettings hlast, (s.steered_allowed x).trans (EnvTable.allowedAt_eq _ _), s.steered_value x,
    fun hlow => ⟨?_, ?_⟩, fun hfull => ⟨?_, ?_⟩, fun hline => ?_, fun m hassist hsteers hslow hfast hm => ?_,
    fun hs2 hs3 => ?_, fun hrear => ?_⟩
  · exact (s.steered_claimed x).trans (if_pos hlow)
  · exact (s.steered_ct x).trans (if_pos hlow)
  · exact (s.steered_claimed x).trans (if_neg (not_lt.2 hfull))
  · exact (s.steered_ct x).trans (if_neg (not_lt.2 hfull))
  · exact (s.steered_aim x).trans (Sc.aimAt_zero (by rwa [hon]))
  · rw [← hmost, ← hgain]
    exact (s.steered_aim x).trans (Sc.aimAt_share (hon.trans hassist) hsteers hslow hfast hm)
  · exact (s.steered_bias x).trans (if_pos (by simp [State.rearLive, hs2, hs3]))
  · refine (s.steered_bias x).trans (if_neg ?_)
    simpa [State.rearLive, imp_iff_not_or] using hrear

end Sys2Proof.Proofs.Steering

namespace Sys2Proof

/-! ### A sample's readings (R163) -/

variable (x : PayloadPorts)

theorem PayloadPorts.void_eq :
    x.void = !(x.struts.s0.healthy && x.struts.s1.healthy && x.struts.s2.healthy && x.struts.s3.healthy) := by
  simp [PayloadPorts.void, PerStation.toList, Bool.or_assoc]

theorem PayloadPorts.held_void : x.held.void = x.void := rfl

end Sys2Proof

namespace Sys2Proof.Machine
open Sys2Proof

/-! ### The payload classes (R167) -/

/-- R167: the five bands of a mean against the rated payload, and the class of each. -/
theorem payloadClass_band (rated m : Nat) :
    (m * 10 < rated ∧ payloadClass rated m = .empty) ∨
    (rated ≤ m * 10 ∧ m ≤ rated ∧ payloadClass rated m = .carry) ∨
    (rated < m ∧ m * 10 ≤ rated * 11 ∧ payloadClass rated m = .over10) ∨
    (rated * 11 < m * 10 ∧ m * 10 ≤ rated * 12 ∧ payloadClass rated m = .over20) ∨
    (rated * 12 < m * 10 ∧ payloadClass rated m = .overmax) := by
  unfold payloadClass
  by_cases hempty : m * 10 < rated
  · exact .inl ⟨hempty, if_pos hempty⟩
  by_cases hcarry : m ≤ rated
  · exact .inr (.inl ⟨not_lt.1 hempty, hcarry, by rw [if_neg hempty, if_pos hcarry]⟩)
  by_cases hten : m * 10 ≤ rated * 11
  · exact .inr (.inr (.inl ⟨not_le.1 hcarry, hten, by rw [if_neg hempty, if_neg hcarry, if_pos hten]⟩))
  rw [if_neg hempty, if_neg hcarry, if_neg hten]
  by_cases htwenty : m * 10 ≤ rated * 12
  · exact .inr (.inr (.inr (.inl ⟨not_le.1 hten, htwenty, if_pos htwenty⟩)))
  · exact .inr (.inr (.inr (.inr ⟨not_le.1 htwenty, if_neg htwenty⟩)))

theorem PayloadClass.over_eq (c : PayloadClass) : c.over = (c == .over10 || c == .over20 || c == .overmax) := by
  cases c <;> rfl

/-! ### The latch (R167, R168) -/

variable {s : State}

/-- R168: PM claims its keys one after the other. -/
theorem State.claimPayload_eq (s : State) :
    s.claimPayload = { s with
      ct := keyClaimed (keyClaimed s.ct .payloadSpeed s.pm.speedWanted s.pm.speedClaimed) .payloadPropel
        s.pm.propelWanted s.pm.propelClaimed
      pm := { s.pm with speedClaimed := s.pm.speedWanted, propelClaimed := s.pm.propelWanted } } := by
  rw [State.claimPayload, State.claimWanted_eq, State.claimWanted_eq]
  rfl

/-- R167: PM's record after the latch of a mean. -/
def Pm.latching (p : Pm) (mean : Nat) : Pm :=
  let m := min 1200 mean
  let cls := payloadClass p.rated m
  { (p.enter (if cls = .empty then .empty else .latched)).clearWindow with latched := some m, cls := some cls }

/-- R167: the state that a latch leaves. -/
theorem State.latch_eq (s : State) (mean : Nat) :
    let p := s.pm.latching mean
    let cls := payloadClass s.pm.rated (min 1200 mean)
    s.latch mean = { s with
      ct := keyClaimed (keyClaimed s.ct .payloadSpeed p.speedWanted s.pm.speedClaimed) .payloadPropel
        p.propelWanted s.pm.propelClaimed
      pm := { p with speedClaimed := p.speedWanted, propelClaimed := p.propelWanted, plCond := cls.over }
      sl := if cls = .empty then s.sl else { s.sl with notices := { s.sl.notices with payloadLatched := true } }
      handed := s.handed ++ told .pl s.pm.plCond cls.over ++ [.latchEvent] } := by
  intro p cls
  have hlatch : s.latch mean =
      let t := (s.withPm p).claimPayload
      let u := (t.withPm { t.pm with plCond := cls.over }).handCondition .pl s.pm.plCond cls.over
      (if p.state = .latched then u.notify .payloadLatched else u).hand .latchEvent := rfl
  rw [hlatch]
  simp only [State.claimPayload_eq, State.handCondition_eq]
  by_cases hempty : cls = .empty
  · have hstate : p.state = .empty := if_pos hempty
    rw [if_neg (by simp [hstate]), if_pos hempty]
    rfl
  · have hstate : p.state = .latched := if_neg hempty
    rw [if_pos hstate, if_neg hempty]
    rfl

/-- R167, R168: the latch of a mean, whole. -/
theorem State.latch_latchedFrom (s : State) (mean : Nat) : latchedFrom s (s.latch mean) mean := by
  have hwant := payloadWanted_eq (s.pm.latching mean)
  rw [State.latch_eq]
  unfold latchedFrom
  intro m cls heavy want
  have hspeed : (s.pm.latching mean).speedWanted = want.1 := (congrArg Prod.fst hwant).symm
  have hpropel : (s.pm.latching mean).propelWanted = want.2 := (congrArg Prod.snd hwant).symm
  have hover : cls.over = heavy := PayloadClass.over_eq cls
  rw [hspeed, hpropel]
  refine ⟨rfl, rfl, rfl, rfl, rfl, rfl, rfl, rfl, hover, rfl, rfl, rfl, rfl, ?_, rfl⟩
  rw [← hover]
  rfl

/-- R167, R168: two records of PM that a latch of one mean judges, claims and tells alike. -/
structure Pm.LatchesAs (q p : Pm) : Prop where
  rated : q.rated = p.rated
  over10Speed : q.over10Speed = p.over10Speed
  plMasked : q.plMasked = p.plMasked
  plCond : q.plCond = p.plCond
  speedClaimed : q.speedClaimed = p.speedClaimed
  propelClaimed : q.propelClaimed = p.propelClaimed

/-- R167: a latch from a record that latches as that of `s` does. -/
theorem State.latch_withPm {q : Pm} (h : q.LatchesAs s.pm) (mean : Nat) :
    latchedFrom s ((s.withPm q).latch mean) mean := by
  have hlatch := State.latch_latchedFrom (s.withPm q) mean
  simp only [latchedFrom, State.withPm_pm, h.rated, h.over10Speed, h.plMasked, h.plCond, h.speedClaimed,
    h.propelClaimed] at hlatch ⊢
  exact hlatch

/-! ### The metre events (R166) -/

/-- R166: a metre that PM does not count. -/
theorem exec_windowMetre_other {dir : Travel} (h : s.pm.state ≠ .measuring ∨ dir = .reverse ∨ 100 ≤ s.pm.winMetres) :
    exec (.windowMetre dir) s = .next s := by
  refine congrArg Host.Outcome.next (if_neg ?_)
  rcases h with hstate | rfl | hfull
  · simp [hstate]
  · simp
  · simp [hfull]

/-- R166: a forward metre in MEASURING with the window open. -/
theorem exec_windowMetre_counts (hstate : s.pm.state = .measuring) (hopen : s.pm.winMetres < 100) :
    exec (.windowMetre .forward) s = .next
      (let t := s.withPm { s.pm with winMetres := s.pm.winMetres + 1 }
      if s.pm.winMetres + 1 = 100 ∧ 20 ≤ s.pm.winCount then t.latch (s.pm.winSum / s.pm.winCount) else t) := by
  refine congrArg Host.Outcome.next ((if_pos (by simp [hstate, hopen])).trans ?_)
  simp only [Bool.and_eq_true, decide_eq_true_eq]

end Sys2Proof.Machine

namespace Sys2Proof.Proofs.PayloadSupervision
open Sys2Proof Sys2Proof.Machine

/-- Settles O55: the metres not counted, the counted ones short of a latch and the latch (`State.latch_withPm`); the classes
by their bands (`payloadClass_band`). -/
theorem windowMetresCloseTheWindow : Obligations.WindowMetresCloseTheWindow := by
  refine ⟨fun s dir => ⟨exec_windowMetre_other, fun hstate hopen hshort => ?_, fun hstate hlast hmany => ?_⟩,
    fun rated m => ?_⟩
  · rw [exec_windowMetre_counts hstate hopen, if_neg (by omega)]
    rfl
  · refine ⟨_, exec_windowMetre_counts hstate (by omega), ?_⟩
    rw [if_pos ⟨by omega, hmany⟩]
    exact State.latch_withPm ⟨rfl, rfl, rfl, rfl, rfl, rfl⟩ _
  · rcases payloadClass_band rated m with ⟨_, h⟩ | ⟨_, _, h⟩ | ⟨_, _, h⟩ | ⟨_, _, h⟩ | ⟨_, h⟩ <;>
      · simp only [h, reduceCtorEq, false_iff, true_iff]
        omega

end Sys2Proof.Proofs.PayloadSupervision

namespace Sys2Proof.Machine
open Sys2Proof

/-! ### A sample's counts (R163, R166) -/

section Counts
variable (p : Pm)

/-- R163: the strut sum less the sprung mass, held to 1200. -/
theorem Pm.weigh_held (x : PayloadPorts) :
    p.weigh x.held = min 1200 (min 300 x.struts.s0.load + min 300 x.struts.s1.load + min 300 x.struts.s2.load
      + min 300 x.struts.s3.load - p.sprung) := by
  have htotal : (x.held.struts.toList.map Strut.load).sum = min 300 x.struts.s0.load + min 300 x.struts.s1.load
      + min 300 x.struts.s2.load + min 300 x.struts.s3.load := by
    simp [PayloadPorts.held, PerStation.toList, PerStation.of, PerStation.get, Nat.add_assoc]
  rw [Pm.weigh, htotal, hold]
  omega

theorem Pm.read_eq (x : PayloadPorts) :
    p.read x = { p with
      live := if x.void then p.live else p.weigh x
      liveClass := if x.void then p.liveClass else payloadClass p.rated (if x.void then p.live else p.weigh x)
      struts := x.struts, body := x.body } := by
  unfold Pm.read
  cases x.void <;> rfl

theorem Pm.gather_eq (still : Bool) :
    p.gather still = { p with
      stillSum := if p.gathersStill && still then p.stillSum + p.live else 0
      stillCount := if p.gathersStill && still then p.stillCount + 1 else 0 } := by
  unfold Pm.gather
  cases p.gathersStill && still <;> rfl

theorem Pm.addWindow_eq (moving : Bool) :
    p.addWindow moving = { p with
      winSum := if p.state == .measuring && moving then min (p.winSum + p.live) 4294967295 else p.winSum
      winCount := if p.state == .measuring && moving then min (p.winCount + 1) 65535 else p.winCount } := by
  have hstate : decide (p.state = .measuring) = (p.state == .measuring) := by rw [beq_eq_decide]
  unfold Pm.addWindow
  rw [hstate]
  cases p.state == .measuring && moving <;> rfl

theorem Pm.gathersStill_eq :
    p.gathersStill = (p.state == .unknown || p.state == .empty || p.state == .latched
      || (p.state == .measuring && p.winMetres == 100)) := by
  unfold Pm.gathersStill
  cases p.state <;> rfl

/-- R163, R166: PM's record once a sample has been read and counted. -/
def Pm.sampled (p : Pm) (x : PayloadPorts) (speed : Nat) : Pm :=
  ((p.read x.held).gather (x.held.still speed)).addWindow (x.held.moving speed)

theorem Pm.sampled_eq (x : PayloadPorts) (speed : Nat) :
    let live := if x.void then p.live else p.weigh x.held
    let gathers := p.gathersStill && x.held.still speed
    let counts := p.state == .measuring && x.held.moving speed
    p.sampled x speed = { p with
      live := live, liveClass := if x.void then p.liveClass else payloadClass p.rated live
      struts := x.held.struts, body := x.body
      stillSum := if gathers then p.stillSum + live else 0
      stillCount := if gathers then p.stillCount + 1 else 0
      winSum := if counts then min (p.winSum + live) 4294967295 else p.winSum
      winCount := if counts then min (p.winCount + 1) 65535 else p.winCount } := by
  rw [Pm.sampled, Pm.addWindow_eq, Pm.gather_eq, Pm.read_eq, PayloadPorts.held_void]
  rfl

theorem Pm.sampled_latchesAs (x : PayloadPorts) (speed : Nat) : (p.sampled x speed).LatchesAs p := by
  rw [Pm.sampled_eq]
  exact ⟨rfl, rfl, rfl, rfl, rfl, rfl⟩

end Counts

theorem exec_payloadSample (s : State) (x : PayloadPorts) :
    exec (.payloadSample x) s = .next ((s.withPm (s.pm.sampled x s.ta.speed)).sampleWork x.body) := rfl

/-! ### The completed still run (R165) -/

/-- R165: the latch stands against the mean `m` of a still run. -/
def Pm.keepsLatch (p : Pm) (m : Nat) : Prop :=
  (p.state = .empty ∨ p.state = .latched) ∧ (∀ l, p.latched = some l → gap m l < 3) ∧
  p.cls = some (payloadClass p.rated m)

/-- R165: the still run set to 0. -/
def Pm.restart (p : Pm) : Pm := { p with stillSum := 0, stillCount := 0 }

/-- R165: the end of a still run changes nothing that a latch works by. -/
theorem Pm.LatchesAs.restart {p q : Pm} (h : q.LatchesAs p) : q.restart.LatchesAs p := { h with }

section StillRun
variable {s : State} {m : Nat}

/-- R165: in EMPTY and LATCHED a still run latches unless its mean lies within 3 t, and in the class, of the payload
latched. -/
theorem State.stillRun_judged (h : s.pm.state = .empty ∨ s.pm.state = .latched) :
    s.stillRun m =
      if s.pm.latched.any (fun l => decide (3 ≤ gap m l)) || s.pm.cls != some (payloadClass s.pm.rated m) then
        (s.withPm s.pm.restart).latch m
      else s.withPm s.pm.restart := by
  unfold State.stillRun
  rcases h with h | h <;> rw [h] <;> rfl

/-- R165, R166: in UNKNOWN and MEASURING every still run latches. -/
theorem State.stillRun_unjudged (h : s.pm.state = .unknown ∨ s.pm.state = .measuring) :
    s.stillRun m = (s.withPm s.pm.restart).latch m := by
  unfold State.stillRun
  rcases h with h | h <;> rw [h] <;> rfl

theorem Pm.keepsLatch_iff {p : Pm} (h : p.state = .empty ∨ p.state = .latched) :
    p.keepsLatch m ↔
      ¬(p.latched.any (fun l => decide (3 ≤ gap m l)) || p.cls != some (payloadClass p.rated m)) = true := by
  rw [Pm.keepsLatch, and_iff_right h]
  cases p.latched <;> simp

theorem State.stillRun_keeps (h : s.pm.keepsLatch m) : s.stillRun m = s.withPm s.pm.restart := by
  obtain ⟨hstate, -, -⟩ := id h
  rw [State.stillRun_judged hstate, if_neg ((Pm.keepsLatch_iff hstate).1 h)]

theorem State.stillRun_latches (hgathers : s.pm.gathersStill = true) (h : ¬ s.pm.keepsLatch m) :
    s.stillRun m = (s.withPm s.pm.restart).latch m := by
  have hjudged (hstate : s.pm.state = .empty ∨ s.pm.state = .latched) :
      s.stillRun m = (s.withPm s.pm.restart).latch m := by
    rw [State.stillRun_judged hstate, if_pos (not_not.1 (mt (Pm.keepsLatch_iff hstate).2 h))]
  cases hstate : s.pm.state with
  | empty => exact hjudged (.inl hstate)
  | latched => exact hjudged (.inr hstate)
  | unknown => exact State.stillRun_unjudged (.inl hstate)
  | measuring => exact State.stillRun_unjudged (.inr hstate)
  | loading | dumping => simp [Pm.gathersStill, hstate] at hgathers

end StillRun

/-! ### The state work of a sample (R163 to R166) -/

section Work
variable {s : State} {body : Body}

theorem State.sampleWork_run (h : s.pm.stillCount = 40) : s.sampleWork body = s.stillRun (s.pm.stillSum / 40) :=
  if_pos h

/-- R166: a full window of 20 samples is latched. -/
theorem State.sampleWork_closes (hrun : s.pm.stillCount ≠ 40) (hstate : s.pm.state = .measuring)
    (hmetres : s.pm.winMetres = 100) (hmany : 20 ≤ s.pm.winCount) :
    s.sampleWork body = s.latch (s.pm.winSum / s.pm.winCount) :=
  (if_neg hrun).trans (if_pos (by simp [hstate, hmetres, hmany]))

/-- R164: a released dump ends with the body down. -/
theorem State.sampleWork_releases (hrun : s.pm.stillCount ≠ 40) (hstate : s.pm.state = .dumping)
    (hrelease : s.pm.dumpRelease = true) :
    s.sampleWork .down = s.withPm { s.pm.enter .unknown with dumpRelease := false } :=
  (if_neg hrun).trans ((if_neg (by simp [hstate])).trans (if_pos (by simp [hstate, hrelease])))

theorem State.sampleWork_stands (hrun : s.pm.stillCount ≠ 40)
    (hopen : ¬(s.pm.state = .measuring ∧ s.pm.winMetres = 100 ∧ 20 ≤ s.pm.winCount))
    (hheld : ¬(s.pm.state = .dumping ∧ s.pm.dumpRelease = true ∧ body = .down)) : s.sampleWork body = s :=
  (if_neg hrun).trans ((if_neg (by simpa [and_assoc] using hopen)).trans
    (if_neg (by simpa [and_assoc] using hheld)))

end Work

/-- R163: what a sample reads. -/
def Pm.readings (p : Pm) : Nat × PayloadClass × Body × PerStation Strut := (p.live, p.liveClass, p.body, p.struts)

theorem State.latch_readings (s : State) (mean : Nat) : (s.latch mean).pm.readings = s.pm.readings := by
  rw [State.latch_eq]
  rfl

/-- R165: a still run is latched, or ends alone. -/
theorem State.stillRun_cases (s : State) (m : Nat) :
    s.stillRun m = (s.withPm s.pm.restart).latch m ∨ s.stillRun m = s.withPm s.pm.restart := by
  have hjudged (hstate : s.pm.state = .empty ∨ s.pm.state = .latched) :
      s.stillRun m = (s.withPm s.pm.restart).latch m ∨ s.stillRun m = s.withPm s.pm.restart := by
    rw [State.stillRun_judged hstate]
    split
    · exact .inl rfl
    · exact .inr rfl
  cases hstate : s.pm.state with
  | empty => exact hjudged (.inl hstate)
  | latched => exact hjudged (.inr hstate)
  | unknown => exact .inl (State.stillRun_unjudged (.inl hstate))
  | measuring => exact .inl (State.stillRun_unjudged (.inr hstate))
  | loading | dumping =>
    right
    unfold State.stillRun
    rw [hstate]
    rfl

theorem State.stillRun_readings (s : State) (m : Nat) : (s.stillRun m).pm.readings = s.pm.readings := by
  rcases s.stillRun_cases m with h | h
  · rw [h, State.latch_readings]
    rfl
  · rw [h]
    rfl

/-- R163: no work of a sample changes what the sample has read. -/
theorem State.sampleWork_readings (s : State) (body : Body) : (s.sampleWork body).pm.readings = s.pm.readings := by
  unfold State.sampleWork
  dsimp only
  split
  · exact s.stillRun_readings _
  · split
    · exact s.latch_readings _
    · split <;> rfl

end Sys2Proof.Machine

namespace Sys2Proof.Proofs.PayloadSupervision
open Sys2Proof Sys2Proof.Machine

/-- Settles O54: PM's record once the sample is read and counted, and the work that it leads to, case by case
(`State.stillRun_latches`, `State.stillRun_keeps`, `State.sampleWork_closes`, `State.sampleWork_releases`,
`State.sampleWork_stands`). -/
theorem payloadSampleWeighsAndLatches : Obligations.PayloadSampleWeighsAndLatches := by
  intro s x p void load live still moving gathers stillSum stillCount counts winSum winCount mean read keeps closed released
  have hvoid : x.void = void := x.void_eq
  have hlive : (if void then p.live else p.weigh x.held) = live := congrArg (ite _ _) (p.weigh_held x)
  have hstill : x.held.still s.ta.speed = still := by
    rw [PayloadPorts.still, x.held_void, hvoid]
    rfl
  have hmoving : x.held.moving s.ta.speed = moving := by
    rw [PayloadPorts.moving, x.held_void, hvoid]
    rfl
  have hgathers : (p.gathersStill && still) = gathers := by rw [Pm.gathersStill_eq, Bool.and_comm]
  have hread : p.sampled x s.ta.speed = read := by
    rw [Pm.sampled_eq, hvoid, hlive, hstill, hmoving, hgathers]
    rfl
  have hlatches : read.LatchesAs s.pm := hread ▸ p.sampled_latchesAs x s.ta.speed
  have hreadings := (s.withPm read).sampleWork_readings x.body
  simp only [Pm.readings, Prod.mk.injEq] at hreadings
  obtain ⟨hload, hclass, hbody, hstruts⟩ := hreadings
  refine ⟨(s.withPm read).sampleWork x.body, ?_, hload, hclass, hbody, hstruts, fun hrun hfails => ?_,
    fun hrun hkeeps => ?_, fun hrun hclosed => ?_, fun hrun hreleased => ?_, fun hrun hopen hheld => ?_⟩
  · rw [exec_payloadSample, hread]
  · have hgather : gathers = true := by
      by_contra hnone
      simp [stillCount, hnone] at hrun
    have hstate : read.gathersStill = true := by
      rw [← hgathers, Bool.and_eq_true] at hgather
      exact hgather.1
    have hlatch : (s.withPm read).sampleWork x.body = ((s.withPm read).withPm read.restart).latch mean :=
      (State.sampleWork_run (s := s.withPm read) hrun).trans
        (State.stillRun_latches (s := s.withPm read) hstate hfails)
    rw [hlatch]
    exact State.latch_withPm hlatches.restart _
  · exact (State.sampleWork_run (s := s.withPm read) hrun).trans (State.stillRun_keeps (s := s.withPm read) hkeeps)
  · obtain ⟨hstate, hmetres, hmany⟩ := hclosed
    rw [State.sampleWork_closes (s := s.withPm read) hrun hstate hmetres hmany]
    exact State.latch_withPm hlatches _
  · obtain ⟨hstate, hrelease, hdown⟩ := hreleased
    rw [hdown]
    exact State.sampleWork_releases (s := s.withPm read) hrun hstate hrelease
  · exact State.sampleWork_stands (s := s.withPm read) hrun hopen hheld

end Sys2Proof.Proofs.PayloadSupervision

namespace Sys2Proof

theorem Station.mem_all (n : Station) : n ∈ Station.all := by cases n <;> decide

theorem PerStation.ext_get {α : Type} {p q : PerStation α} (h : ∀ n, p.get n = q.get n) : p = q := by
  cases p
  cases q
  exact congr (congr (congr (congrArg PerStation.mk (h .s0)) (h .s1)) (h .s2)) (h .s3)

theorem PerStation.mem_toList {α : Type} {p : PerStation α} {x : α} : x ∈ p.toList ↔ ∃ n, p.get n = x := by
  constructor
  · intro h
    simp only [PerStation.toList, List.mem_cons, List.not_mem_nil, or_false] at h
    rcases h with rfl | rfl | rfl | rfl
    exacts [⟨.s0, rfl⟩, ⟨.s1, rfl⟩, ⟨.s2, rfl⟩, ⟨.s3, rfl⟩]
  · rintro ⟨n, rfl⟩
    cases n <;> simp [PerStation.toList, PerStation.get]

end Sys2Proof

namespace Sys2Proof.Machine
open Sys2Proof

/-! ### The lines (R185, R199) -/

theorem NoticeSet.any_iff (x : NoticeSet) : x.any = true ↔ x ≠ NoticeSet.none := by
  refine ⟨?_, fun hsome => Bool.not_eq_false _ ▸ fun hany => hsome ?_⟩
  · rintro hany rfl
    exact absurd hany (by decide)
  · cases x
    simpa [NoticeSet.any, NoticeSet.none, and_assoc] using hany

theorem State.anyTripped_iff (s : State) : s.pu.anyTripped = true ↔ ∃ n, (s.puStation n).copy = .tripped := by
  simp [Pu.anyTripped, PerStation.mem_toList, State.puStation]

theorem State.faultLine_iff (s : State) :
    s.faultLine = true ↔ (∃ n, (s.puStation n).copy = .tripped) ∨ s.pu.level ≠ .normal := by
  rw [State.faultLine, Bool.or_eq_true, State.anyTripped_iff, bne_iff_ne]

theorem State.attn_iff (s : State) :
    s.attn = true ↔
      s.sl.notices ≠ NoticeSet.none ∨ (∃ n, (s.puStation n).copy = .tripped) ∨ s.pu.level ≠ .normal := by
  rw [State.attn, Bool.or_eq_true, Bool.or_eq_true, or_assoc, NoticeSet.any_iff, State.anyTripped_iff, bne_iff_ne]

end Sys2Proof.Machine

namespace Sys2Proof.Proofs.Protection
open Sys2Proof Sys2Proof.Machine

/-- Settles O14: `State.faultLine_iff` for the FAULT line and `State.attn_iff` for ATTN. -/
theorem linesFollowTripsLevelAndNotices : Obligations.LinesFollowTripsLevelAndNotices :=
  fun s => ⟨s.faultLine_iff, s.attn_iff⟩

end Sys2Proof.Proofs.Protection

namespace Sys2Proof.Machine
open Sys2Proof

/-! ### Speed ceilings that claims on torque keys leave (R5, R6, R17) -/

/-- What the elements of a list give by position stands when the one that changes gave nothing and gives nothing. -/
theorem filterMap_zipIdx_set {α β : Type} {f : α × Nat → Option β} {x y : α} {t : List α} {i : Nat} (hi : t[i]? = some y)
    (hy : f (y, i) = none) (hx : f (x, i) = none) : (t.set i x).zipIdx.filterMap f = t.zipIdx.filterMap f := by
  obtain ⟨pre, post, rfl, rfl⟩ : ∃ pre post, t = pre ++ y :: post ∧ pre.length = i := by
    obtain ⟨hlt, rfl⟩ := List.getElem?_eq_some_iff.1 hi
    exact ⟨t.take i, t.drop (i + 1), by simp, by simp [hlt.le]⟩
  simp [List.zipIdx_append, hx, hy]

/-- A slot that holds no SPEED record. -/
def Slot.speedless (x : Slot) : Prop := ∀ r, x.entry.held = some r → r.limitsSpeed = false

theorem Slot.speedless_iff {x : Slot} {i : Nat} :
    x.speedless ↔ entryMatching CeilingRecord.limitsSpeed (x, i) = none := by
  simp [Slot.speedless, entryMatching]

theorem CeilingRecord.limitsSpeed_of_limit {r : CeilingRecord} (h : r.limit ≠ .speed) : r.limitsSpeed = false := by
  unfold CeilingRecord.limitsSpeed
  cases hl : r.limit with
  | speed => exact absurd hl h
  | torque _ _ => rfl

theorem Slot.speedless_free (g : Nat) : Slot.speedless ⟨g, .free⟩ := by
  rintro _ ⟨⟩

theorem Slot.speedless_live {g : Nat} {r : CeilingRecord} (h : r.limit ≠ .speed) : Slot.speedless ⟨g, .live r⟩ := by
  rintro _ ⟨⟩
  exact CeilingRecord.limitsSpeed_of_limit h

/-- R6: a record of a key is of the key's kind. -/
theorem Slot.speedless_of_heldBy {x : Slot} {k : Key} (hx : x.legal) (hk : keyLimit k ≠ .speed)
    (hholder : ∀ h, x.heldBy h = true → h = .internal k) : x.speedless := fun r hr => by
  obtain ⟨-, hrecord⟩ := (Slot.legal_iff x).1 hx
  obtain ⟨-, -, -, hkeyed, -⟩ := hrecord r hr
  obtain ⟨hlimit, -⟩ := hkeyed k (hholder _ (Slot.heldBy_iff.2 ⟨r, hr, rfl⟩))
  exact CeilingRecord.limitsSpeed_of_limit (hlimit ▸ hk)

theorem speedCeiling_set {t : List Slot} {i : Nat} {x y : Slot} (hi : t[i]? = some y) (hy : y.speedless)
    (hx : x.speedless) : speedCeiling (t.set i x) = speedCeiling t := by
  rw [speedCeiling, speedCeiling, matching_eq, matching_eq,
    filterMap_zipIdx_set hi (Slot.speedless_iff.1 hy) (Slot.speedless_iff.1 hx)]

theorem speedCeiling_claimSet {t : List Slot} (ht : tableLegal t) {k : Key} (hk : keyLimit k ≠ .speed) (v : Int)
    (ramp : Option Nat) (expiry : Option Expiry) : speedCeiling (claimSet t k v ramp expiry) = speedCeiling t := by
  rcases claimSet_cases t k v ramp expiry with ⟨-, h⟩ | ⟨i, x, r, hi, hx, hr, h⟩
  · rw [h]
    rcases placeRecord_cases t (claimedRecord k v ramp expiry) with hp | ⟨i, g, hi, hp⟩ <;> rw [hp]
    exact speedCeiling_set hi (Slot.speedless_free g) (Slot.speedless_live hk)
  · have hwas : x.speedless := Slot.speedless_of_heldBy (Slot.legal_of_getElem? ht hi) hk fun _ hh =>
      Slot.heldBy_unique hh (Slot.heldBy_iff.2 ⟨r, hx, hr⟩)
    have hlegal := claimSet_legal ht k v ramp expiry
    rw [h] at hlegal ⊢
    have hnew : (t.set i ⟨x.gen, .live (r.reclaimed k v ramp expiry)⟩)[i]? =
        some ⟨x.gen, .live (r.reclaimed k v ramp expiry)⟩ := by
      simp [(List.getElem?_eq_some_iff.1 hi).1]
    refine speedCeiling_set hi hwas (Slot.speedless_of_heldBy (Slot.legal_of_getElem? hlegal hnew) hk fun h hh => ?_)
    rw [Slot.heldBy_live, beq_iff_eq, CeilingRecord.reclaimed_holder, hr] at hh
    exact hh.symm

theorem speedCeiling_claimRetire {t : List Slot} (ht : tableLegal t) {k : Key} (hk : keyLimit k ≠ .speed)
    (ramp : Option Nat) : speedCeiling (claimRetire t k ramp) = speedCeiling t := by
  rcases claimRetire_cases t k ramp with h | ⟨i, x, hi, hx, h⟩ <;> rw [h]
  have hlegal := Slot.legal_of_getElem? ht hi
  have hkey : ∀ h, x.heldBy h = true → h = .internal k := fun h hh =>
    Slot.heldBy_unique hh (x.holdsKey_eq_heldBy k ▸ hx)
  exact speedCeiling_set hi (Slot.speedless_of_heldBy hlegal hk hkey)
    (Slot.speedless_of_heldBy (Slot.retireWith_legal ramp hlegal) hk fun h hh => hkey h (Slot.retireWith_heldBy hh))

end Sys2Proof.Machine
namespace Sys2Proof.Machine
open Sys2Proof

/-! ### A station judged (R173, R179) -/

/-- The link with STATION_TRIP raised, naming the station, when one of these claims is sent as tripping. -/
def Sl.tripped (l : Sl) (n : Station) (claims : List (StationClass × Bool)) : Sl :=
  if claims.any fun c => c.2 then
    { l with notices := { l.notices with stationTrip := true }, tripSet := l.tripSet.set n true } else l

/-- PU has judged station `n`: the table is `t`, its record of the station `p`, and these raise claims are sent. -/
def State.judgedTo (s : State) (n : Station) (t : List Slot) (p : PuStation) (claims : List (StationClass × Bool)) :
    State :=
  { s with
    ct := t, pu := { s.pu with stations := s.pu.stations.set n p }, sl := s.sl.tripped n claims
    handed := s.handed ++ claims.map fun c => .raiseClaim n c.1 c.2 }

section
variable (s : State) (n : Station) (t : List Slot) (p q : PuStation) (claims : List (StationClass × Bool))

theorem State.judgedTo_self : s.judgedTo n s.ct (s.puStation n) [] = s := by
  rw [State.judgedTo, State.puStation, PerStation.set_get, List.map_nil, List.append_nil]
  rfl

@[simp] theorem State.setPuStation_puStation : (s.setPuStation n p).puStation n = p := PerStation.get_set_same ..

@[simp] theorem State.judgedTo_puStation : (s.judgedTo n t p claims).puStation n = p := PerStation.get_set_same ..

theorem State.judgedTo_eq {u : State}
    (hframe : u = { s with ct := u.ct, pu := { s.pu with stations := u.pu.stations }, sl := u.sl, handed := u.handed })
    (hct : t = u.ct) (hstations : s.pu.stations.set n p = u.pu.stations) (hsl : s.sl.tripped n claims = u.sl)
    (hhanded : (s.handed ++ claims.map fun c => .raiseClaim n c.1 c.2) = u.handed) : s.judgedTo n t p claims = u := by
  rw [hframe, State.judgedTo, hct, hstations, hsl, hhanded]

theorem State.setPuStation_judgedTo : (s.setPuStation n q).judgedTo n t p claims = s.judgedTo n t p claims := by
  rw [State.judgedTo, State.judgedTo, State.setPuStation, State.withPu_pu, PerStation.set_set]
  rfl

@[simp] theorem State.judgedTo_setPuStation :
    (s.judgedTo n t p claims).setPuStation n q = s.judgedTo n t q claims := by
  rw [State.setPuStation, State.judgedTo, State.judgedTo, PerStation.set_set]
  rfl

@[simp] theorem State.judgedTo_claim (k : Key) (v : Int) (ramp : Option Nat) (expiry : Option Expiry) :
    (s.judgedTo n t p claims).claim k v ramp expiry = s.judgedTo n (claimSet t k v ramp expiry) p claims := rfl

@[simp] theorem State.judgedTo_release (k : Key) (ramp : Option Nat) :
    (s.judgedTo n t p claims).release k ramp = s.judgedTo n (claimRetire t k ramp) p claims := rfl

@[simp] theorem State.judgedTo_markStation (c : StationClass) (holds : Bool) :
    (s.judgedTo n t p claims).markStation n c holds =
      s.judgedTo n t { p with conds := p.conds.put c holds } claims := by
  rw [State.markStation, State.judgedTo_setPuStation, State.judgedTo_puStation]

theorem Sl.tripped_snoc (l : Sl) (c : StationClass) (trips : Bool) :
    l.tripped n (claims ++ [(c, trips)]) = if trips then (l.tripped n claims).tripped n [(c, true)] else l.tripped n claims := by
  unfold Sl.tripped
  cases trips <;> cases h : claims.any fun c => c.2 <;> simp [h, PerStation.set_set]

theorem Sl.tripped_raised (l : Sl) (c : StationClass) (raised trips : Bool) :
    l.tripped n (if raised then [(c, trips)] else []) =
      { l with
        notices := { l.notices with stationTrip := l.notices.stationTrip || raised && trips }
        tripSet := if raised && trips then l.tripSet.set n true else l.tripSet } := by
  cases raised <;> cases trips <;> simp [Sl.tripped]

theorem State.judgedTo_sendRaise (c : StationClass) (trips : Bool) :
    (s.judgedTo n t p claims).sendRaise n c trips = s.judgedTo n t p (claims ++ [(c, trips)]) := by
  rw [State.judgedTo, State.judgedTo, Sl.tripped_snoc, List.map_append, ← List.append_assoc]
  cases trips <;> rfl

theorem State.sendRaise_eq (c : StationClass) (trips : Bool) :
    s.sendRaise n c trips = s.judgedTo n s.ct (s.puStation n) [(c, trips)] := by
  conv_lhs => rw [← s.judgedTo_self n]
  exact State.judgedTo_sendRaise ..

end

/-! ### One station's slip at a pass arrival (R178, R179) -/

/-- R178: the counts at a mark; a station that PU holds ABSENT or PARKED does not slip (log 22). -/
theorem PuStation.count_eq (p : PuStation) (mark : Option Bool) :
    let slips := mark == some true && p.copy != .absent && p.copy != .parked
    p.count mark = { p with
      slipCount := if slips then min 3 (p.slipCount + 1) else 0
      clearCount := if slips then 0 else min 10 (p.clearCount + 1) } := by
  intro slips
  have hslips : (decide (mark = some true) && StationState.slipJudged p.copy) = slips := by
    simp only [slips, Bool.and_assoc, beq_eq_decide]
    exact congrArg (decide _ && ·) (by cases p.copy <;> rfl)
  unfold PuStation.count
  rw [hslips]
  cases slips <;> rfl

/-- R178: SL begins by these counts. -/
def PuStation.slipBegins (p : PuStation) : Bool := p.slipCount == 3 && !p.conds.sl

/-- R178: SL ends by these counts. -/
def PuStation.slipEnds (p : PuStation) : Bool := p.clearCount == 10 && p.conds.sl

/-- R178: the record with SL begun or ended by its counts. -/
def PuStation.slipTurned (p : PuStation) : PuStation :=
  { p with
    conds := { p.conds with sl := (p.conds.sl || p.slipBegins) && !p.slipEnds }
    slClaimed := (p.slClaimed || p.slipBegins) && !p.slipEnds }

/-- R178: the claim on the SL key of a station with these counts. -/
def PuStation.slipClaimed (p : PuStation) (n : Station) (t : List Slot) : List Slot :=
  if p.slipBegins then claimSet t (.sl n) 300 (some 20) none else if p.slipEnds then claimRetire t (.sl n) none else t

/-- R179: a raise claim of SL for this station trips, by PU's copy of its state. -/
def State.slipTrips (s : State) (n : Station) : Bool :=
  (s.puStation n).copy.tripsHere && !(s.station n).settings.mask.sl

/-- R179: of SL, the station's own mask set is that of its live context, since a PARKED station never trips. -/
theorem State.tripsFor_sl (s : State) (n : Station) : s.tripsFor n (s.puStation n).copy .sl = s.slipTrips n := by
  unfold State.tripsFor State.slipTrips State.ownSettings
  split
  · next hparked => rw [hparked]; rfl
  · rfl

/-- R178, R179: SL begins, ends or stands by the counts. -/
theorem State.judgeSlip_eq (s : State) (n : Station) :
    let p := s.puStation n
    s.judgeSlip n = s.judgedTo n (p.slipClaimed n s.ct) p.slipTurned
      (if p.slipBegins then [(.sl, s.slipTrips n)] else []) := by
  intro p
  have hturn : s.judgeSlip n =
      if p.slipBegins then
        ((s.setPuStation n { p with conds := p.conds.put .sl true, slClaimed := true }).sendRaise n .sl
          (s.slipTrips n)).claim (.sl n) 300 (some 20) none
      else if p.slipEnds then
        (s.setPuStation n { p with conds := p.conds.put .sl false, slClaimed := false }).release (.sl n) none
      else s := by
    rw [← State.tripsFor_sl]
    rfl
  have hstart : p.slipBegins = true → p.slipEnds = false := by
    simp +contextual [PuStation.slipBegins, PuStation.slipEnds]
  rw [hturn]
  unfold PuStation.slipTurned PuStation.slipClaimed
  cases hs : p.slipBegins with
  | true =>
    simp only [hstart hs, Bool.or_true, Bool.not_false, Bool.and_true, if_true]
    rw [State.sendRaise_eq, State.setPuStation_judgedTo, State.setPuStation_puStation]
    rfl
  | false =>
    cases he : p.slipEnds with
    | true =>
      simp only [Bool.or_false, Bool.not_true, Bool.and_false, if_true, Bool.false_eq_true, if_false]
      rw [← (s.setPuStation n _).judgedTo_self n, State.setPuStation_judgedTo, State.setPuStation_puStation]
      rfl
    | false =>
      simp only [Bool.or_false, Bool.not_false, Bool.and_true, Bool.false_eq_true, if_false]
      exact (s.judgedTo_self n).symm

/-- R178, R179: one station's slip work. -/
theorem State.slipWork_eq (s : State) (n : Station) (mark : Option Bool) (speed : Nat) :
    let p := (s.puStation n).count mark
    s.slipWork n mark speed = s.judgedTo n (p.slipClaimed n s.ct)
      { p.slipTurned with threshold := slipThreshold speed s.rs.surface (s.station n).settings.slip }
      (if p.slipBegins then [(.sl, s.slipTrips n)] else []) := by
  intro p
  have htrips : (s.setPuStation n p).slipTrips n = s.slipTrips n := by
    rw [State.slipTrips, State.setPuStation_puStation, PuStation.count_copy]
    rfl
  unfold State.slipWork
  rw [State.judgeSlip_eq, State.setPuStation_puStation, State.setPuStation_judgedTo, htrips]
  dsimp only
  rw [State.judgedTo_setPuStation, State.judgedTo_puStation]
  rfl

/-! ### The stations of a pass arrival in turn (R178; log 31) -/

section
variable (s : State) (marks : PerStation (Option Bool)) (speed : Nat)

/-- PU's record of a station with the counts of a pass arrival. -/
def State.slipCounted (n : Station) : PuStation := (s.puStation n).count (marks.get n)

/-- The state after the slip work of the stations in `l`. -/
def State.slipJudged (l : List Station) : State :=
  { s with
    ct := l.foldl (fun t n => (s.slipCounted marks n).slipClaimed n t) s.ct
    pu := { s.pu with
      stations := .of fun n =>
        if n ∈ l then
          { (s.slipCounted marks n).slipTurned with
            threshold := slipThreshold speed s.rs.surface (s.station n).settings.slip }
        else s.puStation n }
    sl := { s.sl with
      notices := { s.sl.notices with
        stationTrip := s.sl.notices.stationTrip || l.any fun n => (s.slipCounted marks n).slipBegins && s.slipTrips n }
      tripSet := .of fun n =>
        s.sl.tripSet.get n || decide (n ∈ l) && ((s.slipCounted marks n).slipBegins && s.slipTrips n) }
    handed := s.handed ++
      (l.filter fun n => (s.slipCounted marks n).slipBegins).map fun n => .raiseClaim n .sl (s.slipTrips n) }

theorem State.slipJudged_nil : s.slipJudged marks speed [] = s := by
  have hstations : s.pu.stations = .of fun n => s.puStation n := PerStation.ext_get fun n => by simp [State.puStation]
  have htrips : s.sl.tripSet = .of fun n => s.sl.tripSet.get n := PerStation.ext_get fun n => by simp
  simp [State.slipJudged, ← hstations, ← htrips]

theorem State.slipJudged_snoc {l : List Station} {n : Station} (hn : n ∉ l) :
    (s.slipJudged marks speed l).slipWork n (marks.get n) speed = s.slipJudged marks speed (l ++ [n]) := by
  have hp : (s.slipJudged marks speed l).puStation n = s.puStation n :=
    (PerStation.get_of _ n).trans (if_neg hn)
  have htrips : (s.slipJudged marks speed l).slipTrips n = s.slipTrips n := by
    rw [State.slipTrips, hp]
    rfl
  have hct : (s.slipCounted marks n).slipClaimed n (s.slipJudged marks speed l).ct =
      (s.slipJudged marks speed (l ++ [n])).ct := by
    simp [State.slipJudged]
  have hstations : (s.slipJudged marks speed l).pu.stations.set n
      { (s.slipCounted marks n).slipTurned with
        threshold := slipThreshold speed s.rs.surface (s.station n).settings.slip } =
      (s.slipJudged marks speed (l ++ [n])).pu.stations := PerStation.ext_get fun m => by
    rw [PerStation.get_set]
    by_cases hm : m = n
    · subst hm
      simp [State.slipJudged]
    · simp [State.slipJudged, hm]
  have hsl : (s.slipJudged marks speed l).sl.tripped n
      (if (s.slipCounted marks n).slipBegins then [(.sl, s.slipTrips n)] else []) =
      (s.slipJudged marks speed (l ++ [n])).sl := by
    have hset : (if (s.slipCounted marks n).slipBegins && s.slipTrips n then
        (s.slipJudged marks speed l).sl.tripSet.set n true else (s.slipJudged marks speed l).sl.tripSet) =
        (s.slipJudged marks speed (l ++ [n])).sl.tripSet := PerStation.ext_get fun m => by
      rw [apply_ite (PerStation.get · m), PerStation.get_set]
      by_cases hm : m = n
      · subst hm
        simp [State.slipJudged, hn, Bool.or_comm]
      · simp [State.slipJudged, hm]
    rw [Sl.tripped_raised, hset]
    simp [State.slipJudged, Bool.or_assoc]
  have hhanded : ((s.slipJudged marks speed l).handed ++
      (if (s.slipCounted marks n).slipBegins then [(StationClass.sl, s.slipTrips n)] else []).map
        fun c => .raiseClaim n c.1 c.2) = (s.slipJudged marks speed (l ++ [n])).handed := by
    cases hs : (s.slipCounted marks n).slipBegins <;> simp [State.slipJudged, hs]
  rw [State.slipWork_eq, hp, htrips]
  exact State.judgedTo_eq _ n _ _ _ rfl hct hstations hsl hhanded

theorem State.foldl_slipWork {l : List Station} (hl : l.Nodup) :
    l.foldl (fun t n => t.slipWork n (marks.get n) speed) s = s.slipJudged marks speed l := by
  induction l using List.reverseRecOn with
  | nil => exact (s.slipJudged_nil marks speed).symm
  | append_singleton l n ih =>
    rw [List.nodup_append] at hl
    obtain ⟨hl, -, hne⟩ := hl
    rw [List.foldl_append, ih hl]
    exact s.slipJudged_snoc marks speed fun hn => hne n hn n (List.mem_singleton_self n) rfl

end

end Sys2Proof.Machine
namespace Sys2Proof.Machine
open Sys2Proof

/-! ### Truck conditions and the response level (R173, R180, R182 to R184) -/

/-- R183: an escalation, when there is one. -/
theorem State.safeStop_if (s : State) (escalates : Bool) :
    let stops := escalates && s.pu.level == .normal
    (if escalates then s.safeStop else s) = { s with
      ct := if stops then claimSet s.ct .safe 0 none none else s.ct
      pu := { s.pu with level := if stops then .safeStop else s.pu.level, stopped := if stops then 0 else s.pu.stopped }
      sl := { s.sl with notices := { s.sl.notices with safeStop := s.sl.notices.safeStop || stops } } } := by
  cases escalates with
  | false => simp
  | true =>
    by_cases hlevel : s.pu.level = .normal
    · simp [State.safeStop_eq hlevel, hlevel]
    · have hother : (s.pu.level == .normal) = false := beq_false_of_ne hlevel
      simp [State.safeStop, hlevel, hother]

/-- R173, R180: what the begin of a truck class does. -/
theorem State.truckBegins_eq (s : State) (k : TruckClass) :
    let stops : Bool := k != .pl && !s.pu.masks.get k && s.pu.level == .normal
    s.truckBegins k = { s with
      ct := if stops then claimSet s.ct .safe 0 none none else s.ct
      pu := { s.pu with
        conds := s.pu.conds.put k true, flags := s.pu.flags.put k true
        level := if stops then .safeStop else s.pu.level, stopped := if stops then 0 else s.pu.stopped }
      sl := { s.sl with
        notices := { s.sl.notices with
          bankFailed := s.sl.notices.bankFailed || k == .gf
          routeFaulted := s.sl.notices.routeFaulted || k == .pr
          safeStop := s.sl.notices.safeStop || stops } } } := by
  intro stops
  have hescalate (u : State) (hmasks : u.pu.masks = s.pu.masks) (hlevel : u.pu.level = s.pu.level) :
      (if u.pu.masks.stops k then u.safeStop else u) = { u with
        ct := if stops then claimSet u.ct .safe 0 none none else u.ct
        pu := { u.pu with level := if stops then .safeStop else u.pu.level, stopped := if stops then 0 else u.pu.stopped }
        sl := { u.sl with notices := { u.sl.notices with safeStop := u.sl.notices.safeStop || stops } } } := by
    have hstops : (u.pu.masks.stops k && u.pu.level == .normal) = stops := by rw [hmasks, hlevel]; rfl
    rw [State.safeStop_if, hstops]
  clear_value stops
  unfold State.truckBegins
  cases k
  case gf | pr =>
    rw [hescalate]
    · simp [State.notify, State.withPu, State.withSl, NoticeSet.raise]
    · rfl
    · rfl
  all_goals
    rw [hescalate]
    · simp [State.withPu]
    · rfl
    · rfl

/-- R182: OS begins at a pass arrival of this speed. -/
def Pu.osBegins (p : Pu) (speed : Nat) : Bool :=
  p.osRef.any (fun r => decide (r + 30 < speed)) && decide (5 ≤ p.osCount + 1) && !p.conds.os

/-- R182, R183: OS begins and enters SAFE_STOP. -/
def Pu.osEnters (p : Pu) (speed : Nat) : Bool := p.osBegins speed && !p.masks.os && p.level == .normal

/-- R182: PU after the overspeed work of a pass arrival, under this effective speed ceiling. -/
def Pu.overspeed (p : Pu) (speed ceiling : Nat) : Pu :=
  { p with
    osCount := match p.osRef with
      | some r => if r + 30 < speed then min 5 (p.osCount + 1) else 0
      | none => 0
    conds := { p.conds with
      os := match p.osRef with
        | some r => if r + 30 < speed then p.conds.os || p.osBegins speed else false
        | none => p.conds.os }
    flags := { p.flags with os := p.flags.os || p.osBegins speed }
    osDemand := if p.osBegins speed then 1000 else if p.osDemand = 1000 ∧ speed ≤ ceiling then 0 else p.osDemand
    level := if p.osEnters speed then .safeStop else p.level
    stopped := if p.osEnters speed then 0 else p.stopped }

theorem State.dropDemand_eq (s : State) (speed : Nat) :
    s.dropDemand speed = s.withPu { s.pu with
      osDemand := if s.pu.osDemand = 1000 ∧ speed ≤ (speedCeiling s.ct).value then 0 else s.pu.osDemand } := by
  unfold State.dropDemand
  by_cases h : s.pu.osDemand = 1000 ∧ speed ≤ (speedCeiling s.ct).value
  · simp [h]
  · rw [if_neg (by simpa using h), if_neg h]
    rfl

theorem State.overspeedWork_eq (s : State) (speed : Nat) :
    s.overspeedWork speed = { s with
      ct := if s.pu.osEnters speed then claimSet s.ct .safe 0 none none else s.ct
      pu := s.pu.overspeed speed (speedCeiling s.ct).value
      sl := { s.sl with
        notices := { s.sl.notices with safeStop := s.sl.notices.safeStop || s.pu.osEnters speed } } } := by
  unfold State.overspeedWork Pu.overspeed Pu.osEnters
  rw [State.dropDemand_eq]
  cases href : s.pu.osRef with
  | none => simp [Pu.osBegins, href, State.withPu]
  | some r =>
    by_cases hover : r + 30 < speed
    · cases hbegins : s.pu.osBegins speed with
      | true =>
        have hfirst : 5 ≤ s.pu.osCount + 1 ∧ s.pu.conds.os = false := by simpa [Pu.osBegins, href, hover] using hbegins
        obtain ⟨hfull, hfresh⟩ := hfirst
        simp [href, hover, hfresh, Nat.min_eq_left hfull, State.truckBegins_eq, State.withPu, TruckSet.get,
          TruckSet.put, show (TruckClass.os != .pl) = true from rfl]
      | false =>
        have hstays : (decide (min 5 (s.pu.osCount + 1) = 5) && !s.pu.conds.os) = false := by
          simpa [Pu.osBegins, href, hover] using hbegins
        simp only [State.withPu_pu, href, hover, if_true, hstays, Bool.false_eq_true, if_false]
        simp [State.withPu]
    · simp [Pu.osBegins, href, hover, State.withPu]

/-- R184: PU after the stopped count of a pass arrival. -/
def Pu.rested (p : Pu) (speed : Nat) : Pu :=
  { p with
    level := if p.level = .safeStop ∧ speed < 5 ∧ 100 ≤ p.stopped + 1 then .stoppedSafe else p.level
    stopped := if p.level = .safeStop then (if speed < 5 ∧ p.stopped + 1 < 100 then p.stopped + 1 else 0) else p.stopped }

theorem State.stoppedWork_eq (s : State) (speed : Nat) : s.stoppedWork speed = s.withPu (s.pu.rested speed) := by
  unfold State.stoppedWork Pu.rested
  by_cases hlevel : s.pu.level = .safeStop
  · by_cases hslow : speed < 5
    · by_cases hfull : 100 ≤ s.pu.stopped + 1
      · simp [hlevel, hslow, hfull, Nat.not_lt.2 hfull]
      · simp [hlevel, hslow, hfull, Nat.lt_of_not_le hfull]
    · simp [hlevel, hslow]
  · simp [hlevel]
    rfl

end Sys2Proof.Machine
namespace Sys2Proof.Machine
open Sys2Proof

/-! ### A whole pass arrival (R178, R182, R184) -/

/-- R182: only a truck that moves has OS begin. -/
theorem Pu.osEnters_moving {p : Pu} {speed : Nat} (h : p.osEnters speed = true) : ¬ speed < 5 := by
  simp only [Pu.osEnters, Pu.osBegins, Bool.and_eq_true, Option.any_eq_true, decide_eq_true_eq] at h
  obtain ⟨⟨⟨⟨⟨r, -, hover⟩, -⟩, -⟩, -⟩, -⟩ := h
  omega

/-- R182, R184: PU's level and stopped count after a pass arrival. -/
theorem Pu.overspeed_rested (p : Pu) (speed ceiling : Nat) :
    (p.overspeed speed ceiling).rested speed = { p.overspeed speed ceiling with
      level := if p.osEnters speed then .safeStop else
        if p.level = .safeStop ∧ speed < 5 ∧ 100 ≤ p.stopped + 1 then .stoppedSafe else p.level
      stopped := if p.osEnters speed then 0 else
        if p.level = .safeStop then (if speed < 5 ∧ p.stopped + 1 < 100 then p.stopped + 1 else 0) else p.stopped } := by
  cases henters : p.osEnters speed with
  | true => simp [Pu.rested, Pu.overspeed, henters, Pu.osEnters_moving henters]
  | false => simp [Pu.rested, Pu.overspeed, henters]

section
variable (s : State) (marks : PerStation (Option Bool)) (speed : Nat)

/-- R5: the claims on SL keys leave the speed ceiling. -/
theorem State.slipJudged_speedCeiling (ht : tableLegal s.ct) (l : List Station) :
    tableLegal (s.slipJudged marks speed l).ct ∧
      speedCeiling (s.slipJudged marks speed l).ct = speedCeiling s.ct := by
  refine List.foldlRecOn (motive := fun t => tableLegal t ∧ speedCeiling t = speedCeiling s.ct) l _ ⟨ht, rfl⟩
    fun t htable n _ => ?_
  obtain ⟨hlegal, hceiling⟩ := htable
  have hkey : keyLimit (.sl n) ≠ .speed := nofun
  unfold PuStation.slipClaimed
  split
  · exact ⟨claimSet_legal hlegal .., (speedCeiling_claimSet hlegal hkey ..).trans hceiling⟩
  · split
    · exact ⟨claimRetire_legal hlegal .., (speedCeiling_claimRetire hlegal hkey _).trans hceiling⟩
    · exact ⟨hlegal, hceiling⟩

theorem exec_passArrival (ht : tableLegal s.ct) :
    let u := s.slipJudged marks speed Station.all
    exec (.passArrival marks speed) s = .next { u with
      ct := if s.pu.osEnters speed then claimSet u.ct .safe 0 none none else u.ct
      pu := (u.pu.overspeed speed (speedCeiling s.ct).value).rested speed
      sl := { u.sl with
        notices := { u.sl.notices with safeStop := u.sl.notices.safeStop || s.pu.osEnters speed } } } := by
  intro u
  have hslip : Station.all.foldl (fun t n => t.slipWork n (marks.get n) speed) s = u :=
    s.foldl_slipWork marks speed (by decide)
  obtain ⟨-, hceiling⟩ := s.slipJudged_speedCeiling marks speed ht Station.all
  refine congrArg Host.Outcome.next ?_
  rw [hslip, State.overspeedWork_eq, State.stoppedWork_eq, hceiling]
  rfl

/-- R181: the reference after a protection timer expiry. -/
theorem exec_protectionTimer :
    exec .protectionTimer s =
      .next (s.withPu { s.pu with osRef := some (trailed s.pu.osRef (speedCeiling s.ct).value) }) := rfl

end

end Sys2Proof.Machine

namespace Sys2Proof.Proofs.Protection
open Sys2Proof Sys2Proof.Machine

/-- Settles O56: the slip work of the stations in turn (`State.foldl_slipWork`), the overspeed work and the stopped count
(`exec_passArrival`), and the timer's reference row by row. -/
theorem passArrivalJudgesSlipSpeedAndStop : Obligations.PassArrivalJudgesSlipSpeedAndStop := by
  refine ⟨fun s marks speed ht => ?_, fun s => ⟨fun href => ?_, fun r href => ?_⟩⟩
  · intro p begins enters slips slipCount clearCount starts ends trips kept
    have hcounted (n : Station) : s.slipCounted marks n =
        { s.puStation n with slipCount := slipCount n, clearCount := clearCount n } := PuStation.count_eq ..
    have hstarts (n : Station) : (s.slipCounted marks n).slipBegins = starts n := by rw [hcounted]; rfl
    have hends (n : Station) : (s.slipCounted marks n).slipEnds = ends n := by rw [hcounted]; rfl
    have hkept : (s.slipJudged marks speed Station.all).ct = kept := by
      simp only [State.slipJudged, PuStation.slipClaimed, hstarts, hends]
      rfl
    refine ⟨_, exec_passArrival s marks speed ht, rfl, ?_, ?_, ?_, fun n => ?_, ?_⟩
    · rw [hkept]
      rfl
    · simp only [State.slipJudged, hstarts]
      rfl
    · simp only [State.slipJudged, hstarts, Station.mem_all, decide_true, Bool.true_and]
      rfl
    · refine (PerStation.get_of _ n).trans ((if_pos n.mem_all).trans ?_)
      rw [hcounted]
      rfl
    · rw [Pu.overspeed_rested]
      rfl
  · rw [exec_protectionTimer, href]
    rfl
  · rw [exec_protectionTimer, href]
    rfl

end Sys2Proof.Proofs.Protection

namespace Sys2Proof.Machine
open Sys2Proof

/-! ### A report judged (R176, R177, R179) -/

theorem tagFirst_snoc (escalates : StationClass → Bool) (l : List StationClass) (c : StationClass) :
    tagFirst escalates (l ++ [c]) =
      tagFirst escalates l ++ [(c, !(tagFirst escalates l).any (fun d => d.2) && escalates c)] := by
  induction l with
  | nil => cases h : escalates c <;> simp [tagFirst, h]
  | cons d l ih => cases h : escalates d <;> simp [tagFirst, h, ih]

theorem StationFlags.put_of_get {f : StationFlags} {c : StationClass} {b : Bool} (h : f.get c = b) : f.put c b = f := by
  subst h
  cases c <;> rfl

/-- R173: the class, if its condition, which holds now or does not, begins. -/
def PuStation.begun (p : PuStation) (c : StationClass) (now : Bool) : List StationClass :=
  if now && !p.conds.get c then [c] else []

/-- R173: PU's record of a station, of which a class holds now or does not. -/
def PuStation.holding (p : PuStation) (c : StationClass) (now : Bool) : PuStation :=
  { p with conds := p.conds.put c now }

/-- A report or link-lost event that carries `st`, judged so far: the classes in `l` have begun at it, the table is `t`
and PU's record of the station `p`; and whether a claim has been sent as tripping. -/
def State.begunAt (s : State) (n : Station) (st : StationState) (l : List StationClass) (t : List Slot) (p : PuStation) :
    State × Bool :=
  (s.judgedTo n t p (tagFirst (s.tripsFor n st) l), (tagFirst (s.tripsFor n st) l).any fun c => c.2)

theorem State.markStation_eq (s : State) (n : Station) (c : StationClass) (now : Bool) :
    s.markStation n c now = s.judgedTo n s.ct ((s.puStation n).holding c now) [] := by
  conv_lhs => rw [← s.judgedTo_self n]
  exact State.judgedTo_markStation ..

section
variable {s : State} {n : Station} {st : StationState} {l : List StationClass} {t : List Slot} {p : PuStation}

/-- R173: the mask set that tests a class stands while the event is judged. -/
theorem State.begunAt_tripsFor (hp : p.copy = (s.puStation n).copy) :
    (s.begunAt n st l t p).1.tripsFor n st = s.tripsFor n st := by
  funext c
  unfold State.tripsFor State.ownSettings
  rw [State.begunAt, State.judgedTo_puStation, hp]
  rfl

/-- R173, R179: a class begins, unless it held. -/
theorem State.begunAt_beginClass (hp : p.copy = (s.puStation n).copy) (c : StationClass) :
    (s.begunAt n st l t p).1.beginClass n st c (s.begunAt n st l t p).2 =
      s.begunAt n st (l ++ p.begun c true) t (p.holding c true) := by
  unfold State.beginClass PuStation.begun
  rw [State.begunAt_tripsFor hp, show (s.begunAt n st l t p).1.puStation n = p from State.judgedTo_puStation ..]
  cases hc : p.conds.get c with
  | true =>
    rw [PuStation.holding, StationFlags.put_of_get hc]
    simp
  | false =>
    simp only [Bool.false_eq_true, if_false, Bool.not_false, Bool.and_true, if_true]
    rw [State.begunAt, State.begunAt, State.judgedTo_markStation, State.judgedTo_sendRaise, tagFirst_snoc, List.any_append]
    simp [PuStation.holding]

/-- R176: IV. -/
theorem judgeIv_begunAt (hp : p.copy = (s.puStation n).copy) (r : Judged) :
    judgeIv n st r (s.begunAt n st [] t p).1 =
      s.begunAt n st (p.begun .iv r.invFault) t (p.holding .iv r.invFault) := by
  unfold judgeIv
  cases r.invFault with
  | true => exact State.begunAt_beginClass (l := []) hp .iv
  | false => exact congrArg (·, false) (State.judgedTo_markStation ..)

/-- R176: OC. -/
theorem judgeOc_begunAt (hp : p.copy = (s.puStation n).copy) (r : Judged) :
    judgeOc n st r (s.begunAt n st l t p) =
      s.begunAt n st (l ++ p.begun .oc r.peakOc)
        (if r.peakOc then claimSet t (.oc n) 500 (some 20) (some ⟨.time, 50⟩) else t) (p.holding .oc r.peakOc) := by
  unfold judgeOc
  cases r.peakOc with
  | true =>
    rw [State.begunAt_beginClass hp]
    rfl
  | false =>
    rw [show p.begun .oc false = [] from rfl, List.append_nil]
    exact congrArg (·, _) (State.judgedTo_markStation ..)

/-! #### The two temperatures (R176) -/

/-- The two temperatures of a report. -/
inductive Heat where
  | motor | inverter

def Heat.cls : Heat → StationClass
  | .motor => .mt | .inverter => .it

def Heat.key (n : Station) : Heat → Key
  | .motor => .mt n | .inverter => .it n

def Heat.warning (p : Pu) : Heat → Nat
  | .motor => p.motorWarn | .inverter => p.inverterWarn

def Heat.reading (r : Judged) : Heat → Int
  | .motor => r.motor | .inverter => r.inverter

/-- The value last claimed on the temperature's key. -/
def Heat.claimed (p : PuStation) : Heat → Option Nat
  | .motor => p.mtClaimed | .inverter => p.itClaimed

def Heat.recorded (p : PuStation) (v : Option Nat) : Heat → PuStation
  | .motor => { p with mtClaimed := v } | .inverter => { p with itClaimed := v }

theorem Heat.claimed_holding (k : Heat) (c : StationClass) (now : Bool) : k.claimed (p.holding c now) = k.claimed p := by
  cases k <;> rfl

theorem Heat.recorded_claimed (k : Heat) : k.recorded p (k.claimed p) = p := by cases k <;> rfl

/-- R176: the record of a temperature class follows a reading, once the class has begun at it or not. -/
def recordHeat (k : Heat) (n : Station) (reading : Int) (warn : Nat) (y : State × Bool) : State × Bool :=
  let p := y.1.puStation n
  if p.conds.get k.cls then
    if reading < (warn : Int) - 5 then
      ((y.1.release (k.key n) none).setPuStation n (k.recorded (p.holding k.cls false) none), y.2)
    else if k.claimed p = some (tempValue reading warn) then y
    else
      ((y.1.claim (k.key n) (tempValue reading warn) (some 10) none).setPuStation n
        (k.recorded p (some (tempValue reading warn))), y.2)
  else y

/-- R176: a temperature judged, whichever it is. -/
def judgeHeat (k : Heat) (n : Station) (st : StationState) (r : Judged) (x : State × Bool) : State × Bool :=
  recordHeat k n (k.reading r) (k.warning x.1.pu)
    (if (k.warning x.1.pu : Int) ≤ k.reading r then x.1.beginClass n st k.cls x.2 else x)

theorem judgeMt_eq (n : Station) (st : StationState) (r : Judged) (x : State × Bool) :
    judgeMt n st r x = judgeHeat .motor n st r x := rfl

theorem judgeIt_eq (n : Station) (st : StationState) (r : Judged) (x : State × Bool) :
    judgeIt n st r x = judgeHeat .inverter n st r x := rfl

section
variable {k : Heat} {reading : Int} {warn : Nat}

/-- R176: while the class holds, its record is claimed at each new value. -/
theorem recordHeat_holds (hget : p.conds.get k.cls = true) (hwarm : ¬ reading < (warn : Int) - 5) :
    recordHeat k n reading warn (s.begunAt n st l t p) =
      s.begunAt n st l
        (if k.claimed p = some (tempRecord reading warn) then t
          else claimSet t (k.key n) (tempRecord reading warn) (some 10) none)
        (k.recorded p (some (tempRecord reading warn))) := by
  have hvalue : tempValue reading warn = tempRecord reading warn := rfl
  unfold recordHeat
  rw [show (s.begunAt n st l t p).1.puStation n = p from State.judgedTo_puStation .., hvalue]
  dsimp only
  rw [if_pos hget, if_neg hwarm]
  by_cases hsame : k.claimed p = some (tempRecord reading warn)
  · rw [if_pos hsame, if_pos hsame, ← hsame, Heat.recorded_claimed]
  · rw [if_neg hsame, if_neg hsame]
    simp only [State.begunAt, State.judgedTo_claim, State.judgedTo_setPuStation]

/-- R176: the class ends, and its record with it. -/
theorem recordHeat_ends (hget : p.conds.get k.cls = true) (hcool : reading < (warn : Int) - 5) :
    recordHeat k n reading warn (s.begunAt n st l t p) =
      s.begunAt n st l (claimRetire t (k.key n) none) (k.recorded (p.holding k.cls false) none) := by
  unfold recordHeat
  rw [show (s.begunAt n st l t p).1.puStation n = p from State.judgedTo_puStation ..]
  dsimp only
  rw [if_pos hget, if_pos hcool]
  simp only [State.begunAt, State.judgedTo_release, State.judgedTo_setPuStation]

theorem recordHeat_quiet (hget : p.conds.get k.cls = false) :
    recordHeat k n reading warn (s.begunAt n st l t p) = s.begunAt n st l t p := by
  unfold recordHeat
  rw [show (s.begunAt n st l t p).1.puStation n = p from State.judgedTo_puStation ..]
  exact if_neg (by simp [hget])

end

/-- R176: a temperature class begins, holds on or ends, and its record follows the reading. -/
theorem judgeHeat_begunAt (hp : p.copy = (s.puStation n).copy) (k : Heat) (r : Judged) :
    let now := tempHolds (p.conds.get k.cls) (k.reading r) (k.warning s.pu)
    let claim := tempClaim t (k.key n) (p.conds.get k.cls) (k.claimed p) (k.reading r) (k.warning s.pu)
    judgeHeat k n st r (s.begunAt n st l t p) =
      s.begunAt n st (l ++ p.begun k.cls now) claim.2 (k.recorded (p.holding k.cls now) claim.1) := by
  have hwarning : k.warning (s.begunAt n st l t p).1.pu = k.warning s.pu := by cases k <;> rfl
  rw [judgeHeat, hwarning]
  generalize k.reading r = reading
  generalize k.warning s.pu = warn
  intro now claim
  by_cases hot : (warn : Int) ≤ reading
  · have hnow : now = true := by simp [now, tempHolds, hot]
    have hclaim : claim = (some (tempRecord reading warn), if k.claimed p = some (tempRecord reading warn) then t
        else claimSet t (k.key n) (tempRecord reading warn) (some 10) none) := if_pos hnow
    have hget : (p.holding k.cls true).conds.get k.cls = true := by cases k <;> rfl
    rw [if_pos hot, State.begunAt_beginClass hp, recordHeat_holds hget (by omega), hnow, hclaim, Heat.claimed_holding]
  · rw [if_neg hot]
    cases hwas : p.conds.get k.cls with
    | false =>
      have hnow : now = false := by simp [now, tempHolds, hot, hwas]
      have hclaim : claim = (k.claimed p, t) := (if_neg (by simpa using hnow)).trans (if_neg (by simp [hwas]))
      rw [recordHeat_quiet hwas, hnow, hclaim, PuStation.holding, StationFlags.put_of_get hwas, Heat.recorded_claimed]
      simp [PuStation.begun]
    | true =>
      by_cases hcool : reading < (warn : Int) - 5
      · have hnow : now = false := by simp [now, tempHolds, hot, Int.not_le.2 hcool]
        have hclaim : claim = (none, claimRetire t (k.key n) none) :=
          (if_neg (by simpa using hnow)).trans (if_pos hwas)
        rw [recordHeat_ends hwas hcool, hnow, hclaim]
        simp [PuStation.begun]
      · have hnow : now = true := by simp [now, tempHolds, hwas, Int.not_lt.1 hcool]
        have hclaim : claim = (some (tempRecord reading warn), if k.claimed p = some (tempRecord reading warn) then t
            else claimSet t (k.key n) (tempRecord reading warn) (some 10) none) := if_pos hnow
        rw [recordHeat_holds hwas hcool, hnow, hclaim, PuStation.holding, StationFlags.put_of_get hwas]
        simp [PuStation.begun, hwas]

/-- R176, R177: a report judged: LK ends, and IV, OC, MT and IT begin, hold on or end. -/
theorem State.judgeReport_eq (s : State) (n : Station) (st : StationState) (r : Judged) :
    let q := s.puStation n
    let now : StationFlags :=
      { oc := r.peakOc, mt := tempHolds q.conds.mt r.motor s.pu.motorWarn
        it := tempHolds q.conds.it r.inverter s.pu.inverterWarn, sl := q.conds.sl, lk := false, iv := r.invFault }
    let t := if r.peakOc then claimSet s.ct (.oc n) 500 (some 20) (some ⟨.time, 50⟩) else s.ct
    let motor := tempClaim t (.mt n) q.conds.mt q.mtClaimed r.motor s.pu.motorWarn
    let inverter := tempClaim motor.2 (.it n) q.conds.it q.itClaimed r.inverter s.pu.inverterWarn
    s.judgeReport n st r = (s.begunAt n st ([StationClass.iv, .oc, .mt, .it].filter fun c => now.get c && !q.conds.get c)
      inverter.2 { q with conds := now, mtClaimed := motor.1, itClaimed := inverter.1 }).1 := by
  intro q now t motor inverter
  have hlk : s.markStation n .lk false = (s.begunAt n st [] s.ct (q.holding .lk false)).1 := s.markStation_eq ..
  have hbegun : [StationClass.iv, .oc, .mt, .it].filter (fun c => now.get c && !q.conds.get c) =
      q.begun .iv now.iv ++ q.begun .oc now.oc ++ q.begun .mt now.mt ++ q.begun .it now.it := by
    have hcons (c : StationClass) (l : List StationClass) : (c :: l).filter (fun c => now.get c && !q.conds.get c) =
        q.begun c (now.get c) ++ l.filter fun c => now.get c && !q.conds.get c := by
      unfold PuStation.begun
      rw [List.filter_cons]
      split <;> rfl
    simp only [hcons, List.filter_nil, List.append_nil, List.append_assoc]
    rfl
  rw [State.judgeReport, hlk, judgeIv_begunAt, judgeOc_begunAt, judgeMt_eq, judgeHeat_begunAt, judgeIt_eq,
    judgeHeat_begunAt, hbegun]
  all_goals rfl

theorem State.judgedTo_ceaseJudging (claims : List (StationClass × Bool)) :
    (s.judgedTo n t p claims).ceaseJudging n = s.judgedTo n (stationKeysRetired t n) p.unjudged claims := by
  simp only [State.ceaseJudging, State.judgedTo_release, State.judgedTo_puStation, State.judgedTo_setPuStation]
  rfl

end

end Sys2Proof.Machine

namespace Sys2Proof.Machine
open Sys2Proof

section
variable {s : State} {n : Station} {st : StationState}

theorem StationState.judged_eq_true (habsent : st ≠ .absent) (hparked : st ≠ .parked) : st.judged = true := by
  cases st
  case absent => exact absurd rfl habsent
  case parked => exact absurd rfl hparked
  all_goals rfl

theorem exec_reportJudgement (r : Judged) (hst : st.judged = true) :
    exec (.reportJudgement n st r) s = .next
      (if (s.puStation n).copy = .parked then (s.judgeReport n st r).ceaseJudging n else s.judgeReport n st r) :=
  congrArg Host.Outcome.next (if_pos hst)

theorem exec_linkLostEvent (hst : st.judged = true) :
    let t := (s.beginClass n st .lk false).1
    exec (.linkLostEvent n st) s = .next
      (if (s.puStation n).copy = .parked then t.setPuStation n (t.puStation n).unjudged else t) :=
  congrArg Host.Outcome.next (if_pos hst)

/-- R173: the mask set that tests a station's classes (log 44). -/
theorem State.tripsFor_eq (s : State) (n : Station) (st : StationState) :
    let own := if (s.puStation n).copy == .parked then (s.station n).parkSlot.getD Settings.default
      else (s.station n).settings
    s.tripsFor n st = fun c => st.tripsHere && !own.mask.masks c := by
  intro own
  have hown : s.ownSettings n = own := if_congr (beq_iff_eq (a := (s.puStation n).copy)).symm rfl rfl
  funext c
  rw [State.tripsFor, hown]
  rfl

/-- R177: LK begins at a link-lost event, and its raise claim trips in the states that let it. -/
theorem State.beginClass_lk (h : (s.puStation n).conds.lk = false) :
    (s.beginClass n st .lk false).1 =
      s.judgedTo n s.ct ((s.puStation n).holding .lk true) [(.lk, st.tripsHere)] := by
  have htrips : s.tripsFor n st .lk = st.tripsHere := Bool.and_true _
  have hbegin : (s.puStation n).conds.get .lk = false := h
  unfold State.beginClass
  rw [hbegin, htrips, if_neg Bool.false_ne_true]
  dsimp only
  rw [Bool.not_false, Bool.true_and, State.markStation_eq, State.judgedTo_sendRaise]
  rfl

theorem PuStation.unjudged_of_parked {p : PuStation} (h : p.copy = .parked) : p.unjudged = p.parked := by
  rw [PuStation.parked, ← h]
  rfl

end

end Sys2Proof.Machine

namespace Sys2Proof.Proofs.Protection
open Sys2Proof Sys2Proof.Machine

/-- R173, R177, R179: a link-lost event begins LK. -/
theorem linkLostEvent_begins (s : State) (n : Station) {st : StationState} (hst : st.judged = true)
    (hlk : (s.puStation n).conds.lk = false) :
    let q := s.puStation n
    exec (.linkLostEvent n st) s = .next (s.judgedTo n s.ct
      (if q.copy == .parked then q.parked else q.holding .lk true) [(.lk, st.tripsHere)]) := by
  intro q
  rw [exec_linkLostEvent hst, State.beginClass_lk hlk]
  by_cases hparked : q.copy = .parked
  · rw [if_pos hparked, if_pos (beq_iff_eq.2 hparked), State.judgedTo_puStation, State.judgedTo_setPuStation,
      PuStation.unjudged_of_parked]
    · rfl
    · exact hparked
  · rw [if_neg hparked, if_neg (by simpa using hparked)]

/-- Settles O57: a report by the state that its judgement leaves (`State.judgeReport_eq`), a link-lost event by LK's begin
(`linkLostEvent_begins`), and a truck class by what its begin does (`State.truckBegins_eq`). -/
theorem reportsAndConditionsAreJudged : Obligations.ReportsAndConditionsAreJudged := by
  refine ⟨fun s n st r => ⟨fun hst => ?_, fun habsent hparked => ?_⟩, fun s c cause => ?_⟩
  · rcases hst with rfl | rfl <;> exact ⟨rfl, rfl⟩
  · have hst : st.judged = true := StationState.judged_eq_true habsent hparked
    intro q was parked own unjudged now begun claims t0 motor inverter
    refine ⟨?_, fun hlk hpark => ?_, fun hlk => ?_⟩
    · have hclaims : tagFirst (s.tripsFor n st) begun = claims := by rw [State.tripsFor_eq]
      rw [exec_reportJudgement r hst, State.judgeReport_eq, State.begunAt, hclaims]
      by_cases hparked : q.copy = .parked
      · have hpark : parked = true := beq_iff_eq.2 hparked
        rw [if_pos hparked, State.judgedTo_ceaseJudging, PuStation.unjudged_of_parked, hpark]
        · rfl
        · exact hparked
      · have hpark : parked = false := beq_false_of_ne hparked
        rw [if_neg hparked, hpark]
        rfl
    · have hstands : (s.beginClass n st .lk false).1 = s := congrArg Prod.fst (if_pos hlk)
      rw [exec_linkLostEvent hst, hstands, if_neg (beq_eq_false_iff_ne.1 hpark)]
    · rw [linkLostEvent_begins s n hst hlk]
      cases htrips : st.tripsHere <;> rfl
  · intro k
    refine ⟨fun hholds => ?_, fun hfresh => ?_, rfl⟩
    · exact congrArg Host.Outcome.next (if_pos hholds)
    · exact congrArg Host.Outcome.next ((if_neg (Bool.not_eq_true _ ▸ hfresh)).trans (s.truckBegins_eq k))

end Sys2Proof.Proofs.Protection
